-- ==== Sys2Proof/Word.lean ====
section
/-! DEFINITION. The word types of the SV9: a 64-bit register value, a byte, a 32-bit lane or instruction word. -/

namespace Sys2Proof

/-- A 64-bit register or queue value (R178). -/
abbrev Word := BitVec 64

/-- A byte of any storage (R1). -/
abbrev Byte := BitVec 8

/-- A 32-bit lane of a tile register (R346). -/
abbrev Lane := BitVec 32

/-- An instruction word (R107). -/
abbrev IWord := BitVec 32

end Sys2Proof
end

