-- ==== Sys2Proof/Syntax.lean ====
section
/-! DEFINITION. The instructions and events of the SV9: one constructor of `Instr` for each row of
spec/opcode_table.json. The first 225 are instruction words; the others are the steps of engines, fabric,
schedulers, hosts and the Winter die, which carry what arrives as plain data. -/

namespace Sys2Proof

/-- The two streams of an activation (R107, R155). -/
inductive Stream where
  | a | e
  deriving DecidableEq, Repr

/-- A register code of Table 04.2. Codes 21 to 31 name nothing (R109). -/
inductive Reg where
  | r (n : Fin 16) | z | lq | sq | fq | rq
  deriving DecidableEq, Repr

/-- Shapes of a tile operand (R114, R347). -/
inductive Shape where
  | whole | row | col
  deriving DecidableEq, Repr

/-- A slice operand: shape, index register and index offset (R347). -/
structure Slice where
  shape : Shape
  ix : Reg
  io : BitVec 4
  deriving DecidableEq, Repr

/-- Load sizes (Table 06.2). -/
inductive LdSize where
  | b | bu | h | hu | w | wu | d
  deriving DecidableEq, Repr

/-- Store sizes (Table 06.2). -/
inductive StSize where
  | b | h | w | d
  deriving DecidableEq, Repr

/-- Atomic sizes (Table 06.3). -/
inductive AmSize where
  | w | d
  deriving DecidableEq, Repr

/-- Local storage kinds of format CP (R116). -/
inductive Ls where
  | sp | ab | cb | wb | code
  deriving DecidableEq, Repr

/-- Spaces of format VM (R117). -/
inductive Spc where
  | sp | ab | cb
  deriving DecidableEq, Repr

/-- Scopes of Table 03.2. -/
inductive Scope where
  | core | group | clus | die | pkg | sys
  deriving DecidableEq, Repr

/-- Fetch steering of format B (R122). -/
inductive Fh where
  | fall | target | hold
  deriving DecidableEq, Repr

/-- Operations of the atomics (Table 06.3); `cas` is apart. -/
inductive AmoFn where
  | add | and | or | xor | min | max | minu | maxu | swap
  deriving DecidableEq, Repr

/-! ## What the events carry -/

/-- A fault record (Table 01.8), by its fields. `detail` is bytes 36 to 63. -/
structure FaultRec where
  kind : Nat
  engine : Nat
  notice : Bool := false
  frozen : Bool := false
  sealed : Bool := false
  reply : Bool := false
  place : Nat
  skind : Nat := 0
  asid : Nat
  entry : Nat
  priv : Bool := false
  stream : Nat := 0
  pc : Nat := 0
  serial : Nat := 0
  va : Nat := 0
  wid : Nat := 0
  cseq : Nat := 0
  detail : List Byte := []
  deriving DecidableEq, Repr

/-- A service message (R145, R152): service kind 1 fault record, 2 containment notice, 3 supervisor
message; `bytes` are its 64 bytes. `hop` is 0 towards the service core and 1 towards the supervisor. -/
structure SvcMsg where
  kind : Nat
  src : Nat
  dst : Nat
  hop : Nat := 0
  rcd : Option FaultRec := none
  bytes : List Byte
  deriving DecidableEq, Repr

/-- What a global access does at its home slice. `xlate` translates only (R214); `commit` is the write of a
store whose translation has succeeded (R197). -/
inductive AccOp where
  | load | read | commit | amo (fn : AmoFn) | cas | xprobe | pf | xlate (write : Bool)
  deriving DecidableEq, Repr

/-- A global access on its way to a slice (classes 0 and 2). `copy` names the transfer or fill context and the segment
whose translation a copy engine asks for (R293), `win` that a window put asks (R336). -/
structure GReq where
  place : Nat
  act : Nat
  seq : Nat
  part : Nat
  asid : Nat
  va : Nat
  n : Nat
  op : AccOp
  data : Nat := 0
  exp : Nat := 0
  epoch : Nat := 0
  pa : Nat := 0
  uc : Bool := false
  nt : Bool := false
  copy : Option (Nat × Nat) := none
  win : Bool := false
  deriving DecidableEq, Repr

/-- The slice's answer to a global access (class 1). -/
inductive GRes where
  | data (v : Nat)
  | translated
  | fault (cause lvl ent slice : Nat)
  | error (cause : Nat)
  | nokey (ctl : Nat)
  deriving DecidableEq, Repr

/-- A reply to a global access, with the request it answers. -/
structure GReply where
  req : GReq
  res : GRes
  deriving DecidableEq, Repr

/-- A canonical automaton (R239): state count, shared flag, sorted transition words. -/
structure Automaton where
  nst : Nat
  shared : Bool
  edges : List Nat
  deriving DecidableEq, Repr

/-- Sub kinds of channel packets (Table 07.16). -/
inductive ChanSub where
  | request | answer | data | label | endp | close | redirect | redirectAck | stubEnd
  | forwarded (orig : Nat) | errorNotice | adopterName | reserved (code : Nat)
  deriving DecidableEq, Repr

/-- What an endpoint message carries (R265). `conn` is the number by which a region controller knows the connection, of the engine's
working data. -/
structure EndpMsg where
  aut : Automaton
  cur : Nat
  peer : Nat
  pkind : Nat
  pep : Nat
  stub : Nat
  stubEp : Nat
  sseq : Nat := 0
  rseq : Nat := 0
  conn : Nat := 0
  deriving DecidableEq, Repr

/-- A channel packet (class 6). `cmd` is the sending core's command, or for data 7 of a controller its region's index and 1.
`bia` is the built-in automaton of a request; elsewhere 1 says that a router sent it, 2 that an adopted endpoint did, and 3 that a stub
forwards what a router sent. `cno` is the number of the sender's channel, `conn` that of a controller's connection, and `rel` the release
that it is (R94): the core, its activation, and the number of the last load-store command before it. -/
structure ChanMsg where
  sub : ChanSub
  src : Nat
  skind : Nat := 0
  sep : Nat
  dst : Nat
  dkind : Nat := 0
  dep : Nat
  asid : Nat
  ty : Nat := 0
  code : Nat := 0
  conf : Bool := false
  bia : Nat := 0
  seq : Nat := 0
  key : Nat := 0
  aut : Option Automaton := none
  endp : Option EndpMsg := none
  payload : List Byte := []
  cmd : Nat := 0
  tries : Nat := 0
  cno : Nat := 0
  conn : Nat := 0
  rel : Option (Nat × Nat × Nat) := none
  deriving DecidableEq, Repr

/-- A shared-endpoint post (class 7). -/
structure PostMsg where
  src : Nat
  dst : Nat
  dep : Nat
  asid : Nat
  ty : Nat
  payload : List Byte
  act : Nat
  tag : Nat
  seq : Nat
  deriving DecidableEq, Repr

/-- Where one side of a copy unit lies. `glob` is a virtual address of this package, `chipGlob` of another
chip, `core` the scratchpad of a core, `loc` the issuing core's own storage. -/
inductive Side where
  | glob (va : Nat)
  | chipGlob (chip va : Nat)
  | core (place spa : Nat)
  | loc (ls : Ls) (addr : Nat)
  deriving DecidableEq, Repr

/-- The command that a unit of a window put belongs to, which may have been performed before the unit arrives (R16, R316). -/
structure CopyBy where
  ent : Nat := 31
  pc : Nat := 0
  wid : Nat := 0
  cseq : Nat := 0
  priv : Bool := false
  code : Nat := 0
  batch : Nat := 0
  piece : Nat := 1
  deriving DecidableEq, Repr

/-- A copy unit of at most 64 bytes on its way to its destination (class 3), with the command it belongs to.
`poison` marks a unit whose source was in error (R296). `todo` are the pieces that are still to be written, of a unit that has begun
to be (R102). -/
structure CopyUnit where
  place : Nat
  ctx : Nat
  asid : Nat
  dst : Side
  off : Nat
  bytes : List Byte
  poison : Bool := false
  swa : Option Nat := none
  wcn : Option Nat := none
  asidX : Nat := 0
  echo : Option (Nat × Nat) := none
  checked : Bool := false
  pa : Nat := 0
  uc : Bool := false
  nt : Bool := false
  tries : Nat := 0
  by_ : CopyBy := {}
  todo : Option (List (Nat × Nat)) := none
  deriving DecidableEq, Repr

/-- A get request for one unit (class 4) or a segment translation request. -/
structure GetReq where
  place : Nat
  ctx : Nat
  asid : Nat
  src : Side
  off : Nat
  n : Nat
  pa : Nat := 0
  uc : Bool := false
  pois : Bool := false
  nt : Bool := false
  tries : Nat := 0
  by_ : CopyBy := {}
  todo : Option (List (Nat × Nat)) := none
  got : List (Nat × Byte) := []
  deriving DecidableEq, Repr

/-- What a copy engine sends again (R294). -/
inductive CopyMsg where
  | unit (u : CopyUnit)
  | get (g : GetReq)
  deriving DecidableEq, Repr

/-- Data of a get (class 5); `todo` as of a copy unit. -/
structure GetData where
  req : GetReq
  bytes : List Byte
  poison : Bool := false
  todo : Option (List (Nat × Nat)) := none
  deriving DecidableEq, Repr

/-- A segment translation's answer (R293, R318). `seg` is the offset of the segment. -/
structure XlReply where
  place : Nat
  ctx : Nat
  seg : Nat
  epoch : Nat
  res : GRes
  pa : Nat := 0
  uc : Bool := false
  pois : Bool := false
  deriving DecidableEq, Repr

/-- A refusal or retry of a copy unit or a get. -/
structure CopyRefusal where
  place : Nat
  ctx : Nat
  off : Nat
  cls : Nat
  cause : Nat
  window : Bool := false
  far : Nat := 0
  by_ : CopyBy := {}
  deriving DecidableEq, Repr

/-- A capsule header (Table 12.2), by its fields. -/
structure CapHdr where
  cid : Nat
  asid : Nat
  nst : Nat
  cur : Nat
  fcode : Nat
  st : Nat
  len : Nat
  rtn : Nat
  flt : Nat
  steps : List Nat
  deriving DecidableEq, Repr

/-- A capsule on the fabric (class 8). `sub` 1 is a loss notice; `sender` is the router whose egress buffer
sent it. -/
structure Capsule where
  hdr : CapHdr
  payload : List Byte
  sub : Nat := 0
  sender : Nat
  rtry : Nat := 0
  deriving DecidableEq, Repr

/-- A region or window command on its way to its home controller (class 9). -/
structure RegCmd where
  place : Nat
  act : Nat
  seq : Nat
  asid : Nat
  priv : Bool
  entry : Nat
  pc : Nat
  wid : Nat := 0
  window : Bool
  fn : Nat
  ctl : Nat
  v1 : Nat
  v2 : Nat := 0
  v3 : Nat := 0
  wcn : Nat := 0
  deriving DecidableEq, Repr

/-- A queued task record (Table 13.1). `ready` is when it became Ready, `core` where it is Offered or Running, `avoid` the
cores of a pair that has diverged (R451). -/
structure TaskRec where
  code : Nat
  csize : Nat
  prio : Nat
  hard : Bool
  paired : Bool
  die : Nat
  widths : Nat
  wid : Nat
  args : List Nat
  gang : Nat
  asid : Nat
  rst : Nat := 0
  tag : Nat := 0
  rcnt : Nat := 0
  peer : Nat := 0
  rid : Nat := 0
  ready : Nat := 0
  core : Nat := 0
  avoid : List Nat := []
  slot : Nat := 0
  deriving DecidableEq, Repr

/-- A launch header (Table 04.17), by its fields. `bad` says a reserved bit is set. -/
structure Launch where
  code : Nat
  csize : Nat
  prio : Nat
  hard : Bool
  paired : Bool
  die : Nat
  widths : Nat
  wid : Nat
  trip : Nat
  chunk : Nat
  gang : Nat
  args : List Nat
  bad : Bool
  deriving DecidableEq, Repr

/-- Which master sent a control message (R476). -/
inductive Master where
  | qp (port qpn : Nat)
  | munte
  deriving DecidableEq, Repr

/-- A control message's frame: master, sequence number. -/
structure CtlFrom where
  master : Master
  seq : Nat
  deriving DecidableEq, Repr

/-- Who waits for the answer to a hand-off: a region's action, or the master of a LAUNCH, which the directory answers (R478). -/
inductive LaunchFrom where
  | region (ctl idx : Nat)
  | host (f : CtlFrom)
  deriving DecidableEq, Repr

/-- Bytes that a write has performed under marks: how many, and the home controller and number of each mark's `rg.arm` (R323). -/
structure Counted where
  n : Nat
  arms : List (Nat × Nat)
  deriving DecidableEq, Repr

/-- Bytes that a controller reports to a region's home: how many, and the number of the `rg.arm` that they count for (R97, R323). -/
structure Reported where
  n : Nat
  arm : Nat
  deriving DecidableEq, Repr

/-- A fork-child or continuation word (R444, R446). -/
structure ChildWord where
  unit : Nat
  cell : Nat
  gen : Nat
  chunk : Nat
  cont : Bool
  ent : Nat
  wid : Nat
  widths : Nat
  args : List Nat
  asid : Nat := 0
  deriving DecidableEq, Repr

/-- A word that marks a handler entry (Table 05.2). -/
inductive MarkWord where
  | endpoint (ep : Nat)
  | capsule (ent : Nat)
  | wake (ent arg ctl idx : Nat)
  | child (w : ChildWord)
  | task (ent : Nat) (rcd : TaskRec)
  deriving DecidableEq, Repr

/-- Answers of an action attempt (R327, R328). -/
inductive ActAns where
  | accepted | refused | retry | unmatched
  deriving DecidableEq, Repr

/-- Requests to a scheduler, directory, fork unit or target core (sub kind 7 of R434). -/
inductive SchedReq where
  | spawn (h : Launch)
  | gang (h : Launch) (hold : Nat)
  | fork (h : Launch) (word : Nat)
  | join (handle : Nat)
  | evict (target area : Nat)
  | rstr (target asid csize area code : Nat)
  | sealReq (target : Nat)
  | thaw (target : Nat)
  deriving DecidableEq, Repr

/-- A scheduler message between dies (Table 13.3). -/
inductive StealMsg where
  | request (pairs : List (Nat × Nat))
  | none
  | record (rcd : TaskRec)
  | ack (tag : Nat)
  | confirm (tag : Nat)
  | revoke (tag : Nat)
  | taken (tag : Nat)
  | lentQuery (tag : Nat)
  | held (tag : Nat)
  | unknown (tag : Nat)
  | heldQuery (tag : Nat)
  deriving DecidableEq, Repr

/-- Messages of the directory and a die's scheduler about a core for a gang (sub kind 5 of R434, R441): it is to be reserved, and has been or
has not; or it is released. -/
inductive GangMsg where
  | reserve (asid code : Nat)
  | reserved
  | denied
  | release
  deriving DecidableEq, Repr

/-- What a packet carries. `capRefused` is a refusal reply that names a capsule, `launched` a scheduler's answer to a record that the
directory has handed to it (R478), `refusal` is a refusal reply that ends no command, `schedReserved` a scheduler message with a reserved
sub kind (R434). -/
inductive Msg where
  | access (slice : Nat) (r : GReq)
  | reply (r : GReply)
  | chan (m : ChanMsg)
  | post (m : PostMsg)
  | postAns (place act tag seq code ep : Nat)
  | copyUnit (u : CopyUnit)
  | getReq (g : GetReq)
  | getData (d : GetData)
  | xlReply (r : XlReply)
  | copyRefusal (r : CopyRefusal)
  | copyRetry (m : CopyMsg)
  | putAck (place wcn n : Nat)
  | echo (place wcn n : Nat)
  | capsule (c : Capsule)
  | capRetry (c : Capsule)
  | capRefused (c : Capsule)
  | region (c : RegCmd)
  | regAck (place act seq : Nat) (val : Option Nat)
  | report (ctl idx n arm : Nat)
  | action (place : Nat) (w : MarkWord)
  | genAdv (place spa ctl idx : Nat)
  | actionAns (ctl idx : Nat) (a : ActAns)
  | handoff (die : Nat) (rcd : TaskRec) (src : LaunchFrom)
  | dispatch (place ent : Nat) (rcd : TaskRec)
  | dispatchAns (die rid : Nat) (ok : Bool)
  | finished (die rid : Nat)
  | tableQuery (place die rid : Nat)
  | tableAns (die rid : Nat) (has : Bool)
  | steal (die src : Nat) (m : StealMsg)
  | gang (place epoch : Nat) (m : GangMsg)
  | launched (f : CtlFrom) (code rid : Nat)
  | child (place : Nat) (w : ChildWord)
  | sched (place act tag seq entry : Nat) (r : SchedReq)
  | schedAns (place act tag : Nat) (val : Nat)
  | service (m : SvcMsg)
  | hash (p engine num : Nat) (h : BitVec 64)
  | refusal (place : Nat)
  | schedReserved (sub : Nat)
  deriving DecidableEq, Repr

/-- A packet of the fabric: the common header of Table 01.5 and what it carries. `tries` counts the retry replies that it has had from the
Autumn die (R486). -/
structure Pkt where
  id : Nat
  dst : Nat
  dkind : Nat
  src : Nat
  skind : Nat
  age : Nat := 0
  len : Nat := 1
  vnet : Nat
  cls : Nat
  asid : Nat
  msg : Msg
  tries : Nat := 0
  deriving DecidableEq, Repr

/-- A frame of a chip link by its fields (Table 14.5): `flit` holds 64 bytes. `pkt` is the packet whose header flit the frame carries, as its
bytes say. -/
structure LinkFrame where
  kind : Nat
  vnet : Nat
  fseq : Nat
  ack : Nat
  flit : List Byte := List.replicate 64 0
  crc : BitVec 24
  pkt : Option Pkt := none
  deriving DecidableEq, Repr

/-- An error applied to an error bank (R498). `ls` is the storage in which it lies, of an error in a core's or a group's. -/
structure ErrorEv where
  bank : Nat
  uncorrectable : Bool
  rcd : FaultRec
  ls : Option Ls := none
  deriving DecidableEq, Repr

/-- A host data operation (R472, R475), with the pieces of a WRITE that are still to be performed once it has begun (R102), and the bytes
that a READ has read. -/
structure HostOp where
  port : Nat
  qpn : Nat
  key : Nat
  va : Nat
  todo : Option (List (Nat × Nat)) := none
  got : List Byte := []
  deriving DecidableEq, Repr

/-- The steps that are not instruction words, with what arrives: the form in which the state holds a step that is yet to
come about. `Instr` has a constructor of the same name and arguments for each but `deliver`, which hands a packet to the
controller, scheduler, directory or fork unit that performs what it asks for, and `controlMalformed`, a SEND whose bytes are no control
message, which the directory answers in its turn (R476, R477). -/
inductive Event where
  | hdLoWrite (s : Stream) (v : Word)
  | hdHiWrite (s : Stream) (v : Word)
  | codeLimWrite (s : Stream) (v : Word)
  | sysregWrite (s : Stream) (c : BitVec 12) (v : Word)
  | illegalEncoding (s : Stream) (w : IWord) (cause : Nat)
  | illegalHintSequence (s : Stream) (hw w : IWord)
  | entryMark (place : Nat) (w : MarkWord)
  | serviceMessageArrival (m : SvcMsg)
  | serviceMessageResend (m : SvcMsg)
  | dispatch (place : Nat)
  | park (place : Nat)
  | resumable (place k : Nat)
  | watchdogExpiry (place : Nat)
  | routerArbitration (node out : Nat)
  | ageTick (id : Nat)
  | packetReceive (id : Nat)
  | coreRouterAnswer (p : Pkt)
  | sliceAccess (h : Nat) (r : GReq)
  | globalReply (r : GReply)
  | storeAck (r : GReply)
  | pageFaultReply (r : GReply)
  | connectionRequestArrival (m : ChanMsg)
  | connectionAnswerArrival (m : ChanMsg)
  | channelMessageArrival (m : ChanMsg)
  | closeNoticeArrival (m : ChanMsg)
  | errorNoticeArrival (m : ChanMsg)
  | endpointMessageArrival (m : ChanMsg)
  | adopterNameArrival (m : ChanMsg)
  | redirectArrival (m : ChanMsg)
  | redirectAckArrival (m : ChanMsg)
  | forwardedMessageArrival (m : ChanMsg)
  | stubEndArrival (m : ChanMsg)
  | channelRetryResend (m : ChanMsg)
  | postArrival (m : PostMsg)
  | postAnswerArrival (place act tag seq code : Nat)
  | controllerConversation (ctl : Nat) (m : ChanMsg)
  | transferTake (place : Nat)
  | copySegmentTranslation (r : XlReply)
  | copyUnitArrival (u : CopyUnit)
  | copyGetRequestArrival (g : GetReq)
  | copyGetDataArrival (d : GetData)
  | copyRetryResend (m : CopyMsg)
  | copyRefusalArrival (r : CopyRefusal)
  | fillTouch (place w unit : Nat)
  | fillComplete (place w unit : Nat)
  | syncWordRaise (place spa n : Nat)
  | putAckArrival (place wcn n : Nat)
  | windowPutCheck (u : CopyUnit)
  | echoRaise (place wcn n : Nat)
  | windowCounterRetry (place wcn n tries : Nat)
  | countReport (ctl pa : Nat) (n : Counted)
  | arrivalReport (ctl idx : Nat) (n : Reported)
  | aggregateTimer (ctl home idx : Nat)
  | actionAttemptAnswer (ctl idx : Nat) (a : ActAns)
  | actionRetry (ctl idx : Nat)
  | generationAdvance (place spa ctl idx : Nat)
  | taskLaunchHandoff (die : Nat) (rcd : TaskRec) (src : LaunchFrom)
  | matrixTileGrant (grp : Nat)
  | matrixTileDrain (grp : Nat) (diff : List (Nat × Nat))
  | capsuleArrival (place : Nat) (c : Capsule)
  | capsuleRetryReply (c : Capsule)
  | capsuleRetryResend (c : Capsule)
  | capsuleEgressSend (place : Nat)
  | dispatchOffer (die : Nat)
  | dispatchArrival (place ent : Nat) (rcd : TaskRec)
  | dispatchAnswerArrival (die rid : Nat) (ok : Bool)
  | taskFinishedArrival (die rid : Nat)
  | codeImageLoad (die place rid : Nat)
  | codeImageLoadDone (die place rid cls cause : Nat)
  | schedulerRestart (die : Nat)
  | taskTableQuery (place die rid : Nat)
  | stealRequest (die : Nat)
  | stealRequestArrival (die src : Nat) (pairs : List (Nat × Nat))
  | stolenRecordArrival (die src : Nat) (rcd : TaskRec)
  | stealAckArrival (die src tag : Nat)
  | lendTimerExpiry (die tag : Nat)
  | confirmationArrival (die src tag : Nat)
  | revocationArrival (die src tag : Nat)
  | takenArrival (die src tag : Nat)
  | lentQueryArrival (die src tag : Nat)
  | heldAnswerArrival (die src tag : Nat)
  | unknownAnswerArrival (die src tag : Nat)
  | heldQueryArrival (die src tag : Nat)
  | gangReserve (gang asid : Nat)
  | gangHoldExpiry (gang asid epoch : Nat)
  | forkChunkDispatch (unit cell : Nat)
  | childDoneCount (unit cell gen chunk place : Nat)
  | continuationResend (place : Nat) (w : ChildWord)
  | childFailure (unit cell gen chunk place : Nat) (sealed : Bool)
  | pairedHashArrival (p engine num : Nat) (h : BitVec 64)
  | pairedInputCopy (q : Nat) (p : Pkt)
  | pairedHashTimeout (p engine num : Nat)
  | pairedFreezeTimeout (p : Nat)
  | evictionStream (place : Nat)
  | ethernetFrameReceive (port len : Nat) (fcsOk ip : Bool) (tags : Nat) (other : Option (Nat × HostOp))
  | portLinkTraining (port : Nat)
  | cmConnection (port qpn mtu : Nat)
  | rdmaWrite (o : HostOp) (bytes : List Byte)
  | rdmaWriteWithImmediate (o : HostOp) (bytes : List Byte) (imm : BitVec 32)
  | rdmaRead (o : HostOp) (n : Nat)
  | controlSend (port qpn : Nat) (bytes : List Byte)
  | ecnMarkedPacket (port qpn : Nat)
  | cnpReceive (port qpn : Nat)
  | rateRestore (port qpn : Nat)
  | launch (f : CtlFrom) (asid va : Nat)
  | topen (f : CtlFrom) (asid : Nat) (entry : BitVec 64)
  | tclose (f : CtlFrom) (asid : Nat)
  | tset (f : CtlFrom) (asid mask qage high low : Nat)
  | qres (f : CtlFrom) (port qpn : Nat)
  | supv (f : CtlFrom) (die : Nat) (bytes : List Byte)
  | svcClusterReset (f : CtlFrom) (target : Nat)
  | clusterResetTimeout (clus : Nat)
  | svcLinkRetrain (f : CtlFrom) (link : Nat)
  | svcPortRetrain (f : CtlFrom) (port : Nat)
  | retrainComplete (isPort : Bool) (n : Nat)
  | retrainTimeout (isPort : Bool) (n : Nat)
  | ebank (f : CtlFrom) (bank half : Nat) (clear : Bool)
  | ckpt (f : CtlFrom) (qpn0 qpn1 va0 va1 key0 key1 : Nat)
  | ckptComplete (ok : Bool)
  | crest (f : CtlFrom) (qpn0 qpn1 va0 va1 key0 key1 : Nat)
  | lock (f : CtlFrom) (on : Bool)
  | linkFrameReceive (link : Nat) (f : LinkFrame)
  | replayRequestReceive (link fseq : Nat)
  | routeTableWrite (chip : Nat) (link : Option Nat)
  | getVersion
  | getCapabilities
  | negotiateAlgorithms
  | getDigests
  | getCertificate (slot offset len : Nat)
  | challenge (slot : Nat) (nonce : List Byte)
  | getMeasurements (index : Nat) (sign : Bool) (nonce : List Byte)
  | spdmError (code : Nat)
  | pldmSensorRead (sensor : Nat)
  | powerCapSet (watts : Nat)
  | pldmReadAndClear (bank : Nat)
  | errorArrival (e : ErrorEv)
  | powerOn
  | munteReset
  | powerCapRestraint (average : Nat)
  | thermalRestraint (die temp : Nat)
  | thermalTrip (temp : Nat)
  | schedulerResetOrPowerGating (die : Nat)
  | schedulerMessageResend (p : Pkt) (tries : Nat)
  | egressQueueAcceptanceReport (place act seq part : Nat)
  | regionCommandAcknowledgement (place act seq : Nat) (val : Option Nat)
  | crestComplete (ok : Bool) (image : List (Nat × Byte))
  | deliver (p : Pkt)
  | controlMalformed (f : CtlFrom) (op : Nat)
  deriving DecidableEq, Repr

/-- The steps of the SV9: one constructor per row of spec/opcode_table.json. For an instruction word the
arguments are its fields; `s` is the stream bit of a handler-core word. -/
inductive Instr where
  | hintImm (s : Stream) (n : BitVec 20)
  | hintRnd (s : Stream) (m : BitVec 1)
  | hintSat (s : Stream)
  | hintSched (s : Stream) (k : BitVec 2)
  | hintNt (s : Stream)
  | add (s : Stream) (d : Reg) (a : Reg) (b : Reg)
  | sub (s : Stream) (d : Reg) (a : Reg) (b : Reg)
  | and (s : Stream) (d : Reg) (a : Reg) (b : Reg)
  | or (s : Stream) (d : Reg) (a : Reg) (b : Reg)
  | xor (s : Stream) (d : Reg) (a : Reg) (b : Reg)
  | andn (s : Stream) (d : Reg) (a : Reg) (b : Reg)
  | orn (s : Stream) (d : Reg) (a : Reg) (b : Reg)
  | sll (s : Stream) (d : Reg) (a : Reg) (b : Reg)
  | srl (s : Stream) (d : Reg) (a : Reg) (b : Reg)
  | sra (s : Stream) (d : Reg) (a : Reg) (b : Reg)
  | rol (s : Stream) (d : Reg) (a : Reg) (b : Reg)
  | slt (s : Stream) (d : Reg) (a : Reg) (b : Reg)
  | sltu (s : Stream) (d : Reg) (a : Reg) (b : Reg)
  | seq (s : Stream) (d : Reg) (a : Reg) (b : Reg)
  | sne (s : Stream) (d : Reg) (a : Reg) (b : Reg)
  | min (s : Stream) (d : Reg) (a : Reg) (b : Reg)
  | max (s : Stream) (d : Reg) (a : Reg) (b : Reg)
  | minu (s : Stream) (d : Reg) (a : Reg) (b : Reg)
  | maxu (s : Stream) (d : Reg) (a : Reg) (b : Reg)
  | sel (s : Stream) (d : Reg) (a : Reg) (b : Reg) (c : Reg)
  | mul (s : Stream) (d : Reg) (a : Reg) (b : Reg)
  | mulh (s : Stream) (d : Reg) (a : Reg) (b : Reg)
  | mulhu (s : Stream) (d : Reg) (a : Reg) (b : Reg)
  | div (s : Stream) (d : Reg) (a : Reg) (b : Reg)
  | divu (s : Stream) (d : Reg) (a : Reg) (b : Reg)
  | rem (s : Stream) (d : Reg) (a : Reg) (b : Reg)
  | remu (s : Stream) (d : Reg) (a : Reg) (b : Reg)
  | clz (s : Stream) (d : Reg) (a : Reg)
  | ctz (s : Stream) (d : Reg) (a : Reg)
  | popc (s : Stream) (d : Reg) (a : Reg)
  | bswap (s : Stream) (d : Reg) (a : Reg)
  | addi (s : Stream) (d : Reg) (a : Reg) (i : BitVec 12)
  | andi (s : Stream) (d : Reg) (a : Reg) (i : BitVec 12)
  | ori (s : Stream) (d : Reg) (a : Reg) (i : BitVec 12)
  | xori (s : Stream) (d : Reg) (a : Reg) (i : BitVec 12)
  | slti (s : Stream) (d : Reg) (a : Reg) (i : BitVec 12)
  | sltiu (s : Stream) (d : Reg) (a : Reg) (i : BitVec 12)
  | slli (s : Stream) (d : Reg) (a : Reg) (h : BitVec 6)
  | srli (s : Stream) (d : Reg) (a : Reg) (h : BitVec 6)
  | srai (s : Stream) (d : Reg) (a : Reg) (h : BitVec 6)
  | lim (s : Stream) (d : Reg) (i : BitVec 20)
  | bfx (s : Stream) (d : Reg) (a : Reg) (p : BitVec 6) (l : BitVec 6)
  | bfxu (s : Stream) (d : Reg) (a : Reg) (p : BitVec 6) (l : BitVec 6)
  | bfi (s : Stream) (d : Reg) (a : Reg) (p : BitVec 6) (l : BitVec 6)
  | beq (s : Stream) (h : Fh) (a : Reg) (b : Reg) (o : BitVec 10)
  | bne (s : Stream) (h : Fh) (a : Reg) (b : Reg) (o : BitVec 10)
  | blt (s : Stream) (h : Fh) (a : Reg) (b : Reg) (o : BitVec 10)
  | bge (s : Stream) (h : Fh) (a : Reg) (b : Reg) (o : BitVec 10)
  | bltu (s : Stream) (h : Fh) (a : Reg) (b : Reg) (o : BitVec 10)
  | bgeu (s : Stream) (h : Fh) (a : Reg) (b : Reg) (o : BitVec 10)
  | j (s : Stream) (t : BitVec 13)
  | jal (s : Stream) (d : Reg) (t : BitVec 13)
  | jr (s : Stream) (a : Reg)
  | jalr (s : Stream) (d : Reg) (a : Reg)
  | done (s : Stream)
  | csrr (s : Stream) (d : Reg) (c : BitVec 12)
  | csrw (s : Stream) (a : Reg) (c : BitVec 12)
  | csrs (s : Stream) (a : Reg) (c : BitVec 12)
  | csrc (s : Stream) (a : Reg) (c : BitVec 12)
  | nop (s : Stream)
  | wfld (s : Stream) (d : Reg) (q : BitVec 4)
  | qcnt (s : Stream) (d : Reg) (q : BitVec 4)
  | lds (d : Reg) (a : Reg) (z : LdSize) (o : BitVec 12)
  | sts (b : Reg) (a : Reg) (z : StSize) (o : BitVec 12)
  | ldg (d : Reg) (a : Reg) (z : LdSize) (o : BitVec 12)
  | stg (b : Reg) (a : Reg) (z : StSize) (o : BitVec 12)
  | amoAddSp (d : Reg) (a : Reg) (b : Reg) (z : AmSize)
  | amoAndSp (d : Reg) (a : Reg) (b : Reg) (z : AmSize)
  | amoOrSp (d : Reg) (a : Reg) (b : Reg) (z : AmSize)
  | amoXorSp (d : Reg) (a : Reg) (b : Reg) (z : AmSize)
  | amoMinSp (d : Reg) (a : Reg) (b : Reg) (z : AmSize)
  | amoMaxSp (d : Reg) (a : Reg) (b : Reg) (z : AmSize)
  | amoMinuSp (d : Reg) (a : Reg) (b : Reg) (z : AmSize)
  | amoMaxuSp (d : Reg) (a : Reg) (b : Reg) (z : AmSize)
  | amoSwapSp (d : Reg) (a : Reg) (b : Reg) (z : AmSize)
  | casSp (d : Reg) (a : Reg) (b : Reg) (c : Reg) (z : AmSize)
  | amoAddGlobal (d : Reg) (a : Reg) (b : Reg) (z : AmSize)
  | amoAndGlobal (d : Reg) (a : Reg) (b : Reg) (z : AmSize)
  | amoOrGlobal (d : Reg) (a : Reg) (b : Reg) (z : AmSize)
  | amoXorGlobal (d : Reg) (a : Reg) (b : Reg) (z : AmSize)
  | amoMinGlobal (d : Reg) (a : Reg) (b : Reg) (z : AmSize)
  | amoMaxGlobal (d : Reg) (a : Reg) (b : Reg) (z : AmSize)
  | amoMinuGlobal (d : Reg) (a : Reg) (b : Reg) (z : AmSize)
  | amoMaxuGlobal (d : Reg) (a : Reg) (b : Reg) (z : AmSize)
  | amoSwapGlobal (d : Reg) (a : Reg) (b : Reg) (z : AmSize)
  | casGlobal (d : Reg) (a : Reg) (b : Reg) (c : Reg) (z : AmSize)
  | fence (sc : Scope)
  | fenceQ (m : BitVec 6)
  | xprobe (d : Reg) (a : Reg) (o : BitVec 12)
  | pf (a : Reg) (o : BitVec 12)
  | send (e : Fin 16) (a : Reg) (b : Reg) (t : BitVec 6)
  | recv (e : Fin 16) (d : Reg) (a : Reg) (t : BitVec 6)
  | offer (e : Fin 16) (d : Reg)
  | select (e : Fin 16) (l : BitVec 4)
  | close (e : Fin 16) (s : BitVec 4)
  | deleg (e : Fin 16) (x : Fin 16)
  | adopt (e : Fin 16) (x : Fin 16)
  | epBind (e : Fin 16) (a : Reg)
  | epConn (e : Fin 16) (d : Reg) (a : Reg) (b : Reg)
  | epAcc (e : Fin 16) (d : Reg) (a : Reg)
  | epSt (e : Fin 16) (d : Reg)
  | atLoad (e : Fin 16) (d : Reg) (a : Reg)
  | epShr (e : Fin 16) (d : Reg) (a : Reg)
  | post (d : Reg) (a : Reg) (b : Reg)
  | cpGet (a : Reg) (b : Reg) (c : Reg) (l : Ls)
  | cpPut (a : Reg) (b : Reg) (c : Reg) (l : Ls)
  | cpGath (a : Reg) (b : Reg) (c : Reg) (l : Ls)
  | cpScat (a : Reg) (b : Reg) (c : Reg) (l : Ls)
  | cpUnpk (a : Reg) (b : Reg) (c : Reg) (l : Ls)
  | cpPack (a : Reg) (b : Reg) (c : Reg) (l : Ls)
  | cpFill (a : Reg) (b : Reg) (c : Reg) (l : Ls)
  | cpSeal (d : Reg)
  | cpWait (a : Reg)
  | cpSt (d : Reg) (a : Reg)
  | fwSet (a : Reg) (b : Reg) (c : Reg)
  | fwClr (a : Reg)
  | swInit (a : Reg) (b : Reg)
  | swWait (a : Reg) (b : Reg)
  | swRd (d : Reg) (a : Reg)
  | rgArm (a : Reg) (b : Reg) (c : Reg)
  | rgDisarm (a : Reg)
  | rgAdd (a : Reg) (b : Reg)
  | rgRd (d : Reg) (a : Reg)
  | rgBind (a : Reg) (b : Reg)
  | wnReg (d : Reg) (a : Reg) (b : Reg) (w : Fin 8)
  | wnUnreg (a : Reg)
  | wnCc (d : Reg) (w : Fin 8)
  | wnWait (a : Reg) (w : Fin 8)
  | capNew (d : Reg) (a : Reg) (p : Fin 2)
  | capFwd (p : Fin 2)
  | capIns (a : Reg) (k : Fin 12) (p : Fin 2)
  | capDel (k : Fin 12) (p : Fin 2)
  | capRep (a : Reg) (k : Fin 12) (p : Fin 2)
  | capRd (d : Reg) (k : Fin 12) (p : Fin 2)
  | capDiv (a : Reg) (p : Fin 2)
  | capRet (p : Fin 2)
  | capKill (p : Fin 2)
  | capHdr (d : Reg) (a : Reg) (p : Fin 2)
  | vadd (d : Fin 8) (a : Fin 8) (b : Fin 8) (sl : Slice)
  | vsub (d : Fin 8) (a : Fin 8) (b : Fin 8) (sl : Slice)
  | vmul (d : Fin 8) (a : Fin 8) (b : Fin 8) (sl : Slice)
  | vfma (d : Fin 8) (a : Fin 8) (b : Fin 8) (sl : Slice)
  | vfms (d : Fin 8) (a : Fin 8) (b : Fin 8) (sl : Slice)
  | vmax (d : Fin 8) (a : Fin 8) (b : Fin 8) (sl : Slice)
  | vmin (d : Fin 8) (a : Fin 8) (b : Fin 8) (sl : Slice)
  | vabs (d : Fin 8) (a : Fin 8) (sl : Slice)
  | vneg (d : Fin 8) (a : Fin 8) (sl : Slice)
  | vcmpEq (d : Fin 8) (a : Fin 8) (b : Fin 8) (sl : Slice)
  | vcmpNe (d : Fin 8) (a : Fin 8) (b : Fin 8) (sl : Slice)
  | vcmpLt (d : Fin 8) (a : Fin 8) (b : Fin 8) (sl : Slice)
  | vcmpLe (d : Fin 8) (a : Fin 8) (b : Fin 8) (sl : Slice)
  | vrsum (d : Fin 8) (a : Fin 8) (sl : Slice)
  | vrmax (d : Fin 8) (a : Fin 8) (sl : Slice)
  | vexp2 (d : Fin 8) (a : Fin 8) (sl : Slice)
  | vlog2 (d : Fin 8) (a : Fin 8) (sl : Slice)
  | vrcp (d : Fin 8) (a : Fin 8) (sl : Slice)
  | vrsqrt (d : Fin 8) (a : Fin 8) (sl : Slice)
  | vaddI (d : Fin 8) (a : Fin 8) (b : Fin 8) (sl : Slice)
  | vsubI (d : Fin 8) (a : Fin 8) (b : Fin 8) (sl : Slice)
  | vmli (d : Fin 8) (a : Fin 8) (b : Fin 8) (sl : Slice)
  | vmaxI (d : Fin 8) (a : Fin 8) (b : Fin 8) (sl : Slice)
  | vminI (d : Fin 8) (a : Fin 8) (b : Fin 8) (sl : Slice)
  | vabsI (d : Fin 8) (a : Fin 8) (sl : Slice)
  | vnegI (d : Fin 8) (a : Fin 8) (sl : Slice)
  | vand (d : Fin 8) (a : Fin 8) (b : Fin 8) (sl : Slice)
  | vor (d : Fin 8) (a : Fin 8) (b : Fin 8) (sl : Slice)
  | vxor (d : Fin 8) (a : Fin 8) (b : Fin 8) (sl : Slice)
  | vshl (d : Fin 8) (a : Fin 8) (b : Fin 8) (sl : Slice)
  | vshr (d : Fin 8) (a : Fin 8) (b : Fin 8) (sl : Slice)
  | vsra (d : Fin 8) (a : Fin 8) (b : Fin 8) (sl : Slice)
  | vcmpEqI (d : Fin 8) (a : Fin 8) (b : Fin 8) (sl : Slice)
  | vcmpNeI (d : Fin 8) (a : Fin 8) (b : Fin 8) (sl : Slice)
  | vcmpLtI (d : Fin 8) (a : Fin 8) (b : Fin 8) (sl : Slice)
  | vcmpLeI (d : Fin 8) (a : Fin 8) (b : Fin 8) (sl : Slice)
  | vcmpLtu (d : Fin 8) (a : Fin 8) (b : Fin 8) (sl : Slice)
  | vrsumI (d : Fin 8) (a : Fin 8) (sl : Slice)
  | vrmaxI (d : Fin 8) (a : Fin 8) (sl : Slice)
  | vclmul (d : Fin 8) (a : Fin 8) (b : Fin 8) (sl : Slice)
  | vclmulh (d : Fin 8) (a : Fin 8) (b : Fin 8) (sl : Slice)
  | vmov (d : Fin 8) (a : Fin 8) (sl : Slice)
  | vsel (d : Fin 8) (a : Fin 8) (b : Fin 8) (sl : Slice)
  | vtr (d : Fin 8) (a : Fin 8)
  | vperm (d : Fin 8) (a : Fin 8) (b : Fin 8) (sl : Slice)
  | vrot (d : Fin 8) (a : Fin 8) (b : Fin 8) (sl : Slice)
  | vcvtFb (d : Fin 8) (a : Fin 8) (sl : Slice)
  | vcvtBf (d : Fin 8) (a : Fin 8) (sl : Slice)
  | vcvtFi (d : Fin 8) (a : Fin 8) (sl : Slice)
  | vcvtIf (d : Fin 8) (a : Fin 8) (sl : Slice)
  | vcvtI8 (d : Fin 8) (a : Fin 8) (sl : Slice)
  | vbcast (t : Fin 8) (r : Reg) (sl : Slice)
  | vins (t : Fin 8) (r : Reg) (ix : Reg) (io : BitVec 4)
  | vext (t : Fin 8) (r : Reg) (ix : Reg) (io : BitVec 4)
  | ltab (t : Fin 8) (n : Fin 4) (ix : Reg) (io : BitVec 4)
  | vld (t : Fin 8) (b : Reg) (p : Spc) (sl : Slice)
  | vst (t : Fin 8) (b : Reg) (p : Spc) (sl : Slice)
  | vunpkF (t : Fin 8) (b : Reg) (p : Spc) (sl : Slice)
  | vunpkBf (t : Fin 8) (b : Reg) (p : Spc) (sl : Slice)
  | vpkE2m1 (t : Fin 8) (b : Reg) (p : Spc) (sl : Slice)
  | vpkLut4 (t : Fin 8) (b : Reg) (p : Spc) (sl : Slice)
  | vpkE4m3 (t : Fin 8) (b : Reg) (p : Spc) (sl : Slice)
  | vpkE5m2 (t : Fin 8) (b : Reg) (p : Spc) (sl : Slice)
  | vpkInt8 (t : Fin 8) (b : Reg) (p : Spc) (sl : Slice)
  | mma (x : Reg) (y : Reg) (w : Reg) (c : Fin 2)
  | mmaBf16 (x : Reg) (y : Reg) (w : Reg) (c : Fin 2)
  | mmZero (c : Fin 2)
  | mmSt (x : Reg)
  | mmFence
  | mmCfg (x : Reg)
  | spawn (d : Reg) (a : Reg)
  | gang (d : Reg) (a : Reg) (b : Reg)
  | fork (d : Reg) (a : Reg) (b : Reg)
  | join (d : Reg) (a : Reg)
  | hpri (a : Reg) (h : Fin 20)
  | hmsk (h : Fin 20)
  | humsk (h : Fin 20)
  | rpl
  | sealCore (a : Reg)
  | thaw (a : Reg)
  | evict (d : Reg) (a : Reg)
  | rstr (d : Reg) (a : Reg)
  | hdLoWrite (s : Stream) (v : Word)
  | hdHiWrite (s : Stream) (v : Word)
  | codeLimWrite (s : Stream) (v : Word)
  | sysregWrite (s : Stream) (c : BitVec 12) (v : Word)
  | illegalEncoding (s : Stream) (w : IWord) (cause : Nat)
  | illegalHintSequence (s : Stream) (hw w : IWord)
  | entryMark (place : Nat) (w : MarkWord)
  | serviceMessageArrival (m : SvcMsg)
  | serviceMessageResend (m : SvcMsg)
  | dispatch (place : Nat)
  | park (place : Nat)
  | resumable (place k : Nat)
  | watchdogExpiry (place : Nat)
  | routerArbitration (node out : Nat)
  | ageTick (id : Nat)
  | packetReceive (id : Nat)
  | coreRouterAnswer (p : Pkt)
  | sliceAccess (h : Nat) (r : GReq)
  | globalReply (r : GReply)
  | storeAck (r : GReply)
  | pageFaultReply (r : GReply)
  | connectionRequestArrival (m : ChanMsg)
  | connectionAnswerArrival (m : ChanMsg)
  | channelMessageArrival (m : ChanMsg)
  | closeNoticeArrival (m : ChanMsg)
  | errorNoticeArrival (m : ChanMsg)
  | endpointMessageArrival (m : ChanMsg)
  | adopterNameArrival (m : ChanMsg)
  | redirectArrival (m : ChanMsg)
  | redirectAckArrival (m : ChanMsg)
  | forwardedMessageArrival (m : ChanMsg)
  | stubEndArrival (m : ChanMsg)
  | channelRetryResend (m : ChanMsg)
  | postArrival (m : PostMsg)
  | postAnswerArrival (place act tag seq code : Nat)
  | controllerConversation (ctl : Nat) (m : ChanMsg)
  | transferTake (place : Nat)
  | copySegmentTranslation (r : XlReply)
  | copyUnitArrival (u : CopyUnit)
  | copyGetRequestArrival (g : GetReq)
  | copyGetDataArrival (d : GetData)
  | copyRetryResend (m : CopyMsg)
  | copyRefusalArrival (r : CopyRefusal)
  | fillTouch (place w unit : Nat)
  | fillComplete (place w unit : Nat)
  | syncWordRaise (place spa n : Nat)
  | putAckArrival (place wcn n : Nat)
  | windowPutCheck (u : CopyUnit)
  | echoRaise (place wcn n : Nat)
  | windowCounterRetry (place wcn n tries : Nat)
  | countReport (ctl pa : Nat) (n : Counted)
  | arrivalReport (ctl idx : Nat) (n : Reported)
  | aggregateTimer (ctl home idx : Nat)
  | actionAttemptAnswer (ctl idx : Nat) (a : ActAns)
  | actionRetry (ctl idx : Nat)
  | generationAdvance (place spa ctl idx : Nat)
  | taskLaunchHandoff (die : Nat) (rcd : TaskRec) (src : LaunchFrom)
  | matrixTileGrant (grp : Nat)
  | matrixTileDrain (grp : Nat) (diff : List (Nat × Nat))
  | capsuleArrival (place : Nat) (c : Capsule)
  | capsuleRetryReply (c : Capsule)
  | capsuleRetryResend (c : Capsule)
  | capsuleEgressSend (place : Nat)
  | dispatchOffer (die : Nat)
  | dispatchArrival (place ent : Nat) (rcd : TaskRec)
  | dispatchAnswerArrival (die rid : Nat) (ok : Bool)
  | taskFinishedArrival (die rid : Nat)
  | codeImageLoad (die place rid : Nat)
  | codeImageLoadDone (die place rid cls cause : Nat)
  | schedulerRestart (die : Nat)
  | taskTableQuery (place die rid : Nat)
  | stealRequest (die : Nat)
  | stealRequestArrival (die src : Nat) (pairs : List (Nat × Nat))
  | stolenRecordArrival (die src : Nat) (rcd : TaskRec)
  | stealAckArrival (die src tag : Nat)
  | lendTimerExpiry (die tag : Nat)
  | confirmationArrival (die src tag : Nat)
  | revocationArrival (die src tag : Nat)
  | takenArrival (die src tag : Nat)
  | lentQueryArrival (die src tag : Nat)
  | heldAnswerArrival (die src tag : Nat)
  | unknownAnswerArrival (die src tag : Nat)
  | heldQueryArrival (die src tag : Nat)
  | gangReserve (gang asid : Nat)
  | gangHoldExpiry (gang asid epoch : Nat)
  | forkChunkDispatch (unit cell : Nat)
  | childDoneCount (unit cell gen chunk place : Nat)
  | continuationResend (place : Nat) (w : ChildWord)
  | childFailure (unit cell gen chunk place : Nat) (sealed : Bool)
  | pairedHashArrival (p engine num : Nat) (h : BitVec 64)
  | pairedInputCopy (q : Nat) (p : Pkt)
  | pairedHashTimeout (p engine num : Nat)
  | pairedFreezeTimeout (p : Nat)
  | evictionStream (place : Nat)
  | ethernetFrameReceive (port len : Nat) (fcsOk ip : Bool) (tags : Nat) (other : Option (Nat × HostOp))
  | portLinkTraining (port : Nat)
  | cmConnection (port qpn mtu : Nat)
  | rdmaWrite (o : HostOp) (bytes : List Byte)
  | rdmaWriteWithImmediate (o : HostOp) (bytes : List Byte) (imm : BitVec 32)
  | rdmaRead (o : HostOp) (n : Nat)
  | controlSend (port qpn : Nat) (bytes : List Byte)
  | ecnMarkedPacket (port qpn : Nat)
  | cnpReceive (port qpn : Nat)
  | rateRestore (port qpn : Nat)
  | launch (f : CtlFrom) (asid va : Nat)
  | topen (f : CtlFrom) (asid : Nat) (entry : BitVec 64)
  | tclose (f : CtlFrom) (asid : Nat)
  | tset (f : CtlFrom) (asid mask qage high low : Nat)
  | qres (f : CtlFrom) (port qpn : Nat)
  | supv (f : CtlFrom) (die : Nat) (bytes : List Byte)
  | svcClusterReset (f : CtlFrom) (target : Nat)
  | clusterResetTimeout (clus : Nat)
  | svcLinkRetrain (f : CtlFrom) (link : Nat)
  | svcPortRetrain (f : CtlFrom) (port : Nat)
  | retrainComplete (isPort : Bool) (n : Nat)
  | retrainTimeout (isPort : Bool) (n : Nat)
  | ebank (f : CtlFrom) (bank half : Nat) (clear : Bool)
  | ckpt (f : CtlFrom) (qpn0 qpn1 va0 va1 key0 key1 : Nat)
  | ckptComplete (ok : Bool)
  | crest (f : CtlFrom) (qpn0 qpn1 va0 va1 key0 key1 : Nat)
  | lock (f : CtlFrom) (on : Bool)
  | linkFrameReceive (link : Nat) (f : LinkFrame)
  | replayRequestReceive (link fseq : Nat)
  | routeTableWrite (chip : Nat) (link : Option Nat)
  | getVersion
  | getCapabilities
  | negotiateAlgorithms
  | getDigests
  | getCertificate (slot offset len : Nat)
  | challenge (slot : Nat) (nonce : List Byte)
  | getMeasurements (index : Nat) (sign : Bool) (nonce : List Byte)
  | spdmError (code : Nat)
  | pldmSensorRead (sensor : Nat)
  | powerCapSet (watts : Nat)
  | pldmReadAndClear (bank : Nat)
  | errorArrival (e : ErrorEv)
  | powerOn
  | munteReset
  | powerCapRestraint (average : Nat)
  | thermalRestraint (die temp : Nat)
  | thermalTrip (temp : Nat)
  | schedulerResetOrPowerGating (die : Nat)
  | schedulerMessageResend (p : Pkt) (tries : Nat)
  | egressQueueAcceptanceReport (place act seq part : Nat)
  | regionCommandAcknowledgement (place act seq : Nat) (val : Option Nat)
  | crestComplete (ok : Bool) (image : List (Nat × Byte))
  deriving DecidableEq, Repr

end Sys2Proof
end

