-- ==== Sys2Proof/Config.lean ====
section
/-! DEFINITION. What the spec leaves open. Each constant is a free value: it has no body, so nothing can be proved of
which value it is. Those applied to `Nat` are read at the counter `State.fresh`, which each use advances. -/

namespace Sys2Proof.Config

/-- Which of `n` agents that could move next moves (03, 05: no order is given between queues, streams and packets). -/
opaque choice : Nat → Nat

/-- Bytes of the device-defined state part of an eviction image (R456). -/
opaque imageByte : Nat → Nat → Byte

/-- What a line reads as under a key other than the one it was stored under (R343): of the stored key, the reading key, the
line's number and its bytes as they were stored, the byte at an index. -/
opaque wrongKeyByte : Nat → Nat → Nat → List Byte → Nat → Byte

/-- At which of the 108 edge routers of its die a slice, controller, scheduler or bridge attaches (R9): of its kind and
name. -/
opaque edge : Nat → Nat → Nat

/-- What a load reads of a slot of the endpoint-buffer area that the engine has written (R240). -/
opaque slotByte : Nat → Nat → Byte

/-- `total` of a join cell whose fork has more chunks than its 16 bits hold (R445): of the number of chunks. -/
opaque forkTotal : Nat → Nat

/-- Which line a full slice gives up (R202 states no replacement rule). -/
opaque victim : Nat → Nat

/-- The class-specific bytes of a packet of a class whose layout the spec does not give: of what it carries (R449). -/
opaque msgBytes : Msg → List Byte

/-- ML-DSA-44 signature of a byte string under the device key (R489). -/
opaque sign : List Byte → List Byte

/-- The key slots of a checkpoint's trailer, wrapped under the key-wrapping key (R500). -/
opaque wrap : List (List (Nat × Nat)) → List Byte

/-- All of HBM in ciphertext (R500): of the bytes that were stored and the key of each line. -/
opaque cipher : List (Nat × Byte) → List (Nat × Nat) → List Byte

/-- The route table and the chip number in the flash memory, as bytes (R488, whose layout of them the spec does not give). -/
opaque routeBytes : Nat → List (Nat × Nat) → List Byte

/-- The manifest in the flash memory, as bytes: of its digests and of the parts of its service image (R488, R494). -/
opaque manifestBytes : List (Nat × BitVec 256) → List (List Byte) → List Byte

/-- A 32-byte random value of the responder (R489). -/
opaque nonce : Nat → BitVec 256

/-- Limarfer's registry identifier of ML-DSA-44 (R489). -/
opaque algorithm : Nat

/-- A sensor reading that the environment sets (R491). -/
opaque sensor : Nat → Nat → BitVec 32

end Sys2Proof.Config
end

