-- ==== Sys2Proof/Decode.lean ====
section
/-! DEFINITION. The encodings of the instruction words (Tables 04.1 to 04.9): `decode`, which refuses a word by
its cause (Table 04.12, the lowest that applies, R124), and `encode`. -/

namespace Sys2Proof

/-! ## Fields -/

/-- Bits `lo + n - 1` to `lo` of a word. -/
def fld (w : IWord) (lo n : Nat) : Nat := w.toNat / 2 ^ lo % 2 ^ n

/-- A word with each value at its place. -/
def pack : List (Nat × Nat) → Nat
  | [] => 0
  | (lo, v) :: r => v * 2 ^ lo + pack r

def Stream.code : Stream → Nat
  | .a => 0
  | .e => 1

def Stream.ofCode (n : Nat) : Stream := if n = 0 then .a else .e

/-- Register codes (Table 04.2). -/
def Reg.code : Reg → Nat
  | .r n => n.val
  | .z => 16
  | .lq => 17
  | .sq => 18
  | .fq => 19
  | .rq => 20

def Reg.ofCode (n : Nat) : Reg :=
  if n < 16 then .r (Fin.ofNat 16 n)
  else if n = 17 then .lq else if n = 18 then .sq else if n = 19 then .fq else if n = 20 then .rq else .z

def Shape.code : Shape → Nat
  | .whole => 0
  | .row => 1
  | .col => 2

def Shape.ofCode (n : Nat) : Shape := if n = 1 then .row else if n = 2 then .col else .whole

def LdSize.code : LdSize → Nat
  | .b => 0 | .bu => 1 | .h => 2 | .hu => 3 | .w => 4 | .wu => 5 | .d => 6

def LdSize.ofCode : Nat → LdSize
  | 0 => .b | 1 => .bu | 2 => .h | 3 => .hu | 4 => .w | 5 => .wu | _ => .d

def StSize.code : StSize → Nat
  | .b => 0 | .h => 2 | .w => 4 | .d => 6

def StSize.ofCode : Nat → StSize
  | 0 => .b | 2 => .h | 4 => .w | _ => .d

def AmSize.code : AmSize → Nat
  | .w => 0 | .d => 1

def AmSize.ofCode (n : Nat) : AmSize := if n = 0 then .w else .d

/-- Storage codes of format CP (R116). -/
def Ls.num : Ls → Nat
  | .sp => 0 | .ab => 1 | .cb => 2 | .wb => 3 | .code => 4

def Ls.ofCode : Nat → Ls
  | 0 => .sp | 1 => .ab | 2 => .cb | 3 => .wb | _ => .code

def Spc.code : Spc → Nat
  | .sp => 0 | .ab => 1 | .cb => 2

def Spc.ofCode : Nat → Spc
  | 0 => .sp | 1 => .ab | _ => .cb

/-- Scope codes (Table 03.2). -/
def Scope.code : Scope → Nat
  | .core => 0 | .group => 1 | .clus => 2 | .die => 3 | .pkg => 4 | .sys => 5

def Scope.ofCode : Nat → Scope
  | 0 => .core | 1 => .group | 2 => .clus | 3 => .die | 4 => .pkg | _ => .sys

def Fh.code : Fh → Nat
  | .fall => 0 | .target => 1 | .hold => 2

def Fh.ofCode : Nat → Fh
  | 0 => .fall | 1 => .target | _ => .hold

/-! ## Where a register code may stand (R109, R110) -/

/-- A field that the stream reads. -/
def srcOK (s : Stream) (c : Nat) : Bool :=
  match s with
  | .a => c ≤ 16 || c == 20
  | .e => c ≤ 17 || c == 19

/-- A field that the stream writes, outside majors 0x18 to 0x2C. -/
def dstOK (s : Stream) (c : Nat) : Bool :=
  match s with
  | .a => c ≤ 16 || c == 19
  | .e => c ≤ 16 || c == 18 || c == 20

/-- The `rd` field of majors 0x18 to 0x2C. -/
def dstLOK (c : Nat) : Bool := c ≤ 17 || c == 19

/-- The data field of stores, and `rs2` and `rs3` of atomics. -/
def dataOK (c : Nat) : Bool := c ≤ 16 || c == 18 || c == 20

/-- A field both read and written. -/
def bothOK (c : Nat) : Bool := c ≤ 15

/-- The `ix` field of the vector formats. -/
def ixOK (c : Nat) : Bool := c ≤ 16

/-! ## Decoding -/

/-- Why a word is not an instruction (Table 04.12). Cause 7, privilege, is found at issue. -/
inductive IllegalCause where
  | reservedMajor | wrongStream | reservedMinor | registerCode | unusedField | fieldLimit
  deriving DecidableEq, Repr

def IllegalCause.number : IllegalCause → Nat
  | .reservedMajor => 1 | .wrongStream => 2 | .reservedMinor => 3
  | .registerCode => 4 | .unusedField => 5 | .fieldLimit => 6

/-- A word matched by major and minor: the checks of causes 4, 5 and 6, and what it stands for. -/
structure Form where
  regs : Bool := true
  zero : Bool := true
  lim : Bool := true
  ins : Instr

/-- The lowest cause that applies, or the instruction (R124). -/
def Form.check (f : Form) : Except IllegalCause Instr :=
  if !f.regs then .error .registerCode
  else if !f.zero then .error .unusedField
  else if !f.lim then .error .fieldLimit
  else .ok f.ins

/-- The stream bit. -/
def sBit (w : IWord) : Stream := Stream.ofCode (fld w 31 1)

/-- The register in a five-bit field. -/
def rg (w : IWord) (lo : Nat) : Reg := Reg.ofCode (fld w lo 5)

/-- Whether a register field that the form does not name holds 16 (R113). -/
def free (w : IWord) (lo : Nat) : Bool := fld w lo 5 == 16

/-! ### Handler core -/

def formRR (w : IWord) (mk : Stream → Reg → Reg → Reg → Instr) : Form :=
  let s := sBit w
  { regs := dstOK s (fld w 20 5) && srcOK s (fld w 15 5) && srcOK s (fld w 10 5)
    zero := free w 5
    ins := mk s (rg w 20) (rg w 15) (rg w 10) }

def formRRR (w : IWord) (mk : Stream → Reg → Reg → Reg → Reg → Instr) : Form :=
  let s := sBit w
  { regs := dstOK s (fld w 20 5) && srcOK s (fld w 15 5) && srcOK s (fld w 10 5) && srcOK s (fld w 5 5)
    ins := mk s (rg w 20) (rg w 15) (rg w 10) (rg w 5) }

def formUn (w : IWord) (mk : Stream → Reg → Reg → Instr) : Form :=
  let s := sBit w
  { regs := dstOK s (fld w 20 5) && srcOK s (fld w 15 5)
    zero := free w 10 && free w 5
    ins := mk s (rg w 20) (rg w 15) }

def formI (w : IWord) (mk : Stream → Reg → Reg → BitVec 12 → Instr) : Form :=
  let s := sBit w
  { regs := dstOK s (fld w 20 5) && srcOK s (fld w 15 5)
    ins := mk s (rg w 20) (rg w 15) (BitVec.ofNat 12 (fld w 0 12)) }

def formSH (w : IWord) (mk : Stream → Reg → Reg → BitVec 6 → Instr) : Form :=
  let s := sBit w
  { regs := dstOK s (fld w 20 5) && srcOK s (fld w 15 5)
    zero := fld w 6 6 == 0
    ins := mk s (rg w 20) (rg w 15) (BitVec.ofNat 6 (fld w 0 6)) }

def formBF (w : IWord) (both : Bool) (mk : Stream → Reg → Reg → BitVec 6 → BitVec 6 → Instr) : Form :=
  let s := sBit w
  { regs := (if both then bothOK (fld w 20 5) else dstOK s (fld w 20 5)) && srcOK s (fld w 15 5)
    lim := fld w 6 6 + fld w 0 6 + 1 ≤ 64
    ins := mk s (rg w 20) (rg w 15) (BitVec.ofNat 6 (fld w 6 6)) (BitVec.ofNat 6 (fld w 0 6)) }

def formB (w : IWord) (mk : Stream → Fh → Reg → Reg → BitVec 10 → Instr) : Form :=
  let s := sBit w
  { regs := srcOK s (fld w 15 5) && srcOK s (fld w 10 5)
    lim := fld w 20 2 != 3
    ins := mk s (Fh.ofCode (fld w 20 2)) (rg w 15) (rg w 10) (BitVec.ofNat 10 (fld w 0 10)) }

def formHint (w : IWord) (width : Nat) (i : Instr) : Form :=
  { zero := fld w 20 2 == 0 && fld w 0 20 / 2 ^ width == 0, ins := i }

/-- System registers that a word may name (Table 05.6). -/
def csrKnown (c : Nat) : Bool :=
  c ≤ 0x00A || (0x010 ≤ c && c ≤ 0x013) || c == 0x018 || c == 0x01A ||
  (0x020 ≤ c && c ≤ 0x023) || c == 0x030 || (0x040 ≤ c && c ≤ 0x047)

/-- Those that can be written. -/
def csrWritable (c : Nat) : Bool := (0x010 ≤ c && c ≤ 0x013) || (0x020 ≤ c && c ≤ 0x022)

def formCsrW (w : IWord) (mk : Stream → Reg → BitVec 12 → Instr) : Form :=
  let s := sBit w
  { regs := srcOK s (fld w 15 5)
    zero := free w 20
    lim := csrWritable (fld w 0 12)
    ins := mk s (rg w 15) (BitVec.ofNat 12 (fld w 0 12)) }

def decodeHandler (w : IWord) : Nat → Option Form
  | 0x00 =>
    let s := sBit w
    match fld w 22 3 with
    | 0 => some (formHint w 20 (.hintImm s (BitVec.ofNat 20 (fld w 0 20))))
    | 1 => some (formHint w 1 (.hintRnd s (BitVec.ofNat 1 (fld w 0 1))))
    | 2 => some (formHint w 0 (.hintSat s))
    | 3 => some (formHint w 2 (.hintSched s (BitVec.ofNat 2 (fld w 0 2))))
    | 4 => some (formHint w 0 (.hintNt s))
    | _ => none
  | 0x01 =>
    match fld w 0 5 with
    | 0 => some (formRR w .add) | 1 => some (formRR w .sub) | 2 => some (formRR w .and)
    | 3 => some (formRR w .or) | 4 => some (formRR w .xor) | 5 => some (formRR w .andn)
    | 6 => some (formRR w .orn) | 7 => some (formRR w .sll) | 8 => some (formRR w .srl)
    | 9 => some (formRR w .sra) | 10 => some (formRR w .rol) | 11 => some (formRR w .slt)
    | 12 => some (formRR w .sltu) | 13 => some (formRR w .seq) | 14 => some (formRR w .sne)
    | 15 => some (formRR w .min) | 16 => some (formRR w .max) | 17 => some (formRR w .minu)
    | 18 => some (formRR w .maxu) | 19 => some (formRRR w .sel)
    | _ => none
  | 0x02 =>
    match fld w 0 5 with
    | 0 => some (formRR w .mul) | 1 => some (formRR w .mulh) | 2 => some (formRR w .mulhu)
    | 3 => some (formRR w .div) | 4 => some (formRR w .divu) | 5 => some (formRR w .rem)
    | 6 => some (formRR w .remu)
    | _ => none
  | 0x03 =>
    match fld w 0 5 with
    | 0 => some (formUn w .clz) | 1 => some (formUn w .ctz) | 2 => some (formUn w .popc)
    | 3 => some (formUn w .bswap)
    | _ => none
  | 0x08 =>
    match fld w 12 3 with
    | 0 => some (formI w .addi) | 1 => some (formI w .andi) | 2 => some (formI w .ori)
    | 3 => some (formI w .xori) | 4 => some (formI w .slti) | 5 => some (formI w .sltiu)
    | _ => none
  | 0x09 =>
    match fld w 12 3 with
    | 0 => some (formSH w .slli) | 1 => some (formSH w .srli) | 2 => some (formSH w .srai)
    | _ => none
  | 0x0A =>
    let s := sBit w
    some { regs := dstOK s (fld w 20 5), ins := .lim s (rg w 20) (BitVec.ofNat 20 (fld w 0 20)) }
  | 0x0B =>
    match fld w 12 3 with
    | 0 => some (formBF w false .bfx) | 1 => some (formBF w false .bfxu) | 2 => some (formBF w true .bfi)
    | _ => none
  | 0x10 =>
    match fld w 22 3 with
    | 0 => some (formB w .beq) | 1 => some (formB w .bne) | 2 => some (formB w .blt)
    | 3 => some (formB w .bge) | 4 => some (formB w .bltu) | 5 => some (formB w .bgeu)
    | _ => none
  | 0x11 =>
    let s := sBit w
    let t := BitVec.ofNat 13 (fld w 0 13)
    if fld w 19 1 = 0 then
      some { zero := free w 20 && fld w 13 6 == 0, ins := .j s t }
    else
      some { regs := dstOK s (fld w 20 5), zero := fld w 13 6 == 0, ins := .jal s (rg w 20) t }
  | 0x12 =>
    let s := sBit w
    if fld w 14 1 = 0 then
      some { regs := srcOK s (fld w 15 5), zero := free w 20 && fld w 0 14 == 0, ins := .jr s (rg w 15) }
    else
      some { regs := dstOK s (fld w 20 5) && srcOK s (fld w 15 5), zero := fld w 0 14 == 0,
             ins := .jalr s (rg w 20) (rg w 15) }
  | 0x13 => some { zero := fld w 0 25 == 0, ins := .done (sBit w) }
  | 0x14 =>
    let s := sBit w
    match fld w 12 3 with
    | 0 => some { regs := dstOK s (fld w 20 5), zero := free w 15, lim := csrKnown (fld w 0 12),
                  ins := .csrr s (rg w 20) (BitVec.ofNat 12 (fld w 0 12)) }
    | 1 => some (formCsrW w .csrw) | 2 => some (formCsrW w .csrs) | 3 => some (formCsrW w .csrc)
    | _ => none
  | 0x15 =>
    let s := sBit w
    match fld w 12 3 with
    | 0 => some { zero := fld w 0 25 == 0, ins := .nop s }
    | 1 => some { regs := dstOK s (fld w 20 5), zero := free w 15 && fld w 4 8 == 0, lim := fld w 0 4 ≤ 5,
                  ins := .wfld s (rg w 20) (BitVec.ofNat 4 (fld w 0 4)) }
    | 2 => some { regs := dstOK s (fld w 20 5), zero := free w 15 && fld w 4 8 == 0, lim := fld w 0 4 ≤ 11,
                  ins := .qcnt s (rg w 20) (BitVec.ofNat 4 (fld w 0 4)) }
    | _ => none
  | _ => none

/-! ### Load-store unit and region controllers -/

def formLd (w : IWord) (mk : Reg → Reg → LdSize → BitVec 12 → Instr) : Option Form :=
  if fld w 12 3 = 7 then none
  else some { regs := dstLOK (fld w 20 5) && srcOK .a (fld w 15 5)
              ins := mk (rg w 20) (rg w 15) (LdSize.ofCode (fld w 12 3)) (BitVec.ofNat 12 (fld w 0 12)) }

def formSt (w : IWord) (mk : Reg → Reg → StSize → BitVec 12 → Instr) : Option Form :=
  if fld w 12 1 = 1 then none
  else some { regs := dataOK (fld w 20 5) && srcOK .a (fld w 15 5)
              ins := mk (rg w 20) (rg w 15) (StSize.ofCode (fld w 12 3)) (BitVec.ofNat 12 (fld w 0 12)) }

def formAmo (w : IWord) (mk : Reg → Reg → Reg → AmSize → Instr) : Form :=
  { regs := dstLOK (fld w 20 5) && srcOK .a (fld w 15 5) && dataOK (fld w 10 5)
    zero := free w 5
    ins := mk (rg w 20) (rg w 15) (rg w 10) (AmSize.ofCode (fld w 0 1)) }

def formCas (w : IWord) (mk : Reg → Reg → Reg → Reg → AmSize → Instr) : Form :=
  { regs := dstLOK (fld w 20 5) && srcOK .a (fld w 15 5) && dataOK (fld w 10 5) && dataOK (fld w 5 5)
    ins := mk (rg w 20) (rg w 15) (rg w 10) (rg w 5) (AmSize.ofCode (fld w 0 1)) }

/-- Register fields `rd`, `rs1`, `rs2`, `rs3` of formats CP and CQ: which the form names. -/
def formQ (w : IWord) (d a b c : Bool) (i : Instr) (lim zero : Bool := true) : Form :=
  { regs := (!d || dstLOK (fld w 20 5)) && (!a || srcOK .a (fld w 15 5)) &&
      (!b || srcOK .a (fld w 10 5)) && (!c || srcOK .a (fld w 5 5))
    zero := (d || free w 20) && (a || free w 15) && (b || free w 10) && (c || free w 5) && zero
    lim := lim
    ins := i }

def formCQ (w : IWord) (d a b c : Bool) (i : Instr) : Form := formQ w d a b c i true (fld w 0 2 == 0)

def formWN (w : IWord) (d a b wc : Bool) (i : Instr) : Form :=
  { regs := (!d || dstLOK (fld w 20 5)) && (!a || srcOK .a (fld w 15 5)) && (!b || srcOK .a (fld w 10 5))
    zero := (d || free w 20) && (a || free w 15) && (b || free w 10) && fld w 7 3 == 0 &&
      (wc || fld w 4 3 == 0) && fld w 0 2 == 0
    ins := i }

def decodeLoadStore (w : IWord) : Nat → Option Form
  | 0x18 => formLd w .lds
  | 0x19 => formSt w .sts
  | 0x1A => formLd w .ldg
  | 0x1B => formSt w .stg
  | 0x1C =>
    match fld w 1 4 with
    | 0 => some (formAmo w .amoAddSp) | 1 => some (formAmo w .amoAndSp) | 2 => some (formAmo w .amoOrSp)
    | 3 => some (formAmo w .amoXorSp) | 4 => some (formAmo w .amoMinSp) | 5 => some (formAmo w .amoMaxSp)
    | 6 => some (formAmo w .amoMinuSp) | 7 => some (formAmo w .amoMaxuSp) | 8 => some (formAmo w .amoSwapSp)
    | 9 => some (formCas w .casSp)
    | _ => none
  | 0x1D =>
    match fld w 1 4 with
    | 0 => some (formAmo w .amoAddGlobal) | 1 => some (formAmo w .amoAndGlobal)
    | 2 => some (formAmo w .amoOrGlobal) | 3 => some (formAmo w .amoXorGlobal)
    | 4 => some (formAmo w .amoMinGlobal) | 5 => some (formAmo w .amoMaxGlobal)
    | 6 => some (formAmo w .amoMinuGlobal) | 7 => some (formAmo w .amoMaxuGlobal)
    | 8 => some (formAmo w .amoSwapGlobal) | 9 => some (formCas w .casGlobal)
    | _ => none
  | 0x1E =>
    match fld w 12 3 with
    | 0 => some { zero := free w 20 && free w 15 && fld w 3 9 == 0, lim := fld w 0 3 < 6,
                  ins := .fence (Scope.ofCode (fld w 0 3)) }
    | 1 => some { zero := free w 20 && free w 15 && fld w 6 6 == 0, ins := .fenceQ (BitVec.ofNat 6 (fld w 0 6)) }
    | 2 => some { regs := dstLOK (fld w 20 5) && srcOK .a (fld w 15 5),
                  ins := .xprobe (rg w 20) (rg w 15) (BitVec.ofNat 12 (fld w 0 12)) }
    | 3 => some { regs := srcOK .a (fld w 15 5), zero := free w 20,
                  ins := .pf (rg w 15) (BitVec.ofNat 12 (fld w 0 12)) }
    | _ => none
  | 0x2A =>
    match fld w 2 3 with
    | 0 => some (formCQ w false true true true (.rgArm (rg w 15) (rg w 10) (rg w 5)))
    | 1 => some (formCQ w false true false false (.rgDisarm (rg w 15)))
    | 2 => some (formCQ w false true true false (.rgAdd (rg w 15) (rg w 10)))
    | 3 => some (formCQ w true true false false (.rgRd (rg w 20) (rg w 15)))
    | 4 => some (formCQ w false true true false (.rgBind (rg w 15) (rg w 10)))
    | _ => none
  | 0x2B =>
    let wc := Fin.ofNat 8 (fld w 4 3)
    match fld w 2 2 with
    | 0 => some (formWN w true true true true (.wnReg (rg w 20) (rg w 15) (rg w 10) wc))
    | 1 => some (formWN w false true false false (.wnUnreg (rg w 15)))
    | 2 => some (formWN w true false false true (.wnCc (rg w 20) wc))
    | _ => some (formWN w false true false true (.wnWait (rg w 15) wc))
  | _ => none

/-! ### Channels, copies, capsules, scheduler -/

/-- Register fields of format CH: which the form names. -/
def formCH (w : IWord) (d a b : Bool) (i : Instr) (zero : Bool := true) : Form :=
  { regs := (!d || dstLOK (fld w 16 5)) && (!a || srcOK .a (fld w 11 5)) && (!b || srcOK .a (fld w 6 5))
    zero := (d || free w 16) && (a || free w 11) && (b || free w 6) && zero
    ins := i }

/-- Register fields of format CA, with the rule for `step`. -/
def formCA (w : IWord) (d a k : Bool) (i : Instr) : Form :=
  { regs := (!d || dstLOK (fld w 20 5)) && (!a || srcOK .a (fld w 15 5))
    zero := (d || free w 20) && (a || free w 15) && free w 10 && fld w 0 1 == 0 && (k || fld w 6 4 == 0)
    lim := !k || fld w 6 4 < 12
    ins := i }

/-- Register fields of format SC, with the rule for `h`. -/
def formSC (w : IWord) (d a b h : Bool) (i : Instr) : Form :=
  { regs := (!d || dstOK .a (fld w 20 5)) && (!a || srcOK .a (fld w 15 5)) && (!b || srcOK .a (fld w 10 5))
    zero := (d || free w 20) && (a || free w 15) && (b || free w 10) && fld w 0 2 == 0 && (h || fld w 5 5 == 0)
    lim := !h || fld w 5 5 < 20
    ins := i }

def decodeEngines (w : IWord) : Nat → Option Form
  | 0x20 => some (formCH w false true true (.send (Fin.ofNat 16 (fld w 21 4)) (rg w 11) (rg w 6) (BitVec.ofNat 6 (fld w 0 6))))
  | 0x21 => some (formCH w true true false (.recv (Fin.ofNat 16 (fld w 21 4)) (rg w 16) (rg w 11) (BitVec.ofNat 6 (fld w 0 6))))
  | 0x22 =>
    let e := Fin.ofNat 16 (fld w 21 4)
    if fld w 5 1 = 0 then some (formCH w true false false (.offer e (rg w 16)) (fld w 0 5 == 0))
    else some (formCH w false false false (.select e (BitVec.ofNat 4 (fld w 0 4))) (fld w 4 1 == 0))
  | 0x23 =>
    let e := Fin.ofNat 16 (fld w 21 4)
    match fld w 4 2 with
    | 0 => some (formCH w false false false (.close e (BitVec.ofNat 4 (fld w 0 4))))
    | 1 => some (formCH w false false false (.deleg e (Fin.ofNat 16 (fld w 0 4))))
    | 2 => some (formCH w false false false (.adopt e (Fin.ofNat 16 (fld w 0 4))))
    | _ => none
  | 0x24 =>
    let e := Fin.ofNat 16 (fld w 21 4)
    let d := rg w 16
    let a := rg w 11
    let z := fld w 0 3 == 0
    match fld w 3 3 with
    | 0 => some (formCH w false true false (.epBind e a) z)
    | 1 => some (formCH w true true true (.epConn e d a (rg w 6)) z)
    | 2 => some (formCH w true true false (.epAcc e d a) z)
    | 3 => some (formCH w true false false (.epSt e d) z)
    | 4 => some (formCH w true true false (.atLoad e d a) z)
    | 5 => some (formCH w true true false (.epShr e d a) z)
    | 6 => some (formCH w true true true (.post d a (rg w 6)) (z && fld w 21 4 == 0))
    | _ => none
  | 0x26 =>
    let l := fld w 0 3
    let ls := Ls.ofCode l
    match fld w 3 2 with
    | 0 => some (formQ w false true true true (.cpGet (rg w 15) (rg w 10) (rg w 5) ls) (l ≤ 4))
    | 1 => some (formQ w false true true true (.cpPut (rg w 15) (rg w 10) (rg w 5) ls) (l ≤ 2))
    | 2 => some (formQ w false true true true (.cpGath (rg w 15) (rg w 10) (rg w 5) ls) (l ≤ 2))
    | _ => some (formQ w false true true true (.cpScat (rg w 15) (rg w 10) (rg w 5) ls) (l ≤ 2))
  | 0x27 =>
    let l := fld w 0 3
    let ls := Ls.ofCode l
    match fld w 3 2 with
    | 0 => some (formQ w false true true true (.cpUnpk (rg w 15) (rg w 10) (rg w 5) ls) (l == 1 || l == 3))
    | 1 => some (formQ w false true true true (.cpPack (rg w 15) (rg w 10) (rg w 5) ls) (l == 1 || l == 2))
    | 2 => some (formQ w false true true true (.cpFill (rg w 15) (rg w 10) (rg w 5) ls) (l == 0))
    | _ => none
  | 0x28 =>
    match fld w 2 3 with
    | 0 => some (formCQ w true false false false (.cpSeal (rg w 20)))
    | 1 => some (formCQ w false true false false (.cpWait (rg w 15)))
    | 2 => some (formCQ w true true false false (.cpSt (rg w 20) (rg w 15)))
    | 3 => some (formCQ w false true true true (.fwSet (rg w 15) (rg w 10) (rg w 5)))
    | 4 => some (formCQ w false true false false (.fwClr (rg w 15)))
    | _ => none
  | 0x29 =>
    match fld w 2 3 with
    | 0 => some (formCQ w false true true false (.swInit (rg w 15) (rg w 10)))
    | 1 => some (formCQ w false true true false (.swWait (rg w 15) (rg w 10)))
    | 2 => some (formCQ w true true false false (.swRd (rg w 20) (rg w 15)))
    | _ => none
  | 0x2C =>
    let d := rg w 20
    let a := rg w 15
    let k := Fin.ofNat 12 (fld w 6 4)
    let p := Fin.ofNat 2 (fld w 5 1)
    match fld w 1 4 with
    | 0 => some (formCA w true true false (.capNew d a p))
    | 1 => some (formCA w false false false (.capFwd p))
    | 2 => some (formCA w false true true (.capIns a k p))
    | 3 => some (formCA w false false true (.capDel k p))
    | 4 => some (formCA w false true true (.capRep a k p))
    | 5 => some (formCA w true false true (.capRd d k p))
    | 6 => some (formCA w false true false (.capDiv a p))
    | 7 => some (formCA w false false false (.capRet p))
    | 8 => some (formCA w false false false (.capKill p))
    | 9 => some (formCA w true true false (.capHdr d a p))
    | _ => none
  | 0x3C =>
    let d := rg w 20
    let a := rg w 15
    let h := Fin.ofNat 20 (fld w 5 5)
    match fld w 2 3 with
    | 0 => some (formSC w true true false false (.spawn d a))
    | 1 => some (formSC w true true true false (.gang d a (rg w 10)))
    | 2 => some (formSC w true true true false (.fork d a (rg w 10)))
    | 3 => some (formSC w true true false false (.join d a))
    | 4 => some (formSC w false true false true (.hpri a h))
    | 5 => some (formSC w false false false true (.hmsk h))
    | 6 => some (formSC w false false false true (.humsk h))
    | _ => none
  | 0x3D =>
    let d := rg w 20
    let a := rg w 15
    match fld w 2 3 with
    | 0 => some (formSC w false false false false .rpl)
    | 1 => some (formSC w false true false false (.sealCore a))
    | 2 => some (formSC w false true false false (.thaw a))
    | 3 => some (formSC w true true false false (.evict d a))
    | 4 => some (formSC w true true false false (.rstr d a))
    | _ => none
  | _ => none

/-! ### Vector engine and matrix unit -/

/-- A slice with its fields at the given bits. -/
def sliceAt (w : IWord) (sh ix io : Nat) : Slice :=
  { shape := Shape.ofCode (fld w sh 2), ix := rg w ix, io := BitVec.ofNat 4 (fld w io 4) }

/-- For shape 0, `ix` holds 16 and `io` holds 0 (R114). -/
def sliceZero (w : IWord) (sh ix io : Nat) : Bool :=
  fld w sh 2 != 0 || (free w ix && fld w io 4 == 0)

def tl (w : IWord) (lo : Nat) : Fin 8 := Fin.ofNat 8 (fld w lo 3)

/-- Format VT with two sources. -/
def formV2 (w : IWord) (mk : Fin 8 → Fin 8 → Fin 8 → Slice → Instr) : Form :=
  { regs := ixOK (fld w 9 5)
    zero := sliceZero w 14 9 5
    lim := fld w 14 2 != 3
    ins := mk (tl w 22) (tl w 19) (tl w 16) (sliceAt w 14 9 5) }

/-- Format VT with one source; `col` says whether the column shape is allowed. -/
def formV1 (w : IWord) (mk : Fin 8 → Fin 8 → Slice → Instr) (col : Bool := true) : Form :=
  { regs := ixOK (fld w 9 5)
    zero := fld w 16 3 == 0 && sliceZero w 14 9 5
    lim := fld w 14 2 != 3 && (col || fld w 14 2 != 2)
    ins := mk (tl w 22) (tl w 19) (sliceAt w 14 9 5) }

/-- Format VM. `fmtOK` says whether `fmt` is one of the form's. -/
def formVM (w : IWord) (fmtOK : Bool) (mk : Fin 8 → Reg → Spc → Slice → Instr) : Form :=
  { regs := srcOK .e (fld w 17 5) && ixOK (fld w 10 5)
    zero := sliceZero w 15 10 6
    lim := fld w 15 2 != 3 && fld w 4 2 != 3 && fmtOK
    ins := mk (tl w 22) (rg w 17) (Spc.ofCode (fld w 4 2)) (sliceAt w 15 10 6) }

def decodeVector (w : IWord) : Nat → Option Form
  | 0x30 =>
    match fld w 0 5 with
    | 0 => some (formV2 w .vadd) | 1 => some (formV2 w .vsub) | 2 => some (formV2 w .vmul)
    | 3 => some (formV2 w .vfma) | 4 => some (formV2 w .vfms) | 5 => some (formV2 w .vmax)
    | 6 => some (formV2 w .vmin) | 7 => some (formV1 w .vabs) | 8 => some (formV1 w .vneg)
    | 9 => some (formV2 w .vcmpEq) | 10 => some (formV2 w .vcmpNe) | 11 => some (formV2 w .vcmpLt)
    | 12 => some (formV2 w .vcmpLe) | 13 => some (formV1 w .vrsum) | 14 => some (formV1 w .vrmax)
    | 15 => some (formV1 w .vexp2) | 16 => some (formV1 w .vlog2) | 17 => some (formV1 w .vrcp)
    | 18 => some (formV1 w .vrsqrt)
    | _ => none
  | 0x31 =>
    match fld w 0 5 with
    | 0 => some (formV2 w .vaddI) | 1 => some (formV2 w .vsubI) | 2 => some (formV2 w .vmli)
    | 3 => some (formV2 w .vmaxI) | 4 => some (formV2 w .vminI) | 5 => some (formV1 w .vabsI)
    | 6 => some (formV1 w .vnegI) | 7 => some (formV2 w .vand) | 8 => some (formV2 w .vor)
    | 9 => some (formV2 w .vxor) | 10 => some (formV2 w .vshl) | 11 => some (formV2 w .vshr)
    | 12 => some (formV2 w .vsra) | 13 => some (formV2 w .vcmpEqI) | 14 => some (formV2 w .vcmpNeI)
    | 15 => some (formV2 w .vcmpLtI) | 16 => some (formV2 w .vcmpLeI) | 17 => some (formV2 w .vcmpLtu)
    | 18 => some (formV1 w .vrsumI) | 19 => some (formV1 w .vrmaxI) | 20 => some (formV2 w .vclmul)
    | 21 => some (formV2 w .vclmulh)
    | _ => none
  | 0x32 =>
    match fld w 0 5 with
    | 0 => some (formV1 w .vmov) | 1 => some (formV2 w .vsel)
    | 2 => some { regs := ixOK (fld w 9 5), zero := fld w 16 3 == 0 && sliceZero w 14 9 5,
                  lim := fld w 14 2 == 0, ins := .vtr (tl w 22) (tl w 19) }
    | 3 => some (formV2 w .vperm) | 4 => some (formV2 w .vrot)
    | 5 => some (formV1 w .vcvtFb false) | 6 => some (formV1 w .vcvtBf false)
    | 7 => some (formV1 w .vcvtFi) | 8 => some (formV1 w .vcvtIf) | 9 => some (formV1 w .vcvtI8)
    | _ => none
  | 0x33 =>
    match fld w 2 4 with
    | 0 => some { regs := srcOK .e (fld w 17 5) && ixOK (fld w 10 5),
                  zero := sliceZero w 15 10 6 && fld w 0 2 == 0, lim := fld w 15 2 != 3,
                  ins := .vbcast (tl w 22) (rg w 17) (sliceAt w 15 10 6) }
    | 1 => some { regs := srcOK .e (fld w 17 5) && ixOK (fld w 10 5), zero := fld w 0 2 == 0,
                  lim := fld w 15 2 == 0, ins := .vins (tl w 22) (rg w 17) (rg w 10) (BitVec.ofNat 4 (fld w 6 4)) }
    | 2 => some { regs := dstOK .e (fld w 17 5) && ixOK (fld w 10 5), zero := fld w 0 2 == 0,
                  lim := fld w 15 2 == 0, ins := .vext (tl w 22) (rg w 17) (rg w 10) (BitVec.ofNat 4 (fld w 6 4)) }
    | 3 => some { regs := ixOK (fld w 10 5), zero := sliceZero w 15 10 6 && fld w 0 2 == 0,
                  lim := fld w 15 2 == 1 && fld w 17 5 < 4,
                  ins := .ltab (tl w 22) (Fin.ofNat 4 (fld w 17 5)) (rg w 10) (BitVec.ofNat 4 (fld w 6 4)) }
    | _ => none
  | 0x34 =>
    if fld w 3 1 = 0 then some (formVM w (fld w 0 3 == 0) .vld) else some (formVM w (fld w 0 3 == 0) .vst)
  | 0x35 =>
    if fld w 3 1 = 0 then
      match fld w 0 3 with
      | 0 => some (formVM w true .vunpkF)
      | 1 => some (formVM w true .vunpkBf)
      | _ => some (formVM w false .vunpkF)
    else
      match fld w 0 3 with
      | 1 => some (formVM w true .vpkE2m1) | 2 => some (formVM w true .vpkLut4)
      | 3 => some (formVM w true .vpkE4m3) | 4 => some (formVM w true .vpkE5m2)
      | 5 => some (formVM w true .vpkInt8) | _ => some (formVM w false .vpkE2m1)
  | 0x38 =>
    let x := rg w 20
    let c := Fin.ofNat 2 (fld w 9 1)
    let z := fld w 5 4 == 0 && fld w 0 2 == 0
    match fld w 2 3 with
    | 0 => some { regs := srcOK .e (fld w 20 5) && srcOK .e (fld w 15 5) && srcOK .e (fld w 10 5), zero := z,
                  ins := .mma x (rg w 15) (rg w 10) c }
    | 1 => some { regs := srcOK .e (fld w 20 5) && srcOK .e (fld w 15 5) && srcOK .e (fld w 10 5), zero := z,
                  ins := .mmaBf16 x (rg w 15) (rg w 10) c }
    | 2 => some { zero := free w 20 && free w 15 && free w 10 && z, ins := .mmZero c }
    | 3 => some { regs := dstOK .e (fld w 20 5), zero := free w 15 && free w 10 && fld w 9 1 == 0 && z,
                  ins := .mmSt x }
    | 4 => some { zero := free w 20 && free w 15 && free w 10 && fld w 9 1 == 0 && z, ins := .mmFence }
    | 5 => some { regs := srcOK .e (fld w 20 5), zero := free w 15 && free w 10 && fld w 9 1 == 0 && z,
                  ins := .mmCfg x }
    | _ => none
  | _ => none

/-! ### The whole map -/

/-- Majors that Table 04.1 does not reserve. -/
def majorKnown (m : Nat) : Bool :=
  m ≤ 0x03 || (0x08 ≤ m && m ≤ 0x0B) || (0x10 ≤ m && m ≤ 0x15) || (0x18 ≤ m && m ≤ 0x1E) ||
  (0x20 ≤ m && m ≤ 0x24) || (0x26 ≤ m && m ≤ 0x2C) || (0x30 ≤ m && m ≤ 0x35) || m == 0x38 ||
  m == 0x3C || m == 0x3D

/-- Streams that a major allows (R108). -/
def streamOK (m : Nat) (s : Stream) : Bool :=
  match s with
  | .a => m < 0x30 || 0x3C ≤ m
  | .e => m < 0x18 || (0x30 ≤ m && m ≤ 0x38)

/-- The form of a word by its major and minor codes; none for a reserved minor. -/
def formOf (w : IWord) (m : Nat) : Option Form :=
  if m < 0x18 then decodeHandler w m
  else if m ≤ 0x1E || m = 0x2A || m = 0x2B then decodeLoadStore w m
  else if 0x30 ≤ m && m ≤ 0x38 then decodeVector w m
  else decodeEngines w m

/-- What a word stands for, or the lowest cause why it stands for nothing (R107 to R118, R123, R124). -/
def decode (w : IWord) : Except IllegalCause Instr :=
  let m := fld w 25 6
  if !majorKnown m then .error .reservedMajor
  else if !streamOK m (sBit w) then .error .wrongStream
  else
    match formOf w m with
    | none => .error .reservedMinor
    | some f => f.check

/-- The instruction of a word given as a number, as spec/opcode_table.json numbers its bits; every instruction of
this machine is one 32-bit word. -/
def decodeTableWord (_nbits w : Nat) : Option Instr :=
  match decode (BitVec.ofNat 32 w) with
  | .ok i => some i
  | .error _ => none

/-! ## Encoding -/

/-- A word from its stream, major and fields. -/
def word (s : Stream) (major : Nat) (fs : List (Nat × Nat)) : IWord :=
  BitVec.ofNat 32 (s.code * 2 ^ 31 + major * 2 ^ 25 + pack fs)

def encRR (s : Stream) (m fn : Nat) (d a b : Reg) : IWord :=
  word s m [(20, d.code), (15, a.code), (10, b.code), (5, 16), (0, fn)]

def encUn (s : Stream) (fn : Nat) (d a : Reg) : IWord :=
  word s 0x03 [(20, d.code), (15, a.code), (10, 16), (5, 16), (0, fn)]

def encI (s : Stream) (fn : Nat) (d a : Reg) (i : BitVec 12) : IWord :=
  word s 0x08 [(20, d.code), (15, a.code), (12, fn), (0, i.toNat)]

def encSH (s : Stream) (fn : Nat) (d a : Reg) (h : BitVec 6) : IWord :=
  word s 0x09 [(20, d.code), (15, a.code), (12, fn), (0, h.toNat)]

def encBF (s : Stream) (fn : Nat) (d a : Reg) (p l : BitVec 6) : IWord :=
  word s 0x0B [(20, d.code), (15, a.code), (12, fn), (6, p.toNat), (0, l.toNat)]

def encB (s : Stream) (c : Nat) (h : Fh) (a b : Reg) (o : BitVec 10) : IWord :=
  word s 0x10 [(22, c), (20, h.code), (15, a.code), (10, b.code), (0, o.toNat)]

def encM (m : Nat) (d a : Reg) (z : Nat) (o : BitVec 12) : IWord :=
  word .a m [(20, d.code), (15, a.code), (12, z), (0, o.toNat)]

def encAT (m fn : Nat) (d a b : Reg) (z : AmSize) : IWord :=
  word .a m [(20, d.code), (15, a.code), (10, b.code), (5, 16), (1, fn), (0, z.code)]

def encCas (m : Nat) (d a b c : Reg) (z : AmSize) : IWord :=
  word .a m [(20, d.code), (15, a.code), (10, b.code), (5, c.code), (1, 9), (0, z.code)]

/-- Formats CH, CP, CQ, CA and SC; a field that the form does not name is given as `.z`, code 16. -/
def encCH (m : Nat) (e : Fin 16) (d a b : Reg) (imm : Nat) : IWord :=
  word .a m [(21, e.val), (16, d.code), (11, a.code), (6, b.code), (0, imm)]

def encCP (m fn : Nat) (a b c : Reg) (l : Ls) : IWord :=
  word .a m [(20, 16), (15, a.code), (10, b.code), (5, c.code), (3, fn), (0, l.num)]

def encCQ (m fn : Nat) (d a b c : Reg) : IWord :=
  word .a m [(20, d.code), (15, a.code), (10, b.code), (5, c.code), (2, fn)]

def encWN (fn : Nat) (d a b : Reg) (w : Nat) : IWord :=
  word .a 0x2B [(20, d.code), (15, a.code), (10, b.code), (4, w), (2, fn)]

def encCA (fn : Nat) (d a : Reg) (k p : Nat) : IWord :=
  word .a 0x2C [(20, d.code), (15, a.code), (10, 16), (6, k), (5, p), (1, fn)]

def encSC (m fn : Nat) (d a b : Reg) (h : Nat) : IWord :=
  word .a m [(20, d.code), (15, a.code), (10, b.code), (5, h), (2, fn)]

def encVT (m fn : Nat) (d a : Fin 8) (b : Nat) (sl : Slice) : IWord :=
  word .e m [(22, d.val), (19, a.val), (16, b), (14, sl.shape.code), (9, sl.ix.code), (5, sl.io.toNat), (0, fn)]

def encVS (fn : Nat) (t : Fin 8) (r : Nat) (sh : Nat) (ix : Reg) (io : BitVec 4) : IWord :=
  word .e 0x33 [(22, t.val), (17, r), (15, sh), (10, ix.code), (6, io.toNat), (2, fn)]

def encVM (m fn fmt : Nat) (t : Fin 8) (b : Reg) (p : Spc) (sl : Slice) : IWord :=
  word .e m [(22, t.val), (17, b.code), (15, sl.shape.code), (10, sl.ix.code), (6, sl.io.toNat), (4, p.code),
    (3, fn), (0, fmt)]

def encMX (fn : Nat) (x y w : Reg) (c : Nat) : IWord :=
  word .e 0x38 [(20, x.code), (15, y.code), (10, w.code), (9, c), (2, fn)]

/-- The word of a well-formed instruction; none for an event, which has no encoding. -/
def encode : Instr → Option IWord
  | .hintImm s n => some (word s 0 [(0, n.toNat)])
  | .hintRnd s m => some (word s 0 [(22, 1), (0, m.toNat)])
  | .hintSat s => some (word s 0 [(22, 2)])
  | .hintSched s k => some (word s 0 [(22, 3), (0, k.toNat)])
  | .hintNt s => some (word s 0 [(22, 4)])
  | .add s d a b => some (encRR s 0x01 0 d a b)
  | .sub s d a b => some (encRR s 0x01 1 d a b)
  | .and s d a b => some (encRR s 0x01 2 d a b)
  | .or s d a b => some (encRR s 0x01 3 d a b)
  | .xor s d a b => some (encRR s 0x01 4 d a b)
  | .andn s d a b => some (encRR s 0x01 5 d a b)
  | .orn s d a b => some (encRR s 0x01 6 d a b)
  | .sll s d a b => some (encRR s 0x01 7 d a b)
  | .srl s d a b => some (encRR s 0x01 8 d a b)
  | .sra s d a b => some (encRR s 0x01 9 d a b)
  | .rol s d a b => some (encRR s 0x01 10 d a b)
  | .slt s d a b => some (encRR s 0x01 11 d a b)
  | .sltu s d a b => some (encRR s 0x01 12 d a b)
  | .seq s d a b => some (encRR s 0x01 13 d a b)
  | .sne s d a b => some (encRR s 0x01 14 d a b)
  | .min s d a b => some (encRR s 0x01 15 d a b)
  | .max s d a b => some (encRR s 0x01 16 d a b)
  | .minu s d a b => some (encRR s 0x01 17 d a b)
  | .maxu s d a b => some (encRR s 0x01 18 d a b)
  | .sel s d a b c => some (word s 0x01 [(20, d.code), (15, a.code), (10, b.code), (5, c.code), (0, 19)])
  | .mul s d a b => some (encRR s 0x02 0 d a b)
  | .mulh s d a b => some (encRR s 0x02 1 d a b)
  | .mulhu s d a b => some (encRR s 0x02 2 d a b)
  | .div s d a b => some (encRR s 0x02 3 d a b)
  | .divu s d a b => some (encRR s 0x02 4 d a b)
  | .rem s d a b => some (encRR s 0x02 5 d a b)
  | .remu s d a b => some (encRR s 0x02 6 d a b)
  | .clz s d a => some (encUn s 0 d a)
  | .ctz s d a => some (encUn s 1 d a)
  | .popc s d a => some (encUn s 2 d a)
  | .bswap s d a => some (encUn s 3 d a)
  | .addi s d a i => some (encI s 0 d a i)
  | .andi s d a i => some (encI s 1 d a i)
  | .ori s d a i => some (encI s 2 d a i)
  | .xori s d a i => some (encI s 3 d a i)
  | .slti s d a i => some (encI s 4 d a i)
  | .sltiu s d a i => some (encI s 5 d a i)
  | .slli s d a h => some (encSH s 0 d a h)
  | .srli s d a h => some (encSH s 1 d a h)
  | .srai s d a h => some (encSH s 2 d a h)
  | .lim s d i => some (word s 0x0A [(20, d.code), (0, i.toNat)])
  | .bfx s d a p l => some (encBF s 0 d a p l)
  | .bfxu s d a p l => some (encBF s 1 d a p l)
  | .bfi s d a p l => some (encBF s 2 d a p l)
  | .beq s h a b o => some (encB s 0 h a b o)
  | .bne s h a b o => some (encB s 1 h a b o)
  | .blt s h a b o => some (encB s 2 h a b o)
  | .bge s h a b o => some (encB s 3 h a b o)
  | .bltu s h a b o => some (encB s 4 h a b o)
  | .bgeu s h a b o => some (encB s 5 h a b o)
  | .j s t => some (word s 0x11 [(20, 16), (0, t.toNat)])
  | .jal s d t => some (word s 0x11 [(20, d.code), (19, 1), (0, t.toNat)])
  | .jr s a => some (word s 0x12 [(20, 16), (15, a.code)])
  | .jalr s d a => some (word s 0x12 [(20, d.code), (15, a.code), (14, 1)])
  | .done s => some (word s 0x13 [])
  | .csrr s d c => some (word s 0x14 [(20, d.code), (15, 16), (0, c.toNat)])
  | .csrw s a c => some (word s 0x14 [(20, 16), (15, a.code), (12, 1), (0, c.toNat)])
  | .csrs s a c => some (word s 0x14 [(20, 16), (15, a.code), (12, 2), (0, c.toNat)])
  | .csrc s a c => some (word s 0x14 [(20, 16), (15, a.code), (12, 3), (0, c.toNat)])
  | .nop s => some (word s 0x15 [])
  | .wfld s d q => some (word s 0x15 [(20, d.code), (15, 16), (12, 1), (0, q.toNat)])
  | .qcnt s d q => some (word s 0x15 [(20, d.code), (15, 16), (12, 2), (0, q.toNat)])
  | .lds d a z o => some (encM 0x18 d a z.code o)
  | .sts b a z o => some (encM 0x19 b a z.code o)
  | .ldg d a z o => some (encM 0x1A d a z.code o)
  | .stg b a z o => some (encM 0x1B b a z.code o)
  | .amoAddSp d a b z => some (encAT 0x1C 0 d a b z)
  | .amoAndSp d a b z => some (encAT 0x1C 1 d a b z)
  | .amoOrSp d a b z => some (encAT 0x1C 2 d a b z)
  | .amoXorSp d a b z => some (encAT 0x1C 3 d a b z)
  | .amoMinSp d a b z => some (encAT 0x1C 4 d a b z)
  | .amoMaxSp d a b z => some (encAT 0x1C 5 d a b z)
  | .amoMinuSp d a b z => some (encAT 0x1C 6 d a b z)
  | .amoMaxuSp d a b z => some (encAT 0x1C 7 d a b z)
  | .amoSwapSp d a b z => some (encAT 0x1C 8 d a b z)
  | .casSp d a b c z => some (encCas 0x1C d a b c z)
  | .amoAddGlobal d a b z => some (encAT 0x1D 0 d a b z)
  | .amoAndGlobal d a b z => some (encAT 0x1D 1 d a b z)
  | .amoOrGlobal d a b z => some (encAT 0x1D 2 d a b z)
  | .amoXorGlobal d a b z => some (encAT 0x1D 3 d a b z)
  | .amoMinGlobal d a b z => some (encAT 0x1D 4 d a b z)
  | .amoMaxGlobal d a b z => some (encAT 0x1D 5 d a b z)
  | .amoMinuGlobal d a b z => some (encAT 0x1D 6 d a b z)
  | .amoMaxuGlobal d a b z => some (encAT 0x1D 7 d a b z)
  | .amoSwapGlobal d a b z => some (encAT 0x1D 8 d a b z)
  | .casGlobal d a b c z => some (encCas 0x1D d a b c z)
  | .fence sc => some (word .a 0x1E [(20, 16), (15, 16), (0, sc.code)])
  | .fenceQ m => some (word .a 0x1E [(20, 16), (15, 16), (12, 1), (0, m.toNat)])
  | .xprobe d a o => some (word .a 0x1E [(20, d.code), (15, a.code), (12, 2), (0, o.toNat)])
  | .pf a o => some (word .a 0x1E [(20, 16), (15, a.code), (12, 3), (0, o.toNat)])
  | .send e a b t => some (encCH 0x20 e .z a b t.toNat)
  | .recv e d a t => some (encCH 0x21 e d a .z t.toNat)
  | .offer e d => some (encCH 0x22 e d .z .z 0)
  | .select e l => some (encCH 0x22 e .z .z .z (32 + l.toNat))
  | .close e s => some (encCH 0x23 e .z .z .z s.toNat)
  | .deleg e x => some (encCH 0x23 e .z .z .z (16 + x.val))
  | .adopt e x => some (encCH 0x23 e .z .z .z (32 + x.val))
  | .epBind e a => some (encCH 0x24 e .z a .z 0)
  | .epConn e d a b => some (encCH 0x24 e d a b 8)
  | .epAcc e d a => some (encCH 0x24 e d a .z 16)
  | .epSt e d => some (encCH 0x24 e d .z .z 24)
  | .atLoad e d a => some (encCH 0x24 e d a .z 32)
  | .epShr e d a => some (encCH 0x24 e d a .z 40)
  | .post d a b => some (encCH 0x24 0 d a b 48)
  | .cpGet a b c l => some (encCP 0x26 0 a b c l)
  | .cpPut a b c l => some (encCP 0x26 1 a b c l)
  | .cpGath a b c l => some (encCP 0x26 2 a b c l)
  | .cpScat a b c l => some (encCP 0x26 3 a b c l)
  | .cpUnpk a b c l => some (encCP 0x27 0 a b c l)
  | .cpPack a b c l => some (encCP 0x27 1 a b c l)
  | .cpFill a b c l => some (encCP 0x27 2 a b c l)
  | .cpSeal d => some (encCQ 0x28 0 d .z .z .z)
  | .cpWait a => some (encCQ 0x28 1 .z a .z .z)
  | .cpSt d a => some (encCQ 0x28 2 d a .z .z)
  | .fwSet a b c => some (encCQ 0x28 3 .z a b c)
  | .fwClr a => some (encCQ 0x28 4 .z a .z .z)
  | .swInit a b => some (encCQ 0x29 0 .z a b .z)
  | .swWait a b => some (encCQ 0x29 1 .z a b .z)
  | .swRd d a => some (encCQ 0x29 2 d a .z .z)
  | .rgArm a b c => some (encCQ 0x2A 0 .z a b c)
  | .rgDisarm a => some (encCQ 0x2A 1 .z a .z .z)
  | .rgAdd a b => some (encCQ 0x2A 2 .z a b .z)
  | .rgRd d a => some (encCQ 0x2A 3 d a .z .z)
  | .rgBind a b => some (encCQ 0x2A 4 .z a b .z)
  | .wnReg d a b w => some (encWN 0 d a b w.val)
  | .wnUnreg a => some (encWN 1 .z a .z 0)
  | .wnCc d w => some (encWN 2 d .z .z w.val)
  | .wnWait a w => some (encWN 3 .z a .z w.val)
  | .capNew d a p => some (encCA 0 d a 0 p.val)
  | .capFwd p => some (encCA 1 .z .z 0 p.val)
  | .capIns a k p => some (encCA 2 .z a k.val p.val)
  | .capDel k p => some (encCA 3 .z .z k.val p.val)
  | .capRep a k p => some (encCA 4 .z a k.val p.val)
  | .capRd d k p => some (encCA 5 d .z k.val p.val)
  | .capDiv a p => some (encCA 6 .z a 0 p.val)
  | .capRet p => some (encCA 7 .z .z 0 p.val)
  | .capKill p => some (encCA 8 .z .z 0 p.val)
  | .capHdr d a p => some (encCA 9 d a 0 p.val)
  | .vadd d a b sl => some (encVT 0x30 0 d a b.val sl)
  | .vsub d a b sl => some (encVT 0x30 1 d a b.val sl)
  | .vmul d a b sl => some (encVT 0x30 2 d a b.val sl)
  | .vfma d a b sl => some (encVT 0x30 3 d a b.val sl)
  | .vfms d a b sl => some (encVT 0x30 4 d a b.val sl)
  | .vmax d a b sl => some (encVT 0x30 5 d a b.val sl)
  | .vmin d a b sl => some (encVT 0x30 6 d a b.val sl)
  | .vabs d a sl => some (encVT 0x30 7 d a 0 sl)
  | .vneg d a sl => some (encVT 0x30 8 d a 0 sl)
  | .vcmpEq d a b sl => some (encVT 0x30 9 d a b.val sl)
  | .vcmpNe d a b sl => some (encVT 0x30 10 d a b.val sl)
  | .vcmpLt d a b sl => some (encVT 0x30 11 d a b.val sl)
  | .vcmpLe d a b sl => some (encVT 0x30 12 d a b.val sl)
  | .vrsum d a sl => some (encVT 0x30 13 d a 0 sl)
  | .vrmax d a sl => some (encVT 0x30 14 d a 0 sl)
  | .vexp2 d a sl => some (encVT 0x30 15 d a 0 sl)
  | .vlog2 d a sl => some (encVT 0x30 16 d a 0 sl)
  | .vrcp d a sl => some (encVT 0x30 17 d a 0 sl)
  | .vrsqrt d a sl => some (encVT 0x30 18 d a 0 sl)
  | .vaddI d a b sl => some (encVT 0x31 0 d a b.val sl)
  | .vsubI d a b sl => some (encVT 0x31 1 d a b.val sl)
  | .vmli d a b sl => some (encVT 0x31 2 d a b.val sl)
  | .vmaxI d a b sl => some (encVT 0x31 3 d a b.val sl)
  | .vminI d a b sl => some (encVT 0x31 4 d a b.val sl)
  | .vabsI d a sl => some (encVT 0x31 5 d a 0 sl)
  | .vnegI d a sl => some (encVT 0x31 6 d a 0 sl)
  | .vand d a b sl => some (encVT 0x31 7 d a b.val sl)
  | .vor d a b sl => some (encVT 0x31 8 d a b.val sl)
  | .vxor d a b sl => some (encVT 0x31 9 d a b.val sl)
  | .vshl d a b sl => some (encVT 0x31 10 d a b.val sl)
  | .vshr d a b sl => some (encVT 0x31 11 d a b.val sl)
  | .vsra d a b sl => some (encVT 0x31 12 d a b.val sl)
  | .vcmpEqI d a b sl => some (encVT 0x31 13 d a b.val sl)
  | .vcmpNeI d a b sl => some (encVT 0x31 14 d a b.val sl)
  | .vcmpLtI d a b sl => some (encVT 0x31 15 d a b.val sl)
  | .vcmpLeI d a b sl => some (encVT 0x31 16 d a b.val sl)
  | .vcmpLtu d a b sl => some (encVT 0x31 17 d a b.val sl)
  | .vrsumI d a sl => some (encVT 0x31 18 d a 0 sl)
  | .vrmaxI d a sl => some (encVT 0x31 19 d a 0 sl)
  | .vclmul d a b sl => some (encVT 0x31 20 d a b.val sl)
  | .vclmulh d a b sl => some (encVT 0x31 21 d a b.val sl)
  | .vmov d a sl => some (encVT 0x32 0 d a 0 sl)
  | .vsel d a b sl => some (encVT 0x32 1 d a b.val sl)
  | .vtr d a => some (encVT 0x32 2 d a 0 { shape := .whole, ix := .z, io := 0 })
  | .vperm d a b sl => some (encVT 0x32 3 d a b.val sl)
  | .vrot d a b sl => some (encVT 0x32 4 d a b.val sl)
  | .vcvtFb d a sl => some (encVT 0x32 5 d a 0 sl)
  | .vcvtBf d a sl => some (encVT 0x32 6 d a 0 sl)
  | .vcvtFi d a sl => some (encVT 0x32 7 d a 0 sl)
  | .vcvtIf d a sl => some (encVT 0x32 8 d a 0 sl)
  | .vcvtI8 d a sl => some (encVT 0x32 9 d a 0 sl)
  | .vbcast t r sl => some (encVS 0 t r.code sl.shape.code sl.ix sl.io)
  | .vins t r ix io => some (encVS 1 t r.code 0 ix io)
  | .vext t r ix io => some (encVS 2 t r.code 0 ix io)
  | .ltab t n ix io => some (encVS 3 t n.val 1 ix io)
  | .vld t b p sl => some (encVM 0x34 0 0 t b p sl)
  | .vst t b p sl => some (encVM 0x34 1 0 t b p sl)
  | .vunpkF t b p sl => some (encVM 0x35 0 0 t b p sl)
  | .vunpkBf t b p sl => some (encVM 0x35 0 1 t b p sl)
  | .vpkE2m1 t b p sl => some (encVM 0x35 1 1 t b p sl)
  | .vpkLut4 t b p sl => some (encVM 0x35 1 2 t b p sl)
  | .vpkE4m3 t b p sl => some (encVM 0x35 1 3 t b p sl)
  | .vpkE5m2 t b p sl => some (encVM 0x35 1 4 t b p sl)
  | .vpkInt8 t b p sl => some (encVM 0x35 1 5 t b p sl)
  | .mma x y w c => some (encMX 0 x y w c.val)
  | .mmaBf16 x y w c => some (encMX 1 x y w c.val)
  | .mmZero c => some (encMX 2 .z .z .z c.val)
  | .mmSt x => some (encMX 3 x .z .z 0)
  | .mmFence => some (encMX 4 .z .z .z 0)
  | .mmCfg x => some (encMX 5 x .z .z 0)
  | .spawn d a => some (encSC 0x3C 0 d a .z 0)
  | .gang d a b => some (encSC 0x3C 1 d a b 0)
  | .fork d a b => some (encSC 0x3C 2 d a b 0)
  | .join d a => some (encSC 0x3C 3 d a .z 0)
  | .hpri a h => some (encSC 0x3C 4 .z a .z h.val)
  | .hmsk h => some (encSC 0x3C 5 .z .z .z h.val)
  | .humsk h => some (encSC 0x3C 6 .z .z .z h.val)
  | .rpl => some (encSC 0x3D 0 .z .z .z 0)
  | .sealCore a => some (encSC 0x3D 1 .z a .z 0)
  | .thaw a => some (encSC 0x3D 2 .z a .z 0)
  | .evict d a => some (encSC 0x3D 3 d a .z 0)
  | .rstr d a => some (encSC 0x3D 4 d a .z 0)
  | .hdLoWrite _ _ => none
  | .hdHiWrite _ _ => none
  | .codeLimWrite _ _ => none
  | .sysregWrite _ _ _ => none
  | .illegalEncoding _ _ _ => none
  | .illegalHintSequence _ _ _ => none
  | .entryMark _ _ => none
  | .serviceMessageArrival _ => none
  | .serviceMessageResend _ => none
  | .dispatch _ => none
  | .park _ => none
  | .resumable _ _ => none
  | .watchdogExpiry _ => none
  | .routerArbitration _ _ => none
  | .ageTick _ => none
  | .packetReceive _ => none
  | .coreRouterAnswer _ => none
  | .sliceAccess _ _ => none
  | .globalReply _ => none
  | .storeAck _ => none
  | .pageFaultReply _ => none
  | .connectionRequestArrival _ => none
  | .connectionAnswerArrival _ => none
  | .channelMessageArrival _ => none
  | .closeNoticeArrival _ => none
  | .errorNoticeArrival _ => none
  | .endpointMessageArrival _ => none
  | .adopterNameArrival _ => none
  | .redirectArrival _ => none
  | .redirectAckArrival _ => none
  | .forwardedMessageArrival _ => none
  | .stubEndArrival _ => none
  | .channelRetryResend _ => none
  | .postArrival _ => none
  | .postAnswerArrival _ _ _ _ _ => none
  | .controllerConversation _ _ => none
  | .transferTake _ => none
  | .copySegmentTranslation _ => none
  | .copyUnitArrival _ => none
  | .copyGetRequestArrival _ => none
  | .copyGetDataArrival _ => none
  | .copyRetryResend _ => none
  | .copyRefusalArrival _ => none
  | .fillTouch _ _ _ => none
  | .fillComplete _ _ _ => none
  | .syncWordRaise _ _ _ => none
  | .putAckArrival _ _ _ => none
  | .windowPutCheck _ => none
  | .echoRaise _ _ _ => none
  | .windowCounterRetry _ _ _ _ => none
  | .countReport _ _ _ => none
  | .arrivalReport _ _ _ => none
  | .aggregateTimer _ _ _ => none
  | .actionAttemptAnswer _ _ _ => none
  | .actionRetry _ _ => none
  | .generationAdvance _ _ _ _ => none
  | .taskLaunchHandoff _ _ _ => none
  | .matrixTileGrant _ => none
  | .matrixTileDrain _ _ => none
  | .capsuleArrival _ _ => none
  | .capsuleRetryReply _ => none
  | .capsuleRetryResend _ => none
  | .capsuleEgressSend _ => none
  | .dispatchOffer _ => none
  | .dispatchArrival _ _ _ => none
  | .dispatchAnswerArrival _ _ _ => none
  | .taskFinishedArrival _ _ => none
  | .codeImageLoad _ _ _ => none
  | .codeImageLoadDone _ _ _ _ _ => none
  | .schedulerRestart _ => none
  | .taskTableQuery _ _ _ => none
  | .stealRequest _ => none
  | .stealRequestArrival _ _ _ => none
  | .stolenRecordArrival _ _ _ => none
  | .stealAckArrival _ _ _ => none
  | .lendTimerExpiry _ _ => none
  | .confirmationArrival _ _ _ => none
  | .revocationArrival _ _ _ => none
  | .takenArrival _ _ _ => none
  | .lentQueryArrival _ _ _ => none
  | .heldAnswerArrival _ _ _ => none
  | .unknownAnswerArrival _ _ _ => none
  | .heldQueryArrival _ _ _ => none
  | .gangReserve _ _ => none
  | .gangHoldExpiry _ _ _ => none
  | .forkChunkDispatch _ _ => none
  | .childDoneCount _ _ _ _ _ => none
  | .continuationResend _ _ => none
  | .childFailure _ _ _ _ _ _ => none
  | .pairedHashArrival _ _ _ _ => none
  | .pairedInputCopy _ _ => none
  | .pairedHashTimeout _ _ _ => none
  | .pairedFreezeTimeout _ => none
  | .evictionStream _ => none
  | .ethernetFrameReceive _ _ _ _ _ _ => none
  | .portLinkTraining _ => none
  | .cmConnection _ _ _ => none
  | .rdmaWrite _ _ => none
  | .rdmaWriteWithImmediate _ _ _ => none
  | .rdmaRead _ _ => none
  | .controlSend _ _ _ => none
  | .ecnMarkedPacket _ _ => none
  | .cnpReceive _ _ => none
  | .rateRestore _ _ => none
  | .launch _ _ _ => none
  | .topen _ _ _ => none
  | .tclose _ _ => none
  | .tset _ _ _ _ _ _ => none
  | .qres _ _ _ => none
  | .supv _ _ _ => none
  | .svcClusterReset _ _ => none
  | .clusterResetTimeout _ => none
  | .svcLinkRetrain _ _ => none
  | .svcPortRetrain _ _ => none
  | .retrainComplete _ _ => none
  | .retrainTimeout _ _ => none
  | .ebank _ _ _ _ => none
  | .ckpt _ _ _ _ _ _ _ => none
  | .ckptComplete _ => none
  | .crest _ _ _ _ _ _ _ => none
  | .lock _ _ => none
  | .linkFrameReceive _ _ => none
  | .replayRequestReceive _ _ => none
  | .routeTableWrite _ _ => none
  | .getVersion => none
  | .getCapabilities => none
  | .negotiateAlgorithms => none
  | .getDigests => none
  | .getCertificate _ _ _ => none
  | .challenge _ _ => none
  | .getMeasurements _ _ _ => none
  | .spdmError _ => none
  | .pldmSensorRead _ => none
  | .powerCapSet _ => none
  | .pldmReadAndClear _ => none
  | .errorArrival _ => none
  | .powerOn => none
  | .munteReset => none
  | .powerCapRestraint _ => none
  | .thermalRestraint _ _ => none
  | .thermalTrip _ => none
  | .schedulerResetOrPowerGating _ => none
  | .schedulerMessageResend _ _ => none
  | .egressQueueAcceptanceReport _ _ _ _ => none
  | .regionCommandAcknowledgement _ _ _ _ => none
  | .crestComplete _ _ => none

end Sys2Proof
end

