-- ==== Sys2Proof/Machine/State.lean ====
section
/-! DEFINITION. The state of the SV9 as plain data: every core with its engines and storage, the slices, region
controllers, schedulers, fabric, host ports, chip links and the Winter die, and the machine at reset. -/

namespace Sys2Proof.Machine

open Sys2Proof

/-- A byte memory: rising addresses, no listed zero. An unlisted address reads as 0. -/
abbrev Mem := List Host.Cell

/-! ## Handler core -/

/-- A register with the result it waits for (R159): `pend` is the tag of an instruction that has issued and not yet
written it, and whether that is an external wait (R164). -/
structure RegCell where
  val : Word := 0
  pend : Option (Nat × Bool) := none
  deriving DecidableEq, Repr

/-- A slot of `lq`, `sq`, `fq` or `rq` (R157): `val` none while reserved and not filled. -/
structure Slot where
  tag : Nat := 0
  val : Option Word
  ext : Bool := false
  deriving DecidableEq, Repr

/-- Pending hints of a stream (R120, R191). `second` is a second `hint.imm`, an illegal sequence. -/
structure Hints where
  imm : Option (BitVec 20) := none
  second : Option (BitVec 20) := none
  rnd : Bool := false
  sat : Bool := false
  sched : BitVec 2 := 0
  nt : Bool := false
  deriving DecidableEq, Repr

/-- The engine queues of a core (Table 03.3). -/
inductive Queue where
  | lsu | copy | vector | matrix | channel | capsule
  deriving DecidableEq, Repr

/-- What a stream is blocked on (R156, R164): a register that waits for a tag; the `k`-th slot from the head of a queue;
room in a queue; the other stream's branch outcome, or room for its own; an engine queue; earlier results
(`hint.sched`); its own instruction; an access of the activation that is parked (R222); an endpoint whose state is
unknown (R247). -/
inductive Wait where
  | register (tag : Nat)
  | pop (q : Reg) (k : Nat)
  | push (q : Reg)
  | branchPop
  | branchPush
  | engine (q : Queue)
  | drain
  | held
  | parkedAccess
  | endpoint (k : Fin 16)
  deriving DecidableEq, Repr

/-- One stream of an activation. `hold` is an instruction that has issued and holds the stream (R196). `last` is the
address of the last word acted on (R172). `due` are the tags of the instructions that have issued and whose results are still to
come (R192). -/
structure StreamSt where
  regs : Vector RegCell 16 := Vector.replicate 16 {}
  pc : Nat := 0
  last : Nat := 0
  ended : Bool := false
  hints : Hints := {}
  hold : Option (Nat × Bool) := none
  wait : Option Wait := none
  due : List Nat := []
  deriving DecidableEq, Repr

/-- An entry of `bqa` or `bqe` (R160): an outcome of format B or a target of format JR. -/
inductive Branch where
  | taken (t : Bool)
  | target (pc : Nat)
  deriving DecidableEq, Repr

/-- An activation: what a scalar context holds (R163), with its privilege and its child or task record. `idle` counts the
cycles for which the conditions of R165 have held together without a break. -/
structure Act where
  id : Nat
  ent : Nat := 0
  priv : Bool := false
  asid : Nat := 0
  a : StreamSt := {}
  e : StreamSt := {}
  lq : List Slot := []
  sq : List Slot := []
  fq : List Slot := []
  rq : List Slot := []
  bqa : List Branch := []
  bqe : List Branch := []
  hdLo : Word := 0
  src : Nat := 0
  info : Nat := 0
  wid : Word := 0
  wfw : Word := 0
  args : List Word := []
  rgn : Word := 0
  cyc : Nat := 0
  svc : List Word := []
  tag : Nat := 0
  tmask : List Nat := []
  rid : Option Nat := none
  child : Option ChildWord := none
  slot : Option Nat := none
  idle : Nat := 0
  deriving DecidableEq, Repr

/-- A 16 x 32 tile register, row major (R346). -/
abbrev Tile := Vector Lane 512

/-- A parked activation with the tile registers it has written and what of them is in error (R163, R165), which of its streams wait
externally, and when it became resumable. -/
structure Ctx where
  act : Act
  extA : Bool := false
  extE : Bool := false
  tiles : List (Nat × Tile) := []
  tileBad : List Nat := []
  order : Nat := 0
  ready : Option Nat := none
  deriving DecidableEq, Repr

/-- A handler-table entry (Table 05.1). `since` is the moment from which `wait` counts, after the `waited` cycles that an
evicted entry brought with it (R140, R146). `work` are the words that `pend` counts and that a dispatch takes up, oldest first. -/
structure Entry where
  valid : Bool := false
  enable : Bool := false
  prio : Nat := 0
  priv : Bool := false
  src : Nat := 0
  srcno : Nat := 0
  pc : Nat := 0
  base : Nat := 0
  limit : Nat := 0
  pend : Nat := 0
  since : Nat := 0
  waited : Nat := 0
  work : List MarkWord := []
  deriving DecidableEq, Repr

/-- Life of a core (R30, R37, R38, R455, R456). -/
inductive Life where
  | running | evicting | frozen | sealed | vacant
  deriving DecidableEq, Repr

/-- A command in an engine queue, with its operands captured at issue (R17). `tag` routes its result; 0 for none. `mark`
is the number of the last load-store command that entered before it (R95, R418, R463). `pre`, `conf` and `to_` are a channel command's checks at issue: that it was checked before its connection was made
(R249), that a close conforms or that an `adopt` has made its target `adopting`, and the automaton state it reaches. `lost` says that
the connection attempt before it has failed (R249). -/
structure Cmd where
  op : Instr
  seq : Nat := 0
  act : Nat := 0
  tag : Nat := 0
  mark : Nat := 0
  vals : List Word := []
  ix : Nat := 0
  rnd : Bool := false
  sat : Bool := false
  nt : Bool := false
  pc : Nat := 0
  ent : Nat := 0
  wid : Word := 0
  priv : Bool := false
  asid : Nat := 0
  pre : Bool := false
  conf : Bool := false
  to_ : Option Nat := none
  lost : Bool := false
  deriving DecidableEq, Repr

/-! ## Load-store unit -/

/-- Progress of one part of a load-store access. `translated` is a store whose page has been translated and which has
not left (R197); `left` a store on its way; `egress` one accepted into its die's egress queue (R92). -/
inductive PartSt where
  | idle | asked | translated | left | egress | parked | done
  deriving DecidableEq, Repr

/-- One access of a load-store entry: an aligned access, or one byte of an unaligned one (R214). `seen` says of a store on its
way that its die's egress queue has accepted it or its home slice has performed it, whether or not its unit has learnt it: it is
performed at a scope wider than `core` (R83, R92). -/
structure Part where
  va : Nat
  n : Nat
  st : PartSt := .idle
  val : Nat := 0
  seen : Bool := false
  deriving DecidableEq, Repr

/-- What a load-store entry does. -/
inductive LsOp where
  | load | store | amo (fn : AmoFn) | cas | xprobe | pf | fence (sc : Scope) | fenceQ (mask : BitVec 6)
  | region | winCc | winWait
  deriving DecidableEq, Repr

/-- An entry of the load-store queue (R195). `sgn` and `n` say how a load's bytes become its value. `marks` are, for
`fence.q`, the last sequence number of each named queue at its issue. `page` is a page-fault record yet to be sent. -/
structure LsEntry where
  cmd : Cmd
  op : LsOp
  glob : Bool := false
  addr : Nat := 0
  n : Nat := 0
  sgn : Bool := true
  data : Nat := 0
  exp : Nat := 0
  parts : List Part := []
  sent : Bool := false
  rc : Option RegCmd := none
  marks : List (Nat × Nat) := []
  page : Option FaultRec := none
  deriving DecidableEq, Repr

/-- A registered scratchpad window (R334, R335). -/
structure SpWin where
  idx : Nat
  base : Nat
  units : Nat
  gasid : Nat
  echo : Bool
  wcn : Nat
  tag : Nat
  owner : Nat
  deriving DecidableEq, Repr

/-! ## Channel endpoint engine -/

/-- Endpoint life states (Table 07.1). -/
inductive EpLife where
  | idle | listening | connecting | connected | closed | moving | shared | violated | adopting
  deriving DecidableEq, Repr

/-- A buffered message (R240) or an accepted post (R270), with its slot, its number and its release. -/
structure BufMsg where
  sub : ChanSub
  ty : Nat
  payload : List Byte := []
  endp : Option EndpMsg := none
  slot : Nat := 0
  seq : Nat := 0
  rel : Option (Nat × Nat × Nat) := none
  deriving DecidableEq, Repr

/-- A close or error notice kept behind the buffered messages (R259). -/
structure Notice where
  code : Nat
  conf : Bool
  err : Bool
  deriving DecidableEq, Repr

/-- An endpoint register (R234 to R247, R266, R268). `ist` none is unknown; `exp` is the life after a queued
`ep.conn` or `ep.acc` (R247). `prev` is the life before a connection attempt or an adoption. `fwd` is where a moving
stub forwards, `pass` what it has yet to forward, one message at a time, and `passing` that one is on its way; `stub` is the
stub of an adopted endpoint, behind whose stub-end `held` direct messages wait. An adopted endpoint keeps `prev` adopting. `ring` is the
slot of the next message (R240). `cno` numbers the channels of the core, `conn` is a controller's number of the connection, and `old` are
the names that the peer has had before (R266). -/
structure Ep where
  life : EpLife := .idle
  aut : Option Automaton := none
  code : Nat := 0
  cur : Nat := 0
  ist : Option Nat := some 0
  exp : Option EpLife := none
  prev : EpLife := .idle
  lref : Nat := 0
  pep : Nat := 0
  pkind : Nat := 0
  peer : Nat := 0
  laout : Nat := 0
  lain : Nat := 0
  range : Option (Nat × Nat) := none
  resv : Option (Nat × Nat) := none
  key : Word := 0
  buf : List BufMsg := []
  notice : Option Notice := none
  mslots : Nat := 0
  msize : Nat := 0
  msealed : Bool := false
  sseq : Nat := 0
  rseq : Nat := 0
  fwd : Option (Nat × Nat) := none
  stub : Option (Nat × Nat) := none
  held : List ChanMsg := []
  pass : List ChanMsg := []
  passing : Bool := false
  ring : Nat := 0
  cno : Nat := 0
  conn : Nat := 0
  old : List (Nat × Nat) := []
  deriving DecidableEq, Repr

/-! ## Copy engine -/

/-- Progress of a segment's translation (R293, R318): the segment's number, and where it lies. -/
inductive XlSt where
  | none | asked | parked | ok (seg pa : Nat) (uc pois : Bool)
  deriving DecidableEq, Repr

/-- How the bytes of a command lie (R292, R297, R298, R308): in one piece; in pieces of `esz` bytes whose far indices stand
in SP from `list` on; blocks of `nb` a line for `n` lines; blocks packed from rows of `len` values; a range of a fill
window. -/
inductive Plan where
  | plain
  | gather (esz list : Nat)
  | unpack (n nb : Nat)
  | pack (fmt rows len stride : Nat)
  | fill (win lo hi : Nat)
  deriving DecidableEq, Repr

/-- A transfer in its context (R283, R292). `get` says that it writes the core's own storage. `off` is the offset of the
next byte within the command, `idx` the index of the piece in progress, `out` the offsets of units on their way, `err`
the class, cause and offset of its error, `perf` that its own bytes are done. `held` are bytes of code words that have not come
whole (R295), none for one of a source unit in error. `todo` are the pieces that are yet to be read of the unit that leaves next, `got` what
has been read of it, and `hurt` that a piece was in error (R102, R296). -/
structure Xfer where
  ctx : Nat
  cmd : Cmd
  batch : Nat
  get : Bool
  ls : Ls
  far : Side
  loc : Nat
  total : Nat := 0
  plan : Plan := .plain
  off : Nat := 0
  idx : Option Nat := none
  swa : Option Nat := none
  wcn : Option Nat := none
  xl : XlSt := .none
  out : List Nat := []
  err : Option (Nat × Nat × Nat) := none
  perf : Bool := false
  held : List (Nat × Option Byte) := []
  todo : Option (List (Nat × Nat)) := none
  got : List Host.Cell := []
  hurt : Bool := false
  deriving DecidableEq, Repr

/-- The open batch or a sealed one (R299, R300, Table 08.8). `err` is the first error's command, class, cause and offset. -/
structure Batch where
  num : Nat
  sealed : Bool := false
  ncmd : Nat := 0
  err : Option (Nat × Nat × Nat × Nat) := none
  deriving DecidableEq, Repr

/-- A demand-fill window (R304, R305): which units are present, and the command of a `pre`, the batch open when it
was taken and the units still to be started. -/
structure FillWin where
  active : Bool := false
  base : Nat := 0
  units : Nat := 0
  src : Side := .glob 0
  present : List Nat := []
  pre : Option Cmd := none
  batch : Nat := 0
  todo : List Nat := []
  deriving DecidableEq, Repr

/-- Who started a fill: an access of the load-store unit or the vector engine; a `cp.fill`, by its context and number; or `fw.set`,
with the batch open when it was taken. -/
inductive FillBy where
  | touch (vector : Bool)
  | command (ctx seq : Nat)
  | pre (batch : Nat)
  deriving DecidableEq, Repr

/-- A fill in progress (R306 to R308): its window and unit, whose command it is, the bytes that have come, and, once all have, the pieces
that are yet to be written (R102). -/
structure Fill where
  win : Nat
  unit : Nat
  cmd : Cmd
  by_ : FillBy
  xl : XlSt := .none
  asked : Bool := false
  bytes : List Byte := []
  todo : Option (List (Nat × Nat)) := none
  deriving DecidableEq, Repr

/-! ## Capsule router and pairs -/

/-- Slot states (Table 12.1). -/
inductive SlotSt where
  | free | building | waiting | taken | held
  deriving DecidableEq, Repr

/-- A landing record (R399). -/
structure LandSlot where
  st : SlotSt := .free
  hdr : Option CapHdr := none
  owner : Option Nat := none
  landed : Nat := 0
  deriving DecidableEq, Repr

/-- A capsule in a router's egress buffer (R408, R409): `sent` while its answer is awaited. -/
structure EgCap where
  cap : Capsule
  sent : Bool := false
  deriving DecidableEq, Repr

/-- A compared packet of a pair (R449): the primary's packet held, or a hash that waits for the other's. -/
structure PairHash where
  engine : Nat
  num : Nat
  hash : BitVec 64
  pkt : Option Pkt := none
  deriving DecidableEq, Repr

/-- Paired execution of a core (R448 to R451). `count` numbers the packets of each engine, `mine` are the primary's packets
that wait for a hash, `theirs` the hashes that wait for a packet, `frozen` the kind and `pc` of this core's freeze. -/
structure Pair where
  primary : Bool
  other : Nat
  rid : Nat
  die : Nat
  count : List (Nat × Nat) := []
  mine : List PairHash := []
  theirs : List PairHash := []
  frozen : Option (Nat × Nat) := none
  deriving DecidableEq, Repr

/-- A scheduler instruction that has issued and not been answered (R462, R463), or one that waits to leave after others (R449); `sent` once
its request has left. `fin` is the record of a task that has ended, whose "finished" waits in the same order. -/
structure SchedOut where
  cmd : Cmd
  sent : Bool := false
  fin : Option Nat := none
  deriving DecidableEq, Repr

/-- An eviction in progress (R457): who waits for its result, and the life of the core to which a failed one returns, once
it is being evicted. -/
structure EvictJob where
  area : Nat
  place : Nat
  act : Nat
  tag : Nat
  prev : Option Life := none
  deriving DecidableEq, Repr

/-! ## A core -/

/-- A core with its engines and storage. `bad` are the units of its storage that are in error, by storage and unit (R503), and `tileBad` those
of its tile registers: unit `32 t + k` is the 64 bytes of `t` from element `16 k` (R368). `vGot` are the bytes of SP, AB or CB that the head of the vector queue has read or written, of those it moves lane by lane (R102). `freeAt` is the cycle in which it last became free (R430, R444), `chanNo` the number of its last channel. The default is a vacant core after reset (R140, R455, R493). -/
structure Core where
  life : Life := .vacant
  asid : Nat := 0
  codeTag : Nat := 0
  codeLim : Nat := 0
  hdl : Vector Entry 20 := Vector.replicate 20 {}
  hdSel : Nat := 0
  ageUs : Nat := 50
  parkNs : Nat := 1000
  wdogLim : Nat := 4194304
  act : Option Act := none
  ctxs : List Ctx := []
  actNo : Nat := 1
  inbox : List SvcMsg := []
  tasks : List Nat := []
  serial : Nat := 0
  recs : List (Nat × Nat) := []
  born : Nat := 0
  sp : Mem := []
  ab : Mem := []
  cb : Mem := []
  code : Mem := []
  bad : List (Nat × Nat) := []
  tileBad : List Nat := []
  tiles : Vector Tile 8 := Vector.replicate 8 (Vector.replicate 512 0)
  lut : Vector (Vector Byte 16) 4 := Vector.replicate 4 (Vector.replicate 16 0)
  lsq : List LsEntry := []
  lsSeq : Nat := 0
  epoch : Nat := 0
  wc : Vector Nat 8 := Vector.replicate 8 0
  wins : List SpWin := []
  winTag : Nat := 0
  eps : Vector Ep 16 := Vector.replicate 16 {}
  nq : List Cmd := []
  nSeq : Nat := 0
  nSent : Bool := false
  closing : List (Nat × Nat) := []
  cq : List Cmd := []
  cSeq : Nat := 0
  xfers : List Xfer := []
  stray : List Xfer := []
  ctxNo : Nat := 0
  batch : Nat := 1
  batches : List Batch := []
  fills : Vector FillWin 4 := Vector.replicate 4 {}
  filling : List Fill := []
  cEpoch : Nat := 0
  vq : List Cmd := []
  vGot : List Host.Cell := []
  vSeq : Nat := 0
  mq : List Cmd := []
  mSeq : Nat := 0
  red : Bool := false
  wt : Nat := 1
  lseq : Nat := 0
  mTile : Nat := 0
  mLut : Vector (Vector Byte 16) 4 := Vector.replicate 4 (Vector.replicate 16 0)
  slots : Vector LandSlot 2 := Vector.replicate 2 {}
  egress : List EgCap := []
  kq : List Cmd := []
  kSeq : Nat := 0
  capNo : Nat := 1
  pair : Option Pair := none
  evict : Option EvictJob := none
  schedOut : List SchedOut := []
  scSeq : Nat := 0
  doneOut : List (Nat × ChildWord) := []
  landNo : Nat := 0
  freeAt : Nat := 0
  chanNo : Nat := 0
  deriving DecidableEq, Repr

/-! ## Groups, slices, controllers -/

/-- A matrix tile in progress (R379, R387): the core and the command's number, which tile of the command, the first row
and the accumulators of its rows, how many steps and how many elements of K are done, and for the 64 rows of A and the
64 columns of B the block and the offset in it. -/
structure TileJob where
  place : Nat
  seq : Nat
  tile : Nat
  row : Nat
  acc : List Lane
  step : Nat := 0
  pos : Nat := 0
  ats : List (Nat × Nat) := List.replicate 128 (0, 0)
  deriving DecidableEq, Repr

/-- A matrix group: its weight buffer, the buffer's owner, the arbiter's current core and grant count (R375, R387). -/
structure Group where
  wb : Mem := []
  owner : Option Nat := none
  cur : Nat := 0
  grants : Nat := 0
  job : Option TileJob := none
  bad : List Nat := []
  deriving DecidableEq, Repr

/-- A line of a slice (R202); `low` is of the lowest retention priority (R205). -/
structure Line where
  asid : Nat
  va : Nat
  pa : Nat
  data : List Byte
  dirty : Bool := false
  bad : Bool := false
  low : Bool := false
  deriving DecidableEq, Repr

/-- A translation that a slice keeps (R212): page base, log2 of its size, the entry read and where it stands. -/
structure Kept where
  asid : Nat
  va : Nat
  lg : Nat
  ent : Nat
  at_ : Nat
  deriving DecidableEq, Repr

/-- Where a walk ends: a valid leaf, with the level and where the entry stands; an invalid entry; a malformed entry; an
invalid context entry; an uncorrectable error. -/
inductive Walked where
  | leaf (lvl ent at_ : Nat)
  | invalid (lvl ent : Nat) (fail : Bool)
  | malformed (lvl ent : Nat)
  | noContext (ent : Nat)
  | error (pa : Nat)
  deriving DecidableEq, Repr

/-- How far a walk has come (R211): the context entry is read next; the entry of a level, in a table; or nothing more. -/
inductive WalkAt where
  | context
  | table (lvl pa : Nat)
  | over (w : Walked)
  deriving DecidableEq, Repr

/-- A walk under way in a slice: whose address it translates, and how far it has come. -/
structure WalkSt where
  asid : Nat
  va : Nat
  at_ : WalkAt := .context
  deriving DecidableEq, Repr

/-- A slice: its lines, the translations it keeps and the walk that it makes. Its window filter entries follow from the registered windows. -/
structure SliceSt where
  lines : List Line := []
  kept : List Kept := []
  walking : Option WalkSt := none
  deriving DecidableEq, Repr

/-- Actions of a binding (Table 09.4). -/
inductive Binding where
  | none
  | barrier (arg va : Nat)
  | launch (h : Launch) (name va : Nat)
  | wake (ent place arg : Nat) (va : Nat)
  | gen (place spa : Nat)
  | notify (conn : Nat)
  deriving DecidableEq, Repr

/-- Region action states (Table 09.5). -/
inductive RgSt where
  | free | armed | pending | performing | fired | failed
  deriving DecidableEq, Repr

/-- A region (Table 09.2). `tries` counts the retry replies of the attempt in flight, `noted` that its cause-9 notice
has been sent (R328), `rebound` that the binding was replaced and `stale` that the region was freed while it was in
flight (R329, R330); `ack` is the core's `rg.bind` that waits for the first attempt's answer (R332), with its ASID, and `owed` are those of
a binding that has been disarmed since; `arm` is the number of the `rg.arm`
that installed its marks (R323). -/
structure Region where
  owner : Option Nat := none
  st : RgSt := .free
  va : Nat := 0
  len : Nat := 0
  total : Nat := 0
  cnt : Nat := 0
  rearm : Bool := false
  phase : Nat := 0
  ovf : Bool := false
  bnd : Bool := false
  binding : Binding := .none
  flight : Bool := false
  tries : Nat := 0
  noted : Bool := false
  rebound : Bool := false
  stale : Bool := false
  ack : Option (Nat × Nat × Nat × Nat) := none
  owed : List (Nat × Nat × Nat × Nat) := []
  arm : Nat := 0
  deriving DecidableEq, Repr

/-- A count mark (R322): physical range, the home region and the number of its `rg.arm`. -/
structure Mark where
  lo : Nat
  hi : Nat
  home : Nat
  idx : Nat
  arm : Nat := 0
  deriving DecidableEq, Repr

/-- A registered global window (R334). -/
structure Win where
  idx : Nat
  base : Nat
  units : Nat
  gasid : Nat
  echo : Bool
  host : Bool
  wcn : Nat
  tag : Nat
  owner : Nat
  place : Nat
  deriving DecidableEq, Repr

/-- A controller's side of a connection (R271): its automaton, state and what it waits for. `ending` says that it ends once the notification in
flight has been answered (R333). -/
structure Conn where
  num : Nat
  place : Nat
  ep : Nat
  asid : Nat
  bia : Nat
  st : Nat := 0
  va : Nat := 0
  len : Nat := 0
  region : Option Nat := none
  sseq : Nat := 0
  rseq : Nat := 0
  ending : Bool := false
  deriving DecidableEq, Repr

/-- A region controller (09). `aggs` are bytes counted for other homes and not yet reported (R97); `keys` are the slots of ASIDs and `dev`
is the device slot (R342), each by the number of its key pair. -/
structure Ctl where
  regions : List (Nat × Region) := []
  marks : List Mark := []
  aggs : List (Nat × Nat × Nat) := []
  armNo : Nat := 0
  wins : List Win := []
  tag : Nat := 0
  keys : List (Nat × Nat) := []
  conns : List Conn := []
  connNo : Nat := 0
  bad : List Nat := []
  dev : Nat := 0
  deriving DecidableEq, Repr

/-! ## Schedulers, directory, fork units -/

/-- Record states (Table 13.2) are numbers in `TaskRec.rst`. Per-ASID settings of a scheduler (R432, R436). -/
structure SchedCfg where
  qage : Nat := 100
  high : Nat := 65536
  low : Nat := 16384
  deriving DecidableEq, Repr

/-- A code-image load in progress (R431). -/
structure ImageLoad where
  place : Nat
  rid : Nat
  deriving DecidableEq, Repr

/-- A die's task scheduler (13). `marks` are throttle marks: ASID, place, entry (R436); `resv` are the cores reserved for gangs (R441). -/
structure Sched where
  recs : List TaskRec := []
  rid : Nat := 0
  tag : Nat := 0
  cfg : List (Nat × SchedCfg) := []
  marks : List (Nat × Nat × Nat) := []
  down : Bool := true
  loads : List ImageLoad := []
  resv : List Nat := []
  deriving DecidableEq, Repr

/-- A pending gang (R440 to R442): `asked` is the core that the directory has asked a scheduler to reserve for it, and not heard of. -/
structure Gang where
  gang : Nat
  asid : Nat
  members : List TaskRec
  resv : List Nat := []
  hold : Nat
  epoch : Nat := 0
  expiries : Nat := 0
  asked : Option Nat := none
  deriving DecidableEq, Repr

/-- A join cell with its fork (Table 13.4, R443 to R447). -/
structure Cell where
  gen : Nat := 0
  total : Nat := 0
  cnt : Nat := 0
  fail : Nat := 0
  next : Nat := 0
  ce : Nat := 0
  ke : Nat := 0
  kv : Bool := false
  jn : Bool := false
  st : Nat := 0
  team : List Nat := []
  busy : List (Nat × Nat) := []
  redo : List Nat := []
  forker : Nat := 0
  asid : Nat := 0
  wid : Nat := 0
  widths : Nat := 0
  chunk : Nat := 0
  args : List Nat := []
  tag : Nat := 0
  deriving DecidableEq, Repr

/-- A join that waits at its fork unit (R465), on a cell of one allocation. -/
structure Joiner where
  place : Nat
  act : Nat
  tag : Nat
  cell : Nat
  gen : Nat
  deriving DecidableEq, Repr

structure ForkUnit where
  cells : List (Nat × Cell) := []
  joins : List Joiner := []
  deriving DecidableEq, Repr

/-! ## Fabric -/

/-- A packet in the fabric: at which node and input, since when, and how often its age has risen there (R25); `out` is the
output that it waits for, none while it arrives. Nodes are the Autumn die, 4, and the routers of the Summer dies' meshes
(R9, R29). -/
structure Transit where
  pkt : Pkt
  node : Nat
  inp : Nat
  out : Option Nat := none
  since : Nat := 0
  ticks : Nat := 0
  deriving DecidableEq, Repr

/-! ## Host ports, links, Winter die -/

/-- A queue pair of a host port (R471, R475): its path MTU, which cuts requests into packets below the level of the model, and
how many halvings of its rate are in force. -/
structure QPair where
  connected : Bool := false
  mtu : Nat := 4096
  frozen : Bool := false
  half : Nat := 0
  deriving DecidableEq, Repr

inductive LinkSt where
  | down | up | training | failed
  deriving DecidableEq, Repr

structure Port where
  st : LinkSt := .down
  qps : List (Nat × QPair) := []
  deriving DecidableEq, Repr

/-- A chip link (R483 to R485): next sequence number, last frame received, replay buffer, credits. -/
structure Link where
  st : LinkSt := .down
  sseq : Nat := 0
  rseq : Nat := 0
  replay : List LinkFrame := []
  replays : Nat := 0
  credits : List (Nat × Nat) := []
  lost : Bool := false
  deriving DecidableEq, Repr

/-- An error bank (Tables 14.8, 14.9). -/
structure Bank where
  rcd : Option FaultRec := none
  v : Bool := false
  uc : Bool := false
  ovf : Bool := false
  ovfc : Nat := 0
  cec : Nat := 0
  deriving DecidableEq, Repr

/-- The service image of the manifest (R494). -/
structure SvcImage where
  code : List Byte := []
  va : Nat := 0
  lim : Nat := 0
  handlers : List (List Byte) := []
  frames : List (Nat × List Byte) := []
  ctxEntry : Nat := 0
  deriving DecidableEq, Repr

/-- The module's flash memory and fuses (R488, R494): for the Winter die and each measured die its image and fuse configuration, the
digests of the manifest and whether its signature checks, chip number, route table, service and supervisor cores (R41). -/
structure Flash where
  images : List (Nat × List Byte) := []
  manifest : List (Nat × BitVec 256) := []
  signed : Bool := false
  chip : Nat := 0
  routes : List (Nat × Nat) := []
  svc : SvcImage := {}
  svcCores : List (Nat × Nat) := []
  supCores : List (Nat × Nat) := []
  certs : List Byte := []
  deriving DecidableEq, Repr

/-- A background control operation (R477, R495, R496, R500, R501). -/
inductive BackOp where
  | cluster (f : CtlFrom) (clus : Nat)
  | link (f : CtlFrom) (n : Nat)
  | port (f : CtlFrom) (n : Nat)
  | ckpt (f : CtlFrom) (qpn0 qpn1 va0 va1 key0 key1 : Nat)
  | crest (f : CtlFrom) (qpn0 qpn1 va0 va1 key0 key1 : Nat)
  deriving DecidableEq, Repr

/-- What the device sends to the outside (R473 to R476, R489 to R492, R500). `image` is an RDMA WRITE of `n` bytes of a stack as
stored: its bytes that are not zero, and under which key each line was stored, stand for the ciphertext. The causes of an
alert: 1 an error recorded in a bank, 2 a record in the Winter die's bank, 3 a die that fails measurement, 4 a thermal threshold. -/
inductive OutMsg where
  | ack (port qpn : Nat)
  | nak (port qpn syndrome : Nat)
  | readData (port qpn : Nat) (bytes : List Byte)
  | write (port qpn key va : Nat) (bytes : List Byte)
  | read (port qpn key va n : Nat)
  | image (port qpn key va n : Nat) (cells : Mem) (keys : List (Nat × Nat))
  | cnp (port qpn : Nat)
  | connected (port qpn : Nat)
  | response (f : CtlFrom) (bytes : List Byte)
  | alert (cause : Nat)
  | spdm (bytes : List Byte)
  | pldm (bytes : List Byte)
  | frame (link : Nat) (f : LinkFrame)
  deriving DecidableEq, Repr

/-! ## The machine -/

/-- Whose turn it is. `issue` is the next word of a stream of a core; `both` the next words of both streams, where both fault in
one cycle (R124); `drain` the head of an engine's queue;
`array` a step of a matrix group's array; `copyUnit` and `fillUnit` one unit of a transfer or fill; `replay` the completion of an `rpl` that waits; `event` a step of the table; `tick` the passing of time. -/
inductive Turn where
  | issue (place : Nat) (s : Stream)
  | both (place : Nat)
  | lsu (place seq : Nat)
  | drain (place engine : Nat)
  | array (grp : Nat)
  | copyUnit (place ctx : Nat)
  | fillUnit (place win unit : Nat)
  | walk (slice : Nat)
  | replay
  | event (e : Event)
  | tick
  deriving DecidableEq, Repr

/-- The package. A core, slice, controller, scheduler or bank that is not listed is at its default. `recFly` holds the engine and
serial of each record that a source which is no core has raised and that has not been accepted, by the source's key, and
`recWait` the records that wait in their source's router, each with whether a notice follows it (R34). `rpling` are the `rpl` that have
issued and are not complete: whose, and the tag that holds its stream (R225, R467). `control` is the control message that the directory has
begun to perform and is still at (R477). `wrapped` are the key slots that this device has wrapped for checkpoints, each with the keys of
its image's lines: they open on no other (R501). -/
structure State where
  cores : List (Nat × Core) := []
  groups : List (Nat × Group) := []
  slices : List (Nat × SliceSt) := []
  ctls : List (Nat × Ctl) := []
  scheds : List (Nat × Sched) := []
  gangs : List Gang := []
  gangNo : Nat := 0
  forks : List (Nat × ForkUnit) := []
  hbm : Mem := []
  hbmKeys : List (Nat × Nat) := []
  net : List Transit := []
  pktNo : Nat := 0
  arbs : List (Nat × List (Nat × Nat)) := []
  ports : List (Nat × Port) := []
  links : List (Nat × Link) := []
  routes : List (Nat × Nat) := []
  banks : List (Nat × Bank) := []
  serials : List (Nat × Nat) := []
  recFly : List (Nat × Nat × Nat) := []
  recWait : List (FaultRec × Bool) := []
  chip : Nat := 0
  flash : Flash := {}
  meas : List (Nat × BitVec 256) := []
  released : List Nat := []
  keyNo : Nat := 0
  openAsids : List Nat := []
  locked : Bool := false
  back : Option BackOp := none
  cap : Nat := 2400
  restraint : Bool := false
  thermal : List (Nat × Nat) := []
  tripped : Bool := false
  resetting : List Nat := []
  rpls : Nat := 0
  rpling : List (Nat × Nat × Nat) := []
  control : Option Event := none
  wrapped : List (List (List (Nat × Nat)) × List (Nat × Nat)) := []
  now : Nat := 0
  timers : List (Nat × Event) := []
  agenda : List Event := []
  out : List OutMsg := []
  images : List (Nat × Core) := []
  who : Nat := 0
  turn : Option Turn := none
  tape : List Nat := []
  fresh : Nat := 0
  deriving DecidableEq, Repr

/-- Why the machine stops. The SV9 itself never does: its faults are next states. -/
inductive Fault where
  /-- Raised by a word's meaning when core `who` holds no activation that could issue it. `step` never asks for
  this; it is safe. -/
  | noActivation
  deriving DecidableEq, Repr

/-- Why an instruction has no meaning here. -/
inductive Refusal where
  /-- Raised by `exec` for an instruction that the model has no meaning for; safe. -/
  | notModelled (mnemonic : String)
  deriving DecidableEq, Repr

/-- Power has just been applied: everything is held in reset, memories list nothing, and the power-on sequence is to
come (R5, R493). -/
def State.reset : State := { agenda := [.powerOn] }

end Sys2Proof.Machine
end

