-- ==== Sys2Proof/Machine/Bits.lean ====
section
/-! DEFINITION. Byte strings and numbers, bit fields, sparse maps, and byte memories in canonical form. -/

namespace Sys2Proof.Machine

open Sys2Proof

/-! ## Bits and bytes -/

/-- Bits `hi` to `lo` of a number. -/
def bits (v hi lo : Nat) : Nat := v / 2 ^ lo % 2 ^ (hi + 1 - lo)

/-- Bit `i` of a number. -/
def bit (v i : Nat) : Bool := v / 2 ^ i % 2 == 1

def ofBool (b : Bool) : Nat := if b then 1 else 0

/-- The two's-complement value of the low `n` bits. -/
def signed (n v : Nat) : Int :=
  let w := v % 2 ^ n
  if w < 2 ^ (n - 1) then (w : Int) else (w : Int) - (2 ^ n : Nat)

/-- The low `n` bits of an integer. -/
def wrap (n : Nat) (v : Int) : Nat := (v % (2 ^ n : Nat)).toNat

/-- A number sign-extended from bit `n - 1` to 64 bits. -/
def sext (n v : Nat) : Word := BitVec.ofInt 64 (signed n v)

/-- Little-endian value of a byte string (R1). -/
def leNat : List Byte → Nat
  | [] => 0
  | b :: r => b.toNat + 256 * leNat r

/-- The low `n` bytes of a number, little-endian (R1). -/
def leBytes : Nat → Nat → List Byte
  | 0, _ => []
  | n + 1, v => BitVec.ofNat 8 v :: leBytes n (v / 256)

/-- Bytes `off` to `off + n - 1` of a string as a number. -/
def field (b : List Byte) (off n : Nat) : Nat := leNat ((b.drop off).take n)

/-- The numbers `lo` to `lo + n - 1`. -/
def upto (lo n : Nat) : List Nat := (List.range n).map (lo + ·)

/-- A byte string of `n` bytes that holds each value at its offset, and zero elsewhere. -/
def layout (n : Nat) (fs : List (Nat × Nat × Nat)) : List Byte :=
  leBytes n (fs.foldl (fun acc f => acc + (f.2.2 % 256 ^ f.2.1) * 256 ^ f.1) 0)

/-- `n` divided by `d`, rounded up. -/
def ceilDiv (n d : Nat) : Nat := (n + d - 1) / d

/-! ## Sparse maps -/

/-- The value at a key, or the default. -/
def mget {α : Type} (m : List (Nat × α)) (k : Nat) (d : α) : α :=
  match m with
  | [] => d
  | (j, v) :: r => if j = k then v else mget r k d

/-- The map with one key set, keys rising. -/
def mset {α : Type} (m : List (Nat × α)) (k : Nat) (v : α) : List (Nat × α) :=
  match m with
  | [] => [(k, v)]
  | (j, w) :: r => if j = k then (k, v) :: r else if k < j then (k, v) :: (j, w) :: r else (j, w) :: mset r k v

/-! ## Byte memories -/

namespace Mem

/-- The byte at an address. -/
def read (m : Mem) (a : Nat) : Byte := mget m a 0

/-- The `n` bytes from an address on. -/
def readN (m : Mem) (a n : Nat) : List Byte := (upto a n).map (read m)

/-- The number in `n` bytes, little-endian. -/
def load (m : Mem) (a n : Nat) : Nat := leNat (readN m a n)

/-- The cells of a byte string at an address, zeros left out. -/
def cells : Nat → List Byte → Mem
  | _, [] => []
  | a, b :: r => if b = 0 then cells (a + 1) r else (a, b) :: cells (a + 1) r

/-- The memory with a byte string written at an address. -/
def write (m : Mem) (a : Nat) (bs : List Byte) : Mem :=
  m.filter (fun c => c.1 < a) ++ cells a bs ++ m.filter (fun c => a + bs.length ≤ c.1)

/-- The low `n` bytes of a number written at an address. -/
def store (m : Mem) (a n v : Nat) : Mem := write m a (leBytes n v)

/-- `n` bytes made zero. -/
def clear (m : Mem) (a n : Nat) : Mem := m.filter (fun c => c.1 < a) ++ m.filter (fun c => a + n ≤ c.1)

/-- The canonical form. -/
def wf : Mem → Bool
  | [] => true
  | [c] => c.2 != 0
  | c :: d :: r => c.2 != 0 && c.1 < d.1 && wf (d :: r)

end Mem

end Sys2Proof.Machine
end

