-- ==== Sys2Proof/Machine/Ops.lean ====
section
/-! DEFINITION. The named operations over the state: reaching a core or unit, names and geometry, sending packets,
results, core storage with its error units, error banks, fault records, freezing and sealing a core (taking an
exception), and clearing a core (the return from it). -/

namespace Sys2Proof.Machine

open Sys2Proof

/-! ## Reaching the units -/

/-- The core at a place. One that is not listed is vacant and has heard every `rpl` (R223, R493). -/
def State.core (s : State) (p : Nat) : Core := mget s.cores p { epoch := s.rpls, cEpoch := s.rpls }

def State.setCore (s : State) (p : Nat) (c : Core) : State := { s with cores := mset s.cores p c }

def State.modCore (s : State) (p : Nat) (f : Core → Core) : State := s.setCore p (f (s.core p))

def State.group (s : State) (g : Nat) : Group := mget s.groups g {}

def State.setGroup (s : State) (g : Nat) (x : Group) : State := { s with groups := mset s.groups g x }

def State.slice (s : State) (h : Nat) : SliceSt := mget s.slices h {}

def State.setSlice (s : State) (h : Nat) (x : SliceSt) : State := { s with slices := mset s.slices h x }

def State.ctl (s : State) (k : Nat) : Ctl := mget s.ctls k {}

def State.setCtl (s : State) (k : Nat) (x : Ctl) : State := { s with ctls := mset s.ctls k x }

def State.sched (s : State) (d : Nat) : Sched := mget s.scheds d {}

def State.setSched (s : State) (d : Nat) (x : Sched) : State := { s with scheds := mset s.scheds d x }

def State.fork (s : State) (u : Nat) : ForkUnit := mget s.forks u {}

def State.setFork (s : State) (u : Nat) (x : ForkUnit) : State := { s with forks := mset s.forks u x }

def State.bank (s : State) (b : Nat) : Bank := mget s.banks b {}

def State.port (s : State) (n : Nat) : Port := mget s.ports n {}

def State.setPort (s : State) (n : Nat) (x : Port) : State := { s with ports := mset s.ports n x }

def State.link (s : State) (n : Nat) : Link := mget s.links n {}

def State.setLink (s : State) (n : Nat) (x : Link) : State := { s with links := mset s.links n x }

/-- Puts a step on the list of those whose unit has been handed its input. -/
def State.post (s : State) (i : Event) : State := { s with agenda := s.agenda ++ [i] }

/-- Something sent to the outside. -/
def State.emit (s : State) (m : OutMsg) : State := { s with out := s.out ++ [m] }

/-- A step that is due after `d` core cycles. -/
def State.after (s : State) (d : Nat) (i : Event) : State := { s with timers := s.timers ++ [(s.now + d, i)] }

/-- Core cycles of a microsecond (R3). -/
def us : Nat := 3300

/-- Core cycles of a fabric cycle (Table 01.2). -/
def fabricCycle : Nat := 2

/-- The next free value index. -/
def State.takeFresh (s : State) : Nat × State := (s.fresh, { s with fresh := s.fresh + 1 })

/-! ## Names and geometry (R7 to R9, R19 to R22) -/

def chipOf (p : Nat) : Nat := p / 4096

def dieOf (p : Nat) : Nat := p / 1024 % 4

/-- The cluster of a place among the 16 of the package. -/
def clusOf (p : Nat) : Nat := p / 256 % 16

def coreOf (p : Nat) : Nat := p % 256

/-- Whether a place names a core of this package (R19). -/
def State.isCore (s : State) (p : Nat) : Bool := chipOf p == s.chip && coreOf p < 192 && p < 2 ^ 20

/-- The place of core `n` of cluster `u` of the package. -/
def State.placeOf (s : State) (u n : Nat) : Nat := s.chip * 4096 + u * 256 + n

def rowOf (p : Nat) : Nat := coreOf p / 16

def colOf (p : Nat) : Nat := coreOf p % 16

/-- The matrix group of a core among the 384 of the package, and its index in the group (R8). -/
def groupOf (p : Nat) : Nat := clusOf p * 24 + 4 * (rowOf p / 2) + colOf p / 4

def inGroup (p : Nat) : Nat := 4 * (rowOf p % 2) + colOf p % 4

/-- The cores of a group. -/
def State.groupCores (s : State) (g : Nat) : List Nat :=
  let u := g / 24
  let k := g % 24
  (List.range 8).map (fun i => s.placeOf u (16 * (2 * (k / 4) + i / 4) + 4 * (k % 4) + i % 4))

/-- A die scheduler's name (R469), and the directory's, whose low bits are all ones. -/
def State.schedName (s : State) (d : Nat) : Nat := s.chip * 4096 + d * 1024

def State.dirName (s : State) : Nat := s.chip * 4096 + 0x3FF

/-- A slice's name: its index, with its chip above (Table 01.5). -/
def State.sliceName (s : State) (h : Nat) : Nat := s.chip * 4096 + h

/-- A controller's name (R21). -/
def State.ctlName (s : State) (k : Nat) : Nat := s.chip * 8 + k

/-- Service core of a cluster and supervisor core of a die (R41). -/
def State.svcCore (s : State) (u : Nat) : Nat := mget s.flash.svcCores u (s.placeOf u 0)

def State.supCore (s : State) (d : Nat) : Nat := mget s.flash.supCores d (s.svcCore (4 * d))

/-- The home slice of a global location (R201). -/
def homeSlice (asid va : Nat) : Nat :=
  let v := bits va 51 16
  let x := (v % 128) ^^^ (v / 128 % 128) ^^^ (v / 16384 % 128) ^^^ (v / 2097152 % 128) ^^^
    (v / 268435456 % 128) ^^^ (v / 34359738368 % 2)
  x ^^^ (asid % 128) ^^^ (asid / 128 % 64)

/-- The node at which a named unit attaches: dies 0 to 3, the Autumn die 4. A name on another chip is reached through
the Autumn die. Kinds are those of `dkind` (Table 01.5). -/
def State.nodeOf (s : State) (kind name : Nat) : Nat :=
  match kind with
  | 0 => if chipOf name = s.chip then dieOf name else 4
  | 1 => if name / 8 = s.chip then name % 8 / 2 else 4
  | 2 => if chipOf name = s.chip then name % 128 / 32 else 4
  | _ => if chipOf name = s.chip ∧ name % 1024 ≠ 0x3FF then dieOf name else 4

/-! ## Packets (R23, Tables 01.5, 01.6) -/

/-- The class of what a packet carries. -/
def msgCls : Msg → Nat
  | .access _ r =>
    match r.op with
    | .amo _ => 2
    | .cas => 2
    | _ => if r.copy.isSome then 4 else 0
  | .reply _ => 1
  | .chan _ => 6
  | .post _ => 7
  | .postAns .. => 7
  | .copyUnit _ => 3
  | .getReq _ => 4
  | .getData _ => 5
  | .xlReply _ => 5
  | .copyRefusal _ => 15
  | .copyRetry _ => 14
  | .putAck .. => 5
  | .echo .. => 3
  | .capsule _ => 8
  | .capRetry _ => 14
  | .capRefused _ => 15
  | .region _ => 9
  | .regAck .. => 1
  | .report .. => 10
  | .action .. => 9
  | .genAdv .. => 9
  | .actionAns .. => 1
  | .handoff .. => 11
  | .dispatch .. => 11
  | .dispatchAns .. => 11
  | .finished .. => 11
  | .tableQuery .. => 11
  | .tableAns .. => 11
  | .steal .. => 11
  | .gang .. => 11
  | .launched .. => 11
  | .child .. => 11
  | .sched .. => 11
  | .schedAns .. => 11
  | .service m => if m.kind = 1 then 12 else if m.kind = 2 then 13 else 11
  | .hash .. => 16
  | .refusal _ => 15
  | .schedReserved _ => 11

/-- The virtual network of a class (R23). DESIGN CHOICE: the spec gives no class its network; connection and post answers and
scheduler answers (classes 6, 7 and 11) travel on the request network here. -/
def vnetOf (cls : Nat) : Nat :=
  if cls = 8 then 2 else if cls = 1 ∨ cls = 5 ∨ cls = 14 ∨ cls = 15 then 1 else 0

/-- The length in flits (R23, R272, R407). -/
def msgFlits : Msg → Nat
  | .chan m => 1 + ceilDiv m.payload.length 64
  | .post m => 1 + ceilDiv m.payload.length 64
  | .copyUnit _ => 2
  | .getData _ => 2
  | .capsule c => 2 + ceilDiv c.payload.length 64
  | .service _ => 2
  | .sched .. => 2
  | .dispatch .. => 2
  | .handoff .. => 2
  | .steal _ _ (.record _) => 2
  | _ => 1

/-- The router at a row and column of a die's mesh of 24 rows and 32 columns, among the nodes of the fabric (R9). -/
def meshNode (die row col : Nat) : Nat := 16 + die * 768 + row * 32 + col

/-- The row and column of one of the 108 edge routers of a die's mesh. -/
def edgePos (e : Nat) : Nat × Nat :=
  if e < 32 then (0, e) else if e < 64 then (23, e - 32) else if e < 86 then (e - 63, 0) else (e - 85, 31)

/-- The router at a position along one of a die's four edges: north, south, west, east. -/
def alongEdge (e n : Nat) : Nat × Nat :=
  match e with
  | 0 => (0, n % 32)
  | 1 => (23, n % 32)
  | 2 => (n % 24, 0)
  | _ => (n % 24, 31)

/-- The edge router of a die at which a unit attaches. A die's slices stand 8 to an edge, the first 8 at the north edge; where along
its edge a slice stands, and where the other units attach, is free. -/
def edgeNode (die kind name : Nat) : Nat :=
  let n := Config.edge kind name
  let x := if kind = 2 then alongEdge (name % 32 / 8) n else edgePos (n % 108)
  meshNode die x.1 x.2

/-- The node at which a named unit attaches: a core's own router, an edge router of the unit's die, or the Autumn die for the
directory and for what lies on another chip. -/
def State.attach (s : State) (kind name : Nat) : Nat :=
  let d := s.nodeOf kind name
  if d = 4 then 4
  else if kind = 0 then meshNode d (12 * (clusOf name % 4 / 2) + rowOf name) (16 * (clusOf name % 2) + colOf name)
  else edgeNode d kind name

/-- A packet enters the fabric at its source's router. -/
def State.inject (s : State) (k : Pkt) : State :=
  { s with net := s.net ++ [{ pkt := k, node := s.attach k.skind k.src, inp := 0, since := s.now }] }

/-- The engine of a core that sends what a packet carries, where a pair compares it: every packet that writes or sends
(R449). What a router answers is not compared. -/
def comparedEngine (src : Nat) : Msg → Option Nat
  | .access _ r => match r.op with | .commit | .amo _ | .cas => some 1 | _ => none
  | .region _ => some 1
  | .chan m => if m.bia = 1 ∧ m.sub ≠ .request then none else some 2
  | .post _ => some 2
  | .copyUnit u => if u.place = src then some 3 else none
  | .capsule c => if c.sender = src then some 7 else none
  | .sched .. => some 8
  | .finished .. => some 8
  | _ => none

/-- What a packet carries, its sender set to zero (R449). -/
def unsigned : Msg → Msg
  | .access h r => .access h { r with place := 0 }
  | .region c => .region { c with place := 0 }
  | .chan m => .chan { m with src := 0, skind := 0 }
  | .post m => .post { m with src := 0 }
  | .copyUnit u => .copyUnit { u with place := 0 }
  | .capsule c => .capsule { c with sender := 0 }
  | .sched _ act tag seq e r => .sched 0 act tag seq e r
  | m => m

/-! ## Packets as bytes (Tables 01.5, 07.16, 12.6, R434) -/

/-- The 64 bytes of a capsule header (Table 12.2). -/
def hdrBytes (h : CapHdr) : List Byte :=
  layout 64 ([(0, 2, h.cid), (2, 2, h.asid),
    (4, 4, h.nst * 2 ^ 28 + h.cur * 2 ^ 24 + h.fcode * 2 ^ 16 + h.st * 2 ^ 12 + h.len), (8, 4, h.rtn), (12, 4, h.flt)] ++
    (h.steps.zipIdx.map (fun x => (16 + 4 * x.2, 4, x.1))))

/-- The `sub` of a channel message (Table 07.16). DESIGN CHOICE: the table lists no code for the new holder's name; it travels as the new
name of a redirect. -/
def chanCode : ChanSub → Nat
  | .request => 0 | .answer => 1 | .data => 2 | .label => 3 | .endp => 4 | .close => 5 | .redirect => 6 | .adopterName => 6
  | .redirectAck => 7 | .stubEnd => 8 | .forwarded _ => 9 | .errorNotice => 10 | .reserved n => n

/-- Bytes 16 to 63 of the header flit of a channel message (Table 07.16). DESIGN CHOICE: the table has no place for a request's
selector, which stands where a core's endpoint would, nor for a close's `conf`, which stands in `mt`. -/
def chanHead (m : ChanMsg) : List Byte :=
  layout 48 [(0, 1, chanCode m.sub), (1, 1, m.sep * 16 + (if m.dkind = 1 then m.bia else m.dep)), (2, 1, m.ty + ofBool m.conf)
    , (3, 1, match m.sub with | .forwarded o => o * 16 | _ => m.code), (4, 2, m.payload.length), (6, 2, m.seq), (8, 8, m.key)]

/-- Bytes 16 to 63 of the header flit of a post, and of its answer (Table 07.16). -/
def postHead (m : PostMsg) : List Byte := layout 48 [(1, 1, m.dep), (2, 1, m.ty), (4, 2, m.payload.length)]

def postAnsHead (code ep : Nat) : List Byte := layout 48 [(0, 1, 1), (1, 1, ep * 16), (3, 1, code)]

/-- The sub kind of a scheduler message (R434). -/
def schedSub : Msg → Nat
  | .dispatch .. => 0 | .dispatchAns .. => 1 | .finished .. => 1 | .child .. => 2 | .tableQuery .. => 3 | .tableAns .. => 3
  | .steal .. => 4 | .gang .. => 5 | .handoff .. => 6 | .launched .. => 6 | .sched .. => 7 | .schedAns .. => 7 | .service _ => 16 | .schedReserved n => n | _ => 8

/-- A payload in whole flits. -/
def inFlits (l : List Byte) : List Byte := l ++ List.replicate (64 * ceilDiv l.length 64 - l.length) 0

/-- The bytes of a packet after the common header: as the spec lays them out for channel messages, posts and capsules; those of other
classes are a free value. -/
def bodyBytes (m : Msg) : List Byte :=
  match m with
  | .chan m => chanHead m ++ inFlits m.payload
  | .post m => postHead m ++ inFlits m.payload
  | .postAns _ _ _ _ code ep => postAnsHead code ep
  | .capsule c => layout 48 [(0, 1, c.sub), (1, 1, min 255 c.rtry)] ++ hdrBytes c.hdr ++ inFlits c.payload
  | _ => (if msgCls m = 11 then leBytes 1 (schedSub m) else []) ++ Config.msgBytes m

/-- The bytes of a packet: the common header (Table 01.5) and what follows. -/
def pktBytes (k : Pkt) : List Byte :=
  leBytes 16 (k.dst * 2 ^ 108 + k.dkind * 2 ^ 106 + k.src * 2 ^ 86 + k.skind * 2 ^ 84 + k.age * 2 ^ 72 + k.len * 2 ^ 65 +
    k.vnet * 2 ^ 63 + k.cls * 2 ^ 58 + k.asid * 2 ^ 45) ++ bodyBytes k.msg

/-- One byte of a CRC-64 under the ECMA-182 polynomial (R449). -/
def crcByte (c : BitVec 64) (b : Byte) : BitVec 64 :=
  (List.range 8).foldl (fun c _ => if c.msb then (c <<< 1) ^^^ 0x42F0E1EBA9EA3693 else c <<< 1) (c ^^^ (b.zeroExtend 64 <<< 56))

def crc64 (l : List Byte) : BitVec 64 := l.foldl crcByte 0

/-- The hash of a packet of a pair: over the whole packet with `src`, `skind` and `age` zero (R449). -/
def pktHash (k : Pkt) : BitVec 64 := crc64 (pktBytes { k with src := 0, skind := 0, age := 0, msg := unsigned k.msg })

/-- A compared packet of a pair gets its number. The primary's is held until the shadow's hash has come; the shadow sends
only the hash (R449). -/
def State.pairSend (s : State) (p : Nat) (x : Pair) (e : Nat) (k : Pkt) : State :=
  let c := s.core p
  let n := mget x.count e 0
  let x := { x with count := mset x.count e (n + 1) }
  if x.primary then
    let y : Pair := { x with mine := x.mine ++ [{ engine := e, num := n, hash := pktHash k, pkt := some k }] }
    match x.theirs.find? (fun t => t.engine == e && t.num == n) with
    | some t =>
      let z : Pair := { y with theirs := x.theirs.filter (· != t) }
      (s.setCore p { c with pair := some z }).post (.pairedHashArrival p e n t.hash)
    | none => (s.setCore p { c with pair := some y }).after (65536 * fabricCycle) (.pairedHashTimeout p e n)
  else
    (s.setCore p { c with pair := some x }).inject
      { id := k.id, dst := x.other, dkind := 0, src := p, skind := 0, vnet := 0, cls := 16, asid := k.asid
        msg := .hash x.other e n (pktHash k) }

/-- Injects a packet at its source's router with age 0 (R25), or compares it first where its core is one of a pair. -/
def State.send (s : State) (src skind dst dkind asid : Nat) (m : Msg) : State :=
  let k : Pkt := { id := s.pktNo, dst := dst, dkind := dkind, src := src, skind := skind, len := msgFlits m,
                   vnet := vnetOf (msgCls m), cls := msgCls m, asid := asid, msg := m }
  let s := { s with pktNo := s.pktNo + 1 }
  match (if skind = 0 then (s.core src).pair else none), comparedEngine src m with
  | some x, some e => s.pairSend src x e k
  | _, _ => s.inject k

/-- Sends a packet that has been sent before, and compared then. -/
def State.resend (s : State) (src skind dst dkind asid : Nat) (m : Msg) : State :=
  ({ s with pktNo := s.pktNo + 1 }).inject
    { id := s.pktNo, dst := dst, dkind := dkind, src := src, skind := skind, len := msgFlits m, vnet := vnetOf (msgCls m)
      cls := msgCls m, asid := asid, msg := m }

/-- A refusal reply (R24): whatever it tells its receiver, it is of class 15 and one flit long. -/
def State.sendRefusal (s : State) (src skind dst dkind asid : Nat) (m : Msg) : State :=
  ({ s with pktNo := s.pktNo + 1 }).inject
    { id := s.pktNo, dst := dst, dkind := dkind, src := src, skind := skind, len := 1, vnet := 1, cls := 15, asid := asid, msg := m }

/-- The shadow of a pair's primary. -/
def State.shadowOf (s : State) (p : Nat) : Option Nat :=
  (s.core p).pair.bind (fun x => if x.primary then some x.other else none)

/-- What is done for the core at a place is done for its shadow also, to which performed points are delivered (R449). A place
on another chip is no core of this machine. -/
def State.onBoth (s : State) (p : Nat) (f : State → Nat → State) : State :=
  if !s.isCore p then s
  else
    match s.shadowOf p with
    | some q => f (f s p) q
    | none => f s p

/-- A change of the core at a place, and of its shadow. -/
def State.modBoth (s : State) (p : Nat) (f : Core → Core) : State := s.onBoth p (fun s p => s.modCore p f)

/-- From a core to a core. -/
def State.toCore (s : State) (src dst asid : Nat) (m : Msg) : State := s.send src 0 dst 0 asid m

/-! ## Results of instructions (R157, R159) -/

/-- A slot that waits for a tag receives its value. -/
def Slot.fill (tag : Nat) (v : Word) (x : Slot) : Slot :=
  if x.val.isNone ∧ x.tag = tag then { x with val := some v, ext := false } else x

def RegCell.fill (tag : Nat) (v : Word) (x : RegCell) : RegCell :=
  match x.pend with
  | some (t, _) => if t = tag then { val := v } else x
  | none => x

def StreamSt.fill (tag : Nat) (v : Word) (x : StreamSt) : StreamSt :=
  { x with
    regs := x.regs.map (RegCell.fill tag v)
    hold := match x.hold with
      | some (t, e) => if t = tag then none else some (t, e)
      | none => none
    due := x.due.filter (· != tag) }

/-- The register, queue slot or held stream that waits for a tag is served. -/
def Act.fill (a : Act) (tag : Nat) (v : Word) : Act :=
  { a with a := a.a.fill tag v, e := a.e.fill tag v, lq := a.lq.map (Slot.fill tag v), sq := a.sq.map (Slot.fill tag v),
           fq := a.fq.map (Slot.fill tag v), rq := a.rq.map (Slot.fill tag v) }

/-- A result reaches the activation that waits for it, in the core or parked; one that has ended discards it
(R153). -/
def Core.deliver (c : Core) (act tag : Nat) (v : Word) : Core :=
  if tag = 0 then c
  else
    { c with
      act := c.act.map (fun a => if a.id = act then a.fill tag v else a)
      ctxs := c.ctxs.map (fun x => if x.act.id = act then { x with act := x.act.fill tag v } else x) }

def State.deliver (s : State) (p act tag : Nat) (v : Word) : State := s.modCore p (fun c => c.deliver act tag v)

/-! ## Core storage (R10, R503) -/

/-- Banks of the scratchpad and rows of a bank (R12). -/
def spBanks : Nat := 384

def spRows : Nat := 64

/-- The bank and the row of the 4-byte scratchpad word that holds a byte address (R12). -/
def spBank (a : Nat) : Nat := a / 4 % spBanks

def spRow (a : Nat) : Nat := a / 4 / spBanks

/-- The bytes of a space (R10); those of SP are the words of its banks and rows (R12). -/
def lsSize : Ls → Nat
  | .sp => 4 * (spBanks * spRows)
  | .ab => 0x10000
  | .cb => 0x8000
  | .wb => 0x800000
  | .code => 0x8000

def Core.mem (c : Core) : Ls → Mem
  | .sp => c.sp
  | .ab => c.ab
  | .cb => c.cb
  | .code => c.code
  | .wb => []

def Core.setMem (c : Core) (l : Ls) (m : Mem) : Core :=
  match l with
  | .sp => { c with sp := m }
  | .ab => { c with ab := m }
  | .cb => { c with cb := m }
  | .code => { c with code := m }
  | .wb => c

/-- Whether `n` bytes from `a` touch a 64-byte unit in error. -/
def badIn (bad : List Nat) (a n : Nat) : Bool := n != 0 && bad.any (fun u => a / 64 ≤ u && u ≤ (a + n - 1) / 64)

/-- The first address of `n` bytes from `a` that lies in a unit in error. -/
def firstBadAddr (bad : List Nat) (a n : Nat) : Nat :=
  ((List.range (n / 64 + 2)).find? (fun k => bad.contains (a / 64 + k))).elim a (fun k => max a (64 * (a / 64 + k)))

/-- A write of `n` bytes from `a` clears the error of every unit that it covers whole. -/
def mendBad (bad : List Nat) (a n : Nat) : List Nat := bad.filter (fun u => !(a ≤ u * 64 && u * 64 + 64 ≤ a + n))

def Core.badUnits (c : Core) (l : Ls) : List Nat := (c.bad.filter (fun x => x.1 = l.num)).map (·.2)

def Core.isBad (c : Core) (l : Ls) (a n : Nat) : Bool := badIn (c.badUnits l) a n

/-- The address at which a read of `n` bytes meets an error. -/
def Core.badAddr (c : Core) (l : Ls) (a n : Nat) : Nat := firstBadAddr (c.badUnits l) a n

/-- One access has written all of some units: they are no longer in error (R503). -/
def Core.mend (c : Core) (l : Ls) (a n : Nat) : Core :=
  { c with bad := c.bad.filter (fun x => !(x.1 = l.num && a ≤ x.2 * 64 && x.2 * 64 + 64 ≤ a + n)) }

/-- One access writes bytes into a core's storage. -/
def Core.put (c : Core) (l : Ls) (a : Nat) (bs : List Byte) : Core :=
  { c.setMem l ((c.mem l).write a bs) with
    bad := c.bad.filter (fun x => !(x.1 = l.num && a ≤ x.2 * 64 && x.2 * 64 + 64 ≤ a + bs.length)) }

/-! ## Pieces of wide accesses (R102) -/

/-- The pieces of `n` bytes at an address that lie in one aligned span of `g` bytes each: the single-copy atomic units of Table
03.6, as offsets and lengths. -/
def pieces (a n g : Nat) : List (Nat × Nat) :=
  if n = 0 then []
  else (upto (a / g) ((a + n - 1) / g - a / g + 1)).map (fun b => (max a (g * b) - a, min (a + n) (g * b + g) - max a (g * b)))

/-- The piece that is written or read next, in no promised order (R102), and those that then remain. -/
def State.nextPiece (s : State) (l : List (Nat × Nat)) : State × (Nat × Nat) × List (Nat × Nat) :=
  if l.length ≤ 1 then (s, l.headD (0, 0), [])
  else
    let (n, s) := s.takeFresh
    let x := l.getD (Config.choice n % l.length) (0, 0)
    (s, x, l.erase x)

/-- The bytes at addresses, of those that have been read. -/
def gathered (l : List Host.Cell) (a n : Nat) : List Byte := (upto a n).map (fun i => ((l.find? (fun x => x.1 == i)).map (·.2)).getD 0)

/-! ## Error banks (R492, R498) -/

/-- An error is applied to its bank as one step; an uncorrectable one that is recorded raises a Munte alert, which
names apart a record that found no receiver (R35). -/
def State.applyError (s : State) (e : ErrorEv) (cause : Nat := 1) : State :=
  let b := s.bank e.bank
  let b' : Bank :=
    if e.uncorrectable then
      if b.uc then { b with ovf := true, ovfc := min 65535 (b.ovfc + 1) }
      else { b with rcd := some e.rcd, uc := true, v := true }
    else
      let b := { b with cec := min (2 ^ 32 - 1) (b.cec + 1) }
      if b.uc then b else { b with rcd := some e.rcd, v := true }
  let s := { s with banks := mset s.banks e.bank b' }
  if e.uncorrectable && !b.uc then s.emit (.alert cause) else s

/-- Whose access found an error: the activation's entry, program counter, work identifier and sequence number. -/
structure Finder where
  ent : Nat := 31
  pc : Nat := 0
  wid : Nat := 0
  cseq : Nat := 0

def Cmd.finder (x : Cmd) : Finder := { ent := x.ent, pc := x.pc, wid := x.wid.toNat, cseq := x.seq }

/-- The record of an error found in storage, the fabric or a link (Table 14.11). -/
def bankRecord (engine place asid va : Nat) (what addr : Nat) (f : Finder := {}) : FaultRec :=
  { kind := if what = 2 then 0 else 0x0F, engine := engine, place := place, asid := asid, entry := f.ent, pc := f.pc
    wid := f.wid, cseq := f.cseq, va := va, detail := (layout 64 [(36, 1, what), (40, 8, addr)]).drop 36 }

/-- The next serial of a source (R31). -/
def State.nextSerial (s : State) (skind name : Nat) : Nat × State :=
  if skind = 0 then
    let c := s.core name
    let n := (c.serial + 1) % 2 ^ 32
    (n, s.setCore name { c with serial := n })
  else
    let k := skind * 2 ^ 20 + name
    let n := (mget s.serials k 0 + 1) % 2 ^ 32
    (n, { s with serials := mset s.serials k n })

/-- An error that a unit has found is applied to its bank (R502). Its record carries a count of the bank's own, by which a reader sees
that the record has changed (R498). -/
def State.foundError (s : State) (e : ErrorEv) : State :=
  let (n, s) := s.nextSerial 5 e.bank
  s.applyError { e with rcd := { e.rcd with serial := n } }

/-- A fabric error in the error bank of a die or of the Autumn die (R24, R273). -/
def State.fabricError (s : State) (node : Nat) : State :=
  s.foundError { bank := if node < 4 then 16 * node + 4 else 64, uncorrectable := false,
                 rcd := bankRecord 9 (s.chip * 4096) 0 0 2 0 }

/-! ## Fault records (R31 to R36) -/

/-- The bytes 36 to 63 of a record that holds each value at its offset from the record's start. -/
def detail (fs : List (Nat × Nat × Nat)) : List Byte := (layout 64 fs).drop 36

/-- The 64 bytes of a record (Table 01.8). -/
def recBytes (r : FaultRec) : List Byte :=
  layout 36 [(0, 1, r.kind),
    (1, 1, r.engine * 16 + ofBool r.notice * 8 + ofBool r.frozen * 4 + ofBool r.sealed * 2 + ofBool r.reply),
    (2, 3, r.place), (5, 2, r.asid), (7, 1, r.entry * 8 + ofBool r.priv * 2 + r.stream), (8, 4, r.pc),
    (12, 4, r.serial), (16, 8, r.va % 2 ^ 52), (24, 8, r.wid), (32, 4, r.cseq)] ++
  (r.detail ++ List.replicate 28 0).take 28

/-- The cluster whose service core takes the records of a source (R33). -/
def State.svcCluster (s : State) (skind name : Nat) : Nat :=
  if skind = 0 then clusOf name else
    let n := s.nodeOf skind name
    if n < 4 then 4 * n else 0

/-- The key of a record's source: its kind and name; host ports have a kind of their own. -/
def sourceKey (r : FaultRec) : Nat := (if r.engine = 10 then 4 else r.skind) * 2 ^ 20 + r.place

/-- Whether a record of the same source is on its way: a source sends its records one by one (R33, R34). -/
def State.recordsOut (s : State) (r : FaultRec) : Bool :=
  if r.skind = 0 then !(s.core r.place).recs.isEmpty else s.recFly.any (fun x => x.1 == sourceKey r)

/-- The packets of a containment notice: to the supervisor core of the source's die (R36). -/
def State.emitNotice (s : State) (r : FaultRec) : State :=
  let r := { r with notice := true }
  let sup := s.supCore (s.svcCluster r.skind r.place / 4)
  s.send r.place r.skind sup 0 0 (.service { kind := 2, src := r.place, dst := sup, hop := 1, rcd := some r, bytes := recBytes r })

/-- The packets of a record: to the service core, and after it a containment notice to the supervisor core (R33, R36). -/
def State.emitRecord (s : State) (r : FaultRec) (notice : Bool) : State :=
  let dst := s.svcCore (s.svcCluster r.skind r.place)
  let s := s.send r.place r.skind dst 0 0 (.service { kind := 1, src := r.place, dst := dst, rcd := some r, bytes := recBytes r })
  if notice then s.emitNotice r else s

/-- A record is raised. It gets its source's next serial, and leaves at once unless an earlier record of the source has not been
accepted: then it waits in the source's router, and its engine with it (R31, R33, R34). -/
def State.sendRecord (s : State) (r : FaultRec) (notice : Bool := false) : State :=
  let (n, s) := s.nextSerial (if r.engine = 10 then 4 else r.skind) r.place
  let r := { r with serial := n }
  let busy := s.recordsOut r
  let s := if r.skind = 0 then s.modCore r.place (fun c => { c with recs := c.recs ++ [(r.engine, n)] })
    else { s with recFly := s.recFly ++ [(sourceKey r, r.engine, n)] }
  if busy then { s with recWait := s.recWait ++ [(r, notice)] } else s.emitRecord r notice

/-- A record has been accepted: its engine may go on, and the source's next record leaves (R34). -/
def State.recordTaken (s : State) (r : FaultRec) : State :=
  let s := if r.skind = 0 then s.modCore r.place (fun c => { c with recs := c.recs.filter (fun e => e ≠ (r.engine, r.serial)) })
    else { s with recFly := s.recFly.filter (fun x => x ≠ (sourceKey r, r.engine, r.serial)) }
  match s.recWait.find? (fun x => sourceKey x.1 == sourceKey r) with
  | some x => ({ s with recWait := s.recWait.erase x }).emitRecord x.1 x.2
  | none => s

/-! ## Inputs of a unit -/

/-- The unit at which an input arrives: a core, slice, controller, scheduler, fork unit, link or port, the directory for control
messages (R477), or the Winter die and the directory. The inputs of one unit are taken in the order of their arrival. A unit of a copy that has begun to be written or read is no longer
an input of its far side: its pieces come between whatever that does (R102). -/
def inputOf (e : Event) : Nat × Nat :=
  match e with
  | .entryMark p _ | .dispatchArrival p .. | .syncWordRaise p .. | .capsuleArrival p _ | .putAckArrival p .. | .echoRaise p ..
  | .windowCounterRetry p .. | .egressQueueAcceptanceReport p .. | .regionCommandAcknowledgement p .. | .taskTableQuery p ..
  | .postAnswerArrival p .. | .generationAdvance p .. | .pairedHashArrival p .. | .pairedInputCopy p _
  | .continuationResend p _ => (0, p)
  | .coreRouterAnswer k => (0, k.dst)
  | .connectionRequestArrival m | .connectionAnswerArrival m | .channelMessageArrival m | .closeNoticeArrival m
  | .errorNoticeArrival m | .endpointMessageArrival m | .adopterNameArrival m | .redirectArrival m | .redirectAckArrival m
  | .forwardedMessageArrival m | .stubEndArrival m => (0, m.dst)
  | .postArrival m => (0, m.dst)
  | .globalReply r | .storeAck r | .pageFaultReply r => (0, r.req.place)
  | .sliceAccess h _ => (2, h)
  | .copyUnitArrival u | .windowPutCheck u =>
    if u.todo.isSome then (8, u.place)
    else
      match u.dst with
      | .core p _ => (0, p)
      | .glob va => (2, homeSlice u.asid va)
      | _ => (0, u.place)
  | .copyGetDataArrival d => (8, d.req.place)
  | .copyRefusalArrival r => (8, r.place)
  | .copySegmentTranslation r => (8, r.place)
  | .copyGetRequestArrival g =>
    if g.todo.isSome then (8, g.place)
    else
      match g.src with
      | .core p _ => (0, p)
      | .glob va => (2, homeSlice g.asid va)
      | _ => (0, g.place)
  | .countReport k .. | .arrivalReport k .. | .actionAttemptAnswer k .. | .controllerConversation k _ | .actionRetry k _ => (1, k)
  | .taskLaunchHandoff d .. | .dispatchAnswerArrival d .. | .taskFinishedArrival d _ | .codeImageLoadDone d ..
  | .stealRequestArrival d .. | .stolenRecordArrival d .. | .stealAckArrival d .. | .confirmationArrival d ..
  | .revocationArrival d .. | .takenArrival d .. | .lentQueryArrival d .. | .heldAnswerArrival d .. | .unknownAnswerArrival d ..
  | .heldQueryArrival d .. => (3, d)
  | .childDoneCount u .. | .childFailure u .. => (4, u)
  | .linkFrameReceive n _ | .replayRequestReceive n _ => (5, n)
  | .ethernetFrameReceive n .. | .cmConnection n .. | .rdmaWriteWithImmediate ⟨n, _, _, _, _, _⟩ _ _ | .rdmaWrite ⟨n, _, _, _, _, _⟩ _
  | .rdmaRead ⟨n, _, _, _, _, _⟩ _ | .controlSend n .. | .ecnMarkedPacket n _ | .cnpReceive n _ => (6, n)
  | .launch .. | .topen .. | .tclose .. | .tset .. | .qres .. | .supv .. | .svcClusterReset .. | .svcLinkRetrain .. | .svcPortRetrain ..
  | .ebank .. | .ckpt .. | .crest .. | .lock .. | .controlMalformed .. => (9, 0)
  | .deliver k => if k.dkind = 2 then (2, k.dst % 128) else if k.dkind = 1 then (1, k.dst % 8) else if k.dst % 1024 = 0x3FF then (7, 0) else (3, dieOf k.dst)
  | _ => (7, 0)

/-- Steps that have yet to write the storage of a core: raises, and pieces of units. -/
def writesCore (p : Nat) : Event → Bool
  | .syncWordRaise q .. => q == p
  | .copyUnitArrival u => u.todo.isSome && (match u.dst with | .core q _ => q == p | _ => false)
  | .copyGetDataArrival d => d.req.place == p
  | _ => false

/-- What was still to be written into a core's storage is not (R319, R461). -/
def State.dropWrites (s : State) (p : Nat) : State := { s with agenda := s.agenda.filter (fun e => !writesCore p e) }

/-- A tile of a core that is sealed stops and writes nothing: the array goes to the next (R396). -/
def State.dropJob (s : State) (p : Nat) : State :=
  { s with groups := s.groups.map (fun g =>
      match g.2.job with
      | some j => if j.place = p then (g.1, { g.2 with job := none }) else g
      | none => g) }

/-! ## Parts of stopping a core -/

/-- An empty message of a kind. -/
def chanMsg (sub : ChanSub) : ChanMsg := { sub := sub, src := 0, sep := 0, dst := 0, dep := 0, asid := 0 }

/-- A packet of a connected endpoint to its peer, with the next sequence number (R272, R273). -/
def State.chanSend (s : State) (p : Nat) (k : Fin 16) (m : ChanMsg) : State :=
  let c := s.core p
  let e := c.eps[k]
  let m := { m with src := p, sep := k.val, dst := e.peer, dkind := e.pkind, dep := e.pep, asid := c.asid, seq := e.sseq
                    bia := if e.prev = .adopting then 2 else 0, cno := e.cno, conn := e.conn }
  (s.setCore p { c with eps := c.eps.set k { e with sseq := (e.sseq + 1) % 65536 } }).send p 0 e.peer e.pkind c.asid
    (.chan m)

/-- A notice to an endpoint's peer: close with a code, or an error notice. -/
def closeMsg (sub : ChanSub) (code : Nat) (conf : Bool) : ChanMsg :=
  { sub := sub, src := 0, sep := 0, dst := 0, dep := 0, asid := 0, code := code, conf := conf }

/-- Whether a core is the shadow of a pair. -/
def Core.isShadow (c : Core) : Bool :=
  match c.pair with
  | some x => !x.primary
  | none => false

/-- The endpoints of a core in any of some lives. -/
def Core.epsIn (c : Core) (ls : List EpLife) : List (Fin 16) :=
  (List.finRange 16).filter (fun k => ls.contains c.eps[k].life)

/-- The router of a core that is sealed tells the peers of its endpoints, and the holder of one that it forwards to; what a router sends
has no number of the channel's (R266, R282). A pair acts under its primary's place (R450). -/
def State.sealNotices (s : State) (p : Nat) : State :=
  let c := s.core p
  if c.isShadow then s
  else
    (c.epsIn [.connecting, .connected, .moving, .adopting]).foldl (fun (s : State) (k : Fin 16) =>
      let e := c.eps[k]
      let m : ChanMsg := { closeMsg .errorNotice 18 false with src := p, sep := k.val, asid := c.asid, bia := 1, conn := e.conn }
      let s := s.send p 0 e.peer e.pkind c.asid (.chan { m with dst := e.peer, dkind := e.pkind, dep := e.pep })
      match e.life, e.fwd with
      | .moving, some (q, n) => s.toCore p q c.asid (.chan { m with dst := q, dep := n })
      | _, _ => s) s

/-- The SP address of a landing slot (R399). -/
def slotBase (k : Nat) : Nat := 0x16000 + 0x1000 * k

/-- The entry that a capsule's step names: `step[cur]`, `rtn` or `flt` by its status (R408). -/
def capTarget (h : CapHdr) : Nat :=
  if h.st = 5 ∨ h.st = 6 then h.flt else if h.st = 3 ∨ h.st = 4 then h.rtn else h.steps.getD h.cur 0

/-- The entry of the step, or of the return or fault place, that a capsule is bound for; 31 where its cursor names no step (R426). -/
def capStepEntry (h : CapHdr) : Nat :=
  if h.st < 3 ∧ h.nst ≤ h.cur then 31 else bits (capTarget h) 11 7

/-- A record of the capsule router (R426, Tables 12.12, 12.13). -/
def capRecord (p : Nat) (h : CapHdr) (cls cause slot : Nat) : FaultRec :=
  { kind := 0x0D, engine := 7, place := p, asid := h.asid, entry := capStepEntry h, wid := h.cid,
    detail := detail [(36, 1, cause), (37, 1, cls), (38, 1, h.st), (39, 1, h.cur + 16 * slot),
      (40, 8, field (hdrBytes h) 0 8), (48, 8, field (hdrBytes h) 8 8),
      (56, 4, if h.cur < h.nst then h.steps.getD h.cur 0 else 0), (60, 1, 15)] }

/-- The payload of the capsule in a slot; a unit in error travels as a poisoned block (R418). -/
def Core.slotPayload (c : Core) (k len : Nat) : List Byte :=
  (List.range (ceilDiv len 64)).flatMap (fun u =>
    let a := slotBase k + 64 + 64 * u
    let n := min 64 (len - 64 * u)
    if c.isBad .sp a n then (0xF0 : Byte) :: List.replicate (n - 1) 0 else c.sp.readN a n)

/-- Whether a core has an ASID of its own tenant in force. -/
def Core.runs (c : Core) (asid : Nat) : Bool := c.life != .vacant && c.asid == asid

/-- An uncorrectable error that an engine's access finds in a core's storage goes to the cluster's bank (R498, Table
14.11). -/
def State.coreError (s : State) (p engine addr : Nat) (f : Finder := {}) : State :=
  s.foundError { bank := 16 * dieOf p + clusOf p % 4, uncorrectable := true,
                 rcd := bankRecord engine p (s.core p).asid 0 1 addr f }

/-- Errors found while the payload of a slot is read are recorded (R418). -/
def State.payloadErrors (s : State) (p k len : Nat) (f : Finder := {}) : State :=
  (List.range (ceilDiv len 64)).foldl (fun s u =>
    let a := slotBase k + 64 + 64 * u
    if (s.core p).isBad .sp a (min 64 (len - 64 * u)) then s.coreError p 7 a f else s) s

/-- What becomes of the capsules landed in a core that stops (R422, R423): slots are held; each Waiting or Taken
capsule goes towards `flt` as a copy with code 6, or as a loss notice with code 7. -/
def State.holdSlots (s : State) (p : Nat) (lost : Bool) : State :=
  (List.finRange 2).foldl (fun (s : State) (k : Fin 2) =>
    let c := s.core p
    let x := c.slots[k]
    let hold : Core := { c with slots := c.slots.set k { x with st := if x.st = .free then .free else .held } }
    match x.st, x.hdr with
    | .waiting, some h
    | .taken, some h =>
      let h' := { h with st := 5, fcode := if lost then 7 else 6, len := if lost then 0 else h.len }
      let cap : Capsule := { hdr := h', payload := if lost then [] else c.slotPayload k h.len,
                             sub := if lost then 1 else 0, sender := p }
      let eg : EgCap := { cap := cap }
      let s := s.setCore p { hold with egress := hold.egress ++ [eg] }
      let s := if lost then s else s.payloadErrors p k h.len
      s.sendRecord (capRecord p h (if lost then 3 else 0) (if lost then 7 else 6) k)
    | _, _ => s.setCore p hold) s

/-- A scheduler fault (R469). -/
def State.schedFault (s : State) (d cause : Nat) (r : Option TaskRec) (b38 b39 : Nat := 0) : State :=
  let r := r.getD { code := 0, csize := 0, prio := 0, hard := false, paired := false, die := d, widths := 0, wid := 0,
                    args := [], gang := 0, asid := 0 }
  s.sendRecord
    { kind := 0x0E, engine := 8, place := s.schedName d, skind := 3, asid := r.asid, entry := 31
      detail := detail [(36, 1, cause), (37, 1, d), (38, 1, b38), (39, 1, b39), (40, 8, r.wid), (48, 2, r.gang),
        (50, 3, r.rid), (56, 8, r.code)] }

/-- A scheduler drops a record. -/
def State.dropRecord (s : State) (d rid : Nat) : State :=
  let x := s.sched d
  s.setSched d { x with recs := x.recs.filter (fun r => r.rid != rid) }

/-- A Running record returns to Ready after a seal, or is deleted after three restarts (R453). -/
def State.restartRecord (s : State) (d rid : Nat) : State :=
  let x := s.sched d
  match x.recs.find? (fun r => r.rid = rid ∧ (r.rst = 1 ∨ r.rst = 2)) with
  | none => s
  | some r =>
    if r.rcnt ≥ 3 then (s.dropRecord d rid).schedFault d 2 (some r)
    else
      s.setSched d { x with recs := x.recs.map (fun y =>
        if y.rid = rid then { y with rst := 0, rcnt := y.rcnt + 1, ready := s.now, core := 0 } else y) }

/-- The core for which the scheduler keeps what runs on a core: its primary's, for a shadow. -/
def Core.runsFor (c : Core) (p : Nat) : Nat :=
  match c.pair with
  | some x => if x.primary then p else x.other
  | none => p

/-- The records Running on a core, or on a pair that it shadows; one that the core has accepted is so, though its answer is on its
way. -/
def State.runningOn (s : State) (p : Nat) : List Nat :=
  let c := s.core p
  ((s.sched (dieOf p)).recs.filter (fun r =>
    r.core = c.runsFor p ∧ (r.rst = 2 ∨ (r.rst = 1 ∧ c.tasks.contains r.rid)))).map (·.rid)

/-- Whether a core's child of a cell has ended, its count being still to come (R445). -/
def Core.childOver (c : Core) (cell gen chunk : Nat) : Bool :=
  c.doneOut.any (fun y => y.2.cell == cell && y.2.gen == gen && y.2.chunk == chunk)

/-- A sealed core leaves the teams of its cluster's fork unit, and stays out after a `thaw` (R447). -/
def State.leaveTeams (s : State) (p : Nat) : State :=
  let f := s.fork (clusOf p)
  if f.cells.any (fun x => x.2.team.contains p) then
    s.setFork (clusOf p) { f with cells := f.cells.map (fun x => (x.1, { x.2 with team := x.2.team.filter (· != p) })) }
  else s

/-- The steps that tell a fork unit of the children on a core that stopped (R447). -/
def State.childFailures (s : State) (p : Nat) (sealed : Bool) : List Event :=
  (s.fork (clusOf p)).cells.flatMap (fun x =>
    (x.2.busy.filter (fun b => b.1 = p ∧ (sealed = true ∨ (s.core p).childOver x.1 x.2.gen b.2 = false))).map (fun b =>
      .childFailure (clusOf p) x.1 x.2.gen b.2 p sealed))

/-! ## Taking an exception (R37, R38) -/

/-- The task record of the activation that a freeze stops (R170, R453): of the one that holds the core, or, where none does, of those that
are parked. -/
def Core.frozenTasks (c : Core) : List Nat :=
  match c.act with
  | some a => a.rid.toList
  | none => c.ctxs.filterMap (fun x => x.act.rid)

/-- A core is frozen with a record (R37): it keeps its state and dispatches nothing further; its slots are held (R422),
its task's record is deleted (R453) and its children are counted as failed (R447). The record goes to the service
core and a containment notice to the supervisor core. Its channels close once its channel queue is empty (R252). A
sealed or vacant core is never frozen (R39, R40). For a core of a pair the other core decides what follows (R451). -/
def State.freezeCore (s : State) (p : Nat) (r : FaultRec) : State :=
  let c := s.core p
  if c.life = .sealed ∨ c.life = .vacant then s
  else
    let s := s.setCore p { c with life := .frozen }
    let s := s.holdSlots p false
    let s := s.sendRecord { r with frozen := true } true
    let s := { s with agenda := s.agenda ++ s.childFailures p false }
    match c.pair with
    | none => c.frozenTasks.foldl (fun s rid => s.dropRecord (dieOf p) rid) s
    | some x =>
      let s := s.modCore p (fun c => { c with pair := some { x with frozen := some (r.kind, r.pc) } })
      match (s.core x.other).pair.bind (·.frozen) with
      | some f => if f = (r.kind, r.pc) then s.dropRecord x.die x.rid else s
      | none => s.after (65536 * fabricCycle) (.pairedFreezeTimeout (if x.primary then p else x.other))

/-- The core that a record names is frozen. -/
def State.freeze (s : State) (r : FaultRec) : State := s.freezeCore r.place r

/-- A core is sealed (R38): it stops and discards the commands in its queues, though its batches never finish (R319); its mailboxes are sealed; the peers of its
endpoints get error notices (R282); its capsules are reported lost (R423); the records running on it are restarted
(R453) and its children dispatched again (R447). The record and a containment notice are sent; a seal that has no record of its
own, that of a cluster's reset (R495), sends the notice alone, of kind 0x0F. -/
def State.sealCore (s : State) (p : Nat) (r : Option FaultRec) : State :=
  let c := s.core p
  if c.life = .sealed ∨ c.life = .vacant then s
  else
    let s := ((s.dropWrites p).dropJob p).holdSlots p true
    let s := s.sealNotices p
    let s := s.modCore p (fun c =>
      { c with life := .sealed, lsq := [], nq := [], nSent := false, cq := []
               xfers := c.xfers.map (fun x => { x with out := [] }), stray := [], filling := [], vq := [], vGot := []
               mq := [], kq := [], schedOut := [], doneOut := [], evict := none
               eps := c.eps.map (fun e => if e.life = .shared then { e with msealed := true } else e) })
    let s := (s.runningOn p).foldl (fun s rid => s.restartRecord (dieOf p) rid) s
    let s := ({ s with agenda := s.agenda ++ s.childFailures p true }).leaveTeams p
    let s := match c.evict with
      | some j => s.send (s.schedName (dieOf p)) 3 j.place 0 0 (.schedAns j.place j.act j.tag (2 * 2 ^ 60))
      | none => s
    match r with
    | some r => s.sendRecord { r with sealed := true } true
    | none => s.emitNotice { kind := 0x0F, engine := 0, place := p, asid := c.asid, entry := 31, sealed := true
                             serial := (s.core p).serial, detail := detail [(36, 1, 2)] }

/-- A core that has consumed an uncorrectable error is sealed (R38, R55). `cause` is byte 36 of the record's detail and
`addr` its bytes 40 to 47. -/
def State.consume (s : State) (p engine ent wid cseq pc stream va cause addr : Nat) (priv : Bool := false) : State :=
  s.sealCore p (some
    { kind := 0x0F, engine := engine, place := p, asid := (s.core p).asid, entry := ent, priv := priv, wid := wid, cseq := cseq, pc := pc
      stream := stream, va := va, detail := detail [(36, 1, cause), (40, 8, addr)] })

/-! ## Handler entries (R145, R146) -/

/-- Marks an entry: the count rises by 1, and the word that a dispatch will take up is kept. -/
def Core.mark (c : Core) (ent : Fin 20) (w : Option MarkWord) (now : Nat) : Core :=
  let x := c.hdl[ent]
  let y := { x with pend := x.pend + 1, work := x.work ++ w.toList, since := if x.pend = 0 then now else x.since
                    waited := if x.pend = 0 then 0 else x.waited }
  { c with hdl := c.hdl.set ent y }

/-- The lowest-numbered valid entry of a source. -/
def Core.entryOf (c : Core) (f : Entry → Bool) : Option (Fin 20) :=
  (List.finRange 20).find? (fun k => c.hdl[k].valid && f c.hdl[k])

/-- The entry that a word names, if it is valid and of the word's source. -/
def Core.named (c : Core) (w : MarkWord) : Option (Fin 20) :=
  let at_ (n src : Nat) : Option (Fin 20) :=
    if h : n < 20 then (if c.hdl[n].valid && c.hdl[n].src == src then some ⟨n, h⟩ else none) else none
  match w with
  | .endpoint k => c.entryOf (fun x => x.src == 0 && x.srcno == k)
  | .capsule n => at_ n 1
  | .wake n .. => at_ n 2
  | .child w => at_ w.ent 3
  | .task n _ => at_ n 4

/-- The router's answer to a word that marks an entry. -/
inductive MarkAns where
  | marked | retry | unmatched
  deriving DecidableEq, Repr

def Core.markAns (c : Core) (w : MarkWord) : MarkAns :=
  match c.named w with
  | none => .unmatched
  | some k => if 65535 ≤ c.hdl[k].pend then .retry else .marked

/-- Marks the entry that a word names, where it can be marked. -/
def Core.tryMark (c : Core) (w : MarkWord) (now : Nat) : Core :=
  match c.named w with
  | none => c
  | some k => if 65535 ≤ c.hdl[k].pend then c else c.mark k (some w) now

/-! ## Return from an exception and tenants (R454, R461) -/

/-- Whether a chip is reached: its own, or one that the route table gives a link (R20, R486). -/
def State.reached (s : State) (chip : Nat) : Bool := chip == s.chip || s.routes.any (fun x => x.1 == chip)

/-- A core cleared as at the admission of a tenant (R140, R152, R234, R299, R304, R334, R338, R371, R399, R417, R461). It
keeps what only a core reset sets. -/
def Core.admitted (c : Core) (asid : Nat) : Core :=
  { life := .running, asid := asid, hdSel := c.hdSel, ageUs := c.ageUs, parkNs := c.parkNs, wdogLim := c.wdogLim,
    actNo := c.actNo, serial := c.serial, recs := c.recs, born := c.born, epoch := c.epoch, cEpoch := c.cEpoch,
    egress := c.egress, landNo := c.landNo, freeAt := c.freeAt, chanNo := c.chanNo }

/-- A vacant core (R455). -/
def Core.vacated (c : Core) : Core := { c.admitted 0 with life := .vacant }

/-- The weight buffer is zeroed and unowned once no core of its group runs its owner's ASID (R375). -/
def State.releaseWb (s : State) (g : Nat) : State :=
  let x := s.group g
  match x.owner with
  | none => s
  | some a =>
    if (s.groupCores g).any (fun p => let c := s.core p; c.life != .vacant && c.asid == a) then s
    else s.setGroup g { x with owner := none, wb := [], bad := [] }

/-- The joins of a core no longer wait at its fork unit. -/
def State.dropJoins (s : State) (p : Nat) : State :=
  let f := s.fork (clusOf p)
  if f.joins.any (fun j => j.place == p) then s.setFork (clusOf p) { f with joins := f.joins.filter (fun j => j.place != p) }
  else s

/-- What a core that is cleared has under way elsewhere ends: writes into its storage, a tile of its matrix queue, and its joins (R319, R396,
R460, R461). -/
def State.dropWork (s : State) (p : Nat) : State := ((s.dropWrites p).dropJob p).dropJoins p

/-- A core leaves its tenant (R40, R455, R460). -/
def State.vacate (s : State) (p : Nat) : State := ((s.dropWork p).modCore p Core.vacated).releaseWb (groupOf p)

/-- `thaw` of a frozen or sealed core: cleared as at the admission of its own ASID (R454). -/
def State.thawCore (s : State) (p : Nat) : State :=
  let c := s.core p
  if c.life = .frozen ∨ c.life = .sealed then (s.dropWork p).setCore p (c.admitted c.asid) else s

end Sys2Proof.Machine
end

