-- ==== Sys2Proof/Machine/Operands.lean ====
section
/-! DEFINITION. How an instruction word reaches its operands: registers and architectural queues, extensible
immediates and hints, what makes a stream wait, and issue, which every word of both streams goes through. -/

namespace Sys2Proof.Machine

open Sys2Proof

/-! ## Streams and architectural queues (R109, R157, R158) -/

def Act.str (a : Act) : Stream → StreamSt
  | .a => a.a
  | .e => a.e

def Act.setStr (a : Act) (st : Stream) (x : StreamSt) : Act :=
  match st with
  | .a => { a with a := x }
  | .e => { a with e := x }

def Act.queue (a : Act) : Reg → List Slot
  | .lq => a.lq
  | .sq => a.sq
  | .fq => a.fq
  | .rq => a.rq
  | _ => []

def Act.setQueue (a : Act) (q : Reg) (x : List Slot) : Act :=
  match q with
  | .lq => { a with lq := x }
  | .sq => { a with sq := x }
  | .fq => { a with fq := x }
  | .rq => { a with rq := x }
  | _ => a

def queueDepth : Reg → Nat
  | .lq => 8
  | .sq => 8
  | _ => 4

/-- The branch-outcome queue that a stream fills. -/
def Act.branches (a : Act) : Stream → List Branch
  | .a => a.bqa
  | .e => a.bqe

def Act.setBranches (a : Act) (st : Stream) (x : List Branch) : Act :=
  match st with
  | .a => { a with bqa := x }
  | .e => { a with bqe := x }

def branchDepth : Nat := 16

/-! ## Engine queues (R17, R195, Table 01.4) -/

def Core.queued (c : Core) : Queue → Nat
  | .lsu => c.lsq.length
  | .copy => c.cq.length
  | .vector => c.vq.length
  | .matrix => c.mq.length
  | .channel => c.nq.length
  | .capsule => c.kq.length

def engineDepth : Queue → Nat
  | .lsu => 16
  | _ => 2

/-- Whether an access of an activation is parked on a page-fault reply (R221, R222). -/
def Core.parkedAccess (c : Core) (act : Nat) : Bool :=
  c.lsq.any (fun x => x.cmd.act == act && x.parts.any (fun p => p.st == .parked))

/-- Whether the access that a tag waits for is parked. -/
def Core.parkedTag (c : Core) (act tag : Nat) : Bool :=
  c.lsq.any (fun x => x.cmd.act == act && x.cmd.tag == tag && x.parts.any (fun p => p.st == .parked))

/-! ## Reading and writing register fields (R178) -/

/-- The value of one source field, with what is left of the queues; `a0` is the activation before the instruction. -/
def Act.read (a0 a : Act) (st : Stream) : Reg → Except Wait (Word × Act)
  | .r n =>
    match ((a.str st).regs[n]).pend with
    | some (t, _) => .error (.register t)
    | none => .ok (((a.str st).regs[n]).val, a)
  | .z => .ok (0, a)
  | q =>
    match a.queue q with
    | x :: r =>
      match x.val with
      | some v => .ok (v, a.setQueue q r)
      | none => .error (.pop q ((a0.queue q).length - (a.queue q).length))
    | [] => .error (.pop q (a0.queue q).length)

/-- The values of the source fields, in field order (R111). -/
def Act.readAll (a0 a : Act) (st : Stream) : List Reg → Except Wait (List Word × Act)
  | [] => .ok ([], a)
  | r :: rs =>
    match a0.read a st r with
    | .error w => .error w
    | .ok (v, a) =>
      match a0.readAll a st rs with
      | .error w => .error w
      | .ok (vs, a) => .ok (v :: vs, a)

/-- Sets a register of a stream. -/
def Act.setReg (a : Act) (st : Stream) (n : Fin 16) (x : RegCell) : Act :=
  a.setStr st { a.str st with regs := (a.str st).regs.set n x }

/-- Writes a value that exists at issue (R157, R178). -/
def Act.write (a : Act) (st : Stream) (r : Reg) (v : Word) : Act :=
  match r with
  | .r n => a.setReg st n { val := v }
  | .z => a
  | q => a.setQueue q (a.queue q ++ [{ val := some v }])

/-- Makes a destination wait for a tag: the register is read only once its result has come, and a queue slot is
reserved (R157, R159). DESIGN CHOICE: a later result whose `rd` is `fq`, which R109 and R110 allow and R157 does not list, keeps its
place in `fq` by a slot too, so that values enter it in issue order (R111). -/
def Act.reserve (a : Act) (st : Stream) (r : Reg) (tag : Nat) (ext : Bool) : Act :=
  match r with
  | .r n => a.setReg st n { val := ((a.str st).regs[n]).val, pend := some (tag, ext) }
  | .z => a
  | q => a.setQueue q (a.queue q ++ [{ tag := tag, val := none, ext := ext }])

/-- Whether an instruction of a stream has issued and not written its result (R192), wherever that goes. -/
def Act.outstanding (a : Act) (st : Stream) : Bool := !(a.str st).due.isEmpty

/-! ## Words of the other stream (R121, R160, R185 to R188) -/

def otherStream : Stream → Stream
  | .a => .e
  | .e => .a

/-- The target of a branch of format B (R122). -/
def branchTarget (pc : Nat) (o : BitVec 10) : Nat := wrap 15 ((pc : Int) + 4 * signed 10 o.toNat)

/-- Whether a word belongs to the branch group, on which both streams act. -/
def branchGroup (w : IWord) : Bool := 0x10 ≤ fld w 25 6 && fld w 25 6 ≤ 0x13

/-- The word at an address of the code store. -/
def Core.wordAt (c : Core) (pc : Nat) : IWord := BitVec.ofNat 32 (c.code.load pc 4)

/-- The address of the next word on a stream's path in sequence that it does not skip. -/
def Core.ahead (c : Core) (st : Stream) : Nat → Nat → Nat
  | 0, pc => pc
  | n + 1, pc =>
    let w := c.wordAt pc
    if c.codeLim ≤ pc ∨ sBit w = st ∨ branchGroup w = true then pc else c.ahead st n (pc + 4)

/-- The address of the word that a stream would act on next (R193): that at which it is blocked, that of the `done` at which
it ended, or else the next that it does not skip. -/
def Core.nextWord (c : Core) (a : Act) (st : Stream) : Nat :=
  let x := a.str st
  if x.hold.isSome then x.last else if x.ended then x.pc else c.ahead st 8192 x.pc

/-- A stream acts on a branch-group word that the other stream decides (Table 04.10): the activation after it; none where the
outcome has not come or a jump's target lies beyond the code region. -/
def Core.follow (c : Core) (a : Act) (st : Stream) (w : IWord) : Option Act :=
  let x := a.str st
  let o := otherStream st
  let go (a : Act) (pc : Nat) : Option Act :=
    some { a.setStr st { a.str st with pc := pc, last := x.pc, wait := none } with idle := 0 }
  let pop (f : Branch → Nat) : Option Act :=
    match a.branches o with
    | [] => none
    | b :: r => go (a.setBranches o r) (f b)
  let cond (off : BitVec 10) : Option Act := pop (fun b => match b with
    | .taken true => branchTarget x.pc off
    | .taken false => x.pc + 4
    | .target t => t)
  match decode w with
  | .ok (.j _ t) | .ok (.jal _ _ t) => if c.codeLim ≤ 4 * t.toNat then none else go a (4 * t.toNat)
  | .ok (.beq _ _ _ _ off) | .ok (.bne _ _ _ _ off) | .ok (.blt _ _ _ _ off) | .ok (.bge _ _ _ _ off)
  | .ok (.bltu _ _ _ _ off) | .ok (.bgeu _ _ _ _ off) => cond off
  | .ok (.jr _ _) | .ok (.jalr _ _ _) => pop (fun b => match b with | .target t => t | .taken _ => x.pc + 4)
  | _ => none

/-- A stream has acted on `done` and stays at that word (R188, R193). -/
def Act.ends (a : Act) (st : Stream) (pc : Nat) : Act :=
  a.setStr st { a.str st with ended := true, pc := pc, last := pc, hints := {}, wait := none }

/-- Whether a word is `done`. -/
def isDone (w : IWord) : Bool :=
  match decode w with
  | .ok (.done _) => true
  | _ => false

/-- A stream whose core freezes at a word of the other stream goes on to the first word at which it is blocked or faults, or to
the next that it would issue (R194). -/
def Core.runOn (c : Core) (st : Stream) : Nat → Act → Act
  | 0, a => a
  | n + 1, a =>
    let x := a.str st
    let w := c.wordAt x.pc
    if x.ended ∨ x.hold.isSome ∨ c.codeLim ≤ x.pc ∨ c.isBad .code x.pc 4 = true ∨ sBit w = st then a
    else if isDone w then a.ends st x.pc
    else if branchGroup w then
      match c.follow a st w with
      | some b => c.runOn st n b
      | none => a
    else c.runOn st n (a.setStr st { x with pc := x.pc + 4, wait := none })

/-! ## Immediates and hints (R119, R120, R191) -/

/-- An extensible immediate of `k` bits. -/
def immediate (h : Hints) (k f : Nat) : Word :=
  match h.imm with
  | none => sext k f
  | some n => sext (20 + k) (n.toNat * 2 ^ k + f)


/-! ## Faults of the handler core (R193) -/

/-- A record of the handler core at the word that a stream would act on next. -/
def handlerRecord (c : Core) (p : Nat) (a : Act) (st : Stream) (kind : Nat) (d : List (Nat × Nat × Nat)) : FaultRec :=
  { kind := kind, engine := 0, place := p, asid := c.asid, entry := a.ent, priv := a.priv, stream := st.code,
    pc := (a.str st).pc, wid := a.wid.toNat, detail := detail d }

/-- Streams of a core that freezes go on, each to the first word at which it is blocked or faults, or to the next that it would issue
(R194). -/
def State.stopStreams (s : State) (p : Nat) (l : List Stream) : State :=
  l.foldl (fun s st => s.modCore p (fun c => { c with act := c.act.map (c.runOn st 8192) })) s

/-- A fault at a word of a stream freezes the core, and the other stream stops (R194). -/
def State.handlerFault (s : State) (p : Nat) (st : Stream) (r : FaultRec) : State :=
  (s.stopStreams p [otherStream st]).freeze r

/-- An illegal encoding freezes the core (R123, R124). -/
def State.illegal (s : State) (p : Nat) (a : Act) (st : Stream) (w : IWord) (cause : Nat) : State :=
  s.handlerFault p st (handlerRecord (s.core p) p a st 0x01 [(36, 4, w.toNat), (40, 1, cause)])

/-- An illegal hint sequence freezes the core (R120). -/
def State.illegalHint (s : State) (p : Nat) (a : Act) (st : Stream) (hw w : IWord) : State :=
  s.handlerFault p st (handlerRecord (s.core p) p a st 0x02 [(36, 4, hw.toNat), (48, 8, w.toNat)])

/-- A fetch beyond the code region freezes the core (R172); the record names the word at `pc`. -/
def State.fetchFault (s : State) (p : Nat) (a : Act) (st : Stream) (pc cause addr : Nat) : State :=
  s.handlerFault p st { handlerRecord (s.core p) p a st 0x03 [(36, 4, addr), (40, 1, cause)] with pc := pc }

/-- A local range fault found at issue freezes the core, which stops as R194 gives (R15, R232, R285): byte 36 of the detail is the cause, bytes 40
to 47 the address; `va` holds its low bits. -/
def State.rangeFault (s : State) (p : Nat) (a : Act) (st : Stream) (engine cseq cause addr : Nat) : State :=
  s.handlerFault p st { handlerRecord (s.core p) p a st 0x07 [(36, 1, cause), (40, 8, addr)] with
    engine := engine, cseq := cseq, va := addr }

/-! ## Waiting -/

/-- Whether the cause for which a stream waits still holds. -/
def Core.waits (c : Core) (a : Act) (st : Stream) : Wait → Bool
  | .register t => (a.str st).regs.toList.any (fun x => match x.pend with | some (u, _) => u == t | none => false)
  | .pop q k =>
    match (a.queue q)[k]? with
    | some x => x.val.isNone
    | none => true
  | .push q => queueDepth q ≤ (a.queue q).length
  | .branchPop => (a.branches (match st with | .a => .e | .e => .a)).isEmpty
  | .branchPush => branchDepth ≤ (a.branches st).length
  | .engine q => engineDepth q ≤ c.queued q
  | .drain => a.outstanding st
  | .held => (a.str st).hold.isSome
  | .parkedAccess => c.parkedAccess a.id
  | .endpoint k => c.eps[k].ist.isNone

/-- Whether a tag is that of a `recv`, `offer` or `join` that is not complete. -/
def Core.messageTag (c : Core) (act tag : Nat) : Bool :=
  c.nq.any (fun x => x.act == act && x.tag == tag && match x.op with | .recv .. | .offer .. => true | _ => false) ||
    c.schedOut.any (fun x => x.cmd.act == act && x.cmd.tag == tag && match x.cmd.op with | .join .. => true | _ => false)

/-- Whether a wait is external (R164, R247). -/
def Core.external (c : Core) (a : Act) (st : Stream) : Wait → Bool
  | .register t => c.parkedTag a.id t || c.messageTag a.id t
  | .pop q k => q == .lq && (match a.lq[k]? with | some x => x.ext && x.val.isNone | none => false)
  | .held => match (a.str st).hold with | some (_, e) => e | none => false
  | .parkedAccess => true
  | .endpoint _ => true
  | _ => false

/-- The stream is blocked. -/
def State.block (s : State) (p : Nat) (a : Act) (st : Stream) (w : Wait) : State :=
  s.modCore p (fun c => { c with act := some (a.setStr st { a.str st with wait := some w }) })

/-! ## What a release waits for (R92, R95, R418, R463) -/

/-- Whether a part of an access has been performed at a scope (Table 03.4). -/
def Part.performed (p : Part) (store : Bool) (sc : Scope) : Bool :=
  p.st == .done ||
  (store && match sc with
    | .core => p.st == .left || p.st == .egress
    | .pkg | .sys => false
    | _ => p.st == .egress)

/-- Loads, stores and atomics; fences and region commands are not accesses. -/
def LsOp.access : LsOp → Bool
  | .load => true
  | .store => true
  | .amo _ => true
  | .cas => true
  | .xprobe => true
  | _ => false

def LsEntry.performed (x : LsEntry) (sc : Scope) : Bool :=
  !x.op.access || (!x.parts.isEmpty && x.parts.all (fun p => p.performed (x.op == .store) sc))

/-- Every load and store of an activation that entered the queue up to a number has been performed at a scope. -/
def Core.released (c : Core) (act mark : Nat) (sc : Scope) : Bool :=
  c.lsq.all (fun x => x.cmd.act != act || mark < x.cmd.seq || x.performed sc)

/-- No access of an activation to its own scratchpad, up to a number, is still to be performed: what another engine then reads for the
activation comes after its earlier stores and loads of the same bytes (R83). -/
def Core.spDone (c : Core) (act mark : Nat) : Bool :=
  c.lsq.all (fun x => x.cmd.act != act || mark < x.cmd.seq || x.glob || !x.op.access)

/-! ## Issue (R156) -/

/-- Where an instruction writes: nowhere; a value that exists at issue; or one that comes later, for which the stream
may wait externally. -/
inductive Dst where
  | none
  | now (r : Reg)
  | later (r : Reg) (ext : Bool)
  deriving DecidableEq, Repr

/-- What an instruction needs in order to issue. `imm` says that it has an extensible immediate, `also` are registers it
reads besides its source fields, `decides` that it pushes a branch outcome, `hold` that it holds its stream and
whether that wait is external, `priv` that only service privilege may issue it, `ep` and `epx` endpoints whose state it needs (R247). -/
structure Need where
  st : Stream
  imm : Bool := false
  srcs : List Reg := []
  dst : Dst := .none
  enters : Option Queue := none
  decides : Bool := false
  hold : Option Bool := none
  priv : Bool := false
  ep : Option (Fin 16) := none
  epx : Option (Fin 16) := none
  deriving DecidableEq, Repr

/-- The queue that a destination pushes into. -/
def Dst.queue : Dst → Option Reg
  | .now r => if r = .lq ∨ r = .sq ∨ r = .fq ∨ r = .rq then some r else Option.none
  | .later r _ => if r = .lq ∨ r = .sq ∨ r = .fq ∨ r = .rq then some r else Option.none
  | .none => Option.none

/-- Why the instruction cannot issue, besides a source that is not ready. -/
def Core.obstacle (c : Core) (a : Act) (n : Need) : Option Wait :=
  let x := a.str n.st
  if (x.hints.sched = 1 ∨ x.hints.sched = 3) ∧ a.outstanding n.st = true then some .drain
  else if n.enters = some .lsu ∧ c.parkedAccess a.id = true then some .parkedAccess
  else
    match (n.ep.toList ++ n.epx.toList).find? (fun k => c.eps[k].ist.isNone) with
    | some k => some (.endpoint k)
    | Option.none =>
      match n.enters.bind (fun q => if engineDepth q ≤ c.queued q then some q else Option.none) with
      | some q => some (.engine q)
      | Option.none =>
        match n.dst.queue.bind (fun q => if queueDepth q ≤ (a.queue q).length then some q else Option.none) with
        | some q => some (.push q)
        | Option.none => if n.decides ∧ branchDepth ≤ (a.branches n.st).length then some .branchPush else Option.none

/-- What an instruction has once it issues: the core; the activation before it; the activation with the sources read, the hints used up, the
program counter moved past the word and the destination reserved; the values; the hints; the word's address; the tag
of its result. -/
structure Issued where
  core : Core
  old : Act
  act : Act
  vals : List Word
  hints : Hints
  pc : Nat
  tag : Nat

/-- The activation at issue: reads its sources and is made to wait for its results. -/
def Act.issued (a : Act) (n : Need) (c : Core) (vals : List Word) (b : Act) : Issued :=
  let x := b.str n.st
  let tag := a.tag + 1
  let due := match n.dst with | .later _ _ => x.due ++ [tag] | _ => x.due
  let b := { b.setStr n.st { x with pc := x.pc + 4, last := x.pc, hints := {}, wait := none, due := due } with tag := tag, idle := 0 }
  let b := match n.dst with
    | .later r e => b.reserve n.st r tag e
    | _ => b
  let b := match n.hold with
    | some e => b.setStr n.st { b.str n.st with hold := some (tag, e) }
    | none => b
  { core := c, old := a, act := b, vals := vals, hints := x.hints, pc := x.pc, tag := tag }

/-- The hint word that breaks R120 before this instruction. -/
def Hints.broken (h : Hints) (imm : Bool) (st : Stream) : Option IWord :=
  match h.second with
  | some n => some (word st 0 [(0, n.toNat)])
  | none =>
    match h.imm with
    | some n => if imm then none else some (word st 0 [(0, n.toNat)])
    | none => none

/-- Issue of a word on the core whose turn it is: an illegal hint sequence or a privileged word of a tenant freezes the
core; a stream that cannot issue waits; else the instruction has its effect. -/
def issue (s : State) (n : Need) (k : Issued → State) : Host.Outcome State Fault Refusal :=
  let p := s.who
  let c := s.core p
  match c.act with
  | none => .fault .noActivation
  | some a =>
    let x := a.str n.st
    if c.life ≠ .running ∨ x.ended = true then .next s
    else if x.hold.isSome then .next (s.block p a n.st .held)
    else
      let w := c.wordAt x.pc
      if n.priv = true ∧ a.priv = false then .next (s.illegal p a n.st w 7)
      else
        match x.hints.broken n.imm n.st with
        | some hw => .next (s.illegalHint p a n.st hw w)
        | none =>
          match c.obstacle a n with
          | some wt => .next (s.block p a n.st wt)
          | none =>
            match a.readAll a n.st n.srcs with
            | .error wt => .next (s.block p a n.st wt)
            | .ok (vals, b) => .next (k (a.issued n c vals b))

/-- The core of the turn with an activation put in. -/
def State.withAct (s : State) (c : Core) (a : Act) : State := s.setCore s.who { c with act := some a }

/-- An instruction of the handler core that writes a function of its sources at once. -/
def alu (s : State) (st : Stream) (d : Reg) (srcs : List Reg) (f : List Word → Word) : Host.Outcome State Fault Refusal :=
  issue s { st := st, srcs := srcs, dst := .now d } (fun i => s.withAct i.core (i.act.write st d (f i.vals)))

/-- The same for an instruction with an extensible immediate of `k` bits. -/
def aluImm (s : State) (st : Stream) (d : Reg) (srcs : List Reg) (k imm : Nat) (f : List Word → Word → Word) :
    Host.Outcome State Fault Refusal :=
  issue s { st := st, imm := true, srcs := srcs, dst := .now d } (fun i =>
    s.withAct i.core (i.act.write st d (f i.vals (immediate i.hints k imm))))

/-- The head of the values, for an instruction with one source. -/
def v1 (vs : List Word) : Word := vs.getD 0 0

def v2 (vs : List Word) : Word := vs.getD 1 0

def v3 (vs : List Word) : Word := vs.getD 2 0

/-- A command at issue, with its operands captured (R17). -/
def Issued.cmd (i : Issued) (op : Instr) (seq : Nat) (tagged : Bool) : Cmd :=
  { op := op, seq := seq, act := i.act.id, tag := if tagged then i.tag else 0, mark := i.core.lsSeq, vals := i.vals, rnd := i.hints.rnd,
    sat := i.hints.sat, nt := i.hints.nt, pc := i.pc, ent := i.act.ent, wid := i.act.wid, priv := i.act.priv,
    asid := i.core.asid }

end Sys2Proof.Machine
end

