-- ==== Sys2Proof/Machine/Capsule.lean ====
section
/-! DEFINITION. The capsule router (12): landing slots, the capsule queue and its instructions, travel, landing,
diversion and retries of capsules. -/

namespace Sys2Proof.Machine

open Sys2Proof

/-! ## Headers (R402 to R404) -/

/-- The header in a 64-byte image. -/
def hdrOfBytes (b : List Byte) : CapHdr :=
  let w := field b 4 4
  { cid := field b 0 2, asid := field b 2 2 % 8192, nst := bits w 31 28, cur := bits w 27 24, fcode := bits w 23 16
    st := bits w 15 12, len := bits w 11 0, rtn := field b 8 4, flt := field b 12 4
    steps := (List.range 12).map (fun i => field b (16 + 4 * i) 4) }

/-- A header is well formed (R404); reserved bits are checked on the image it comes from. -/
def hdrOK (h : CapHdr) : Bool :=
  h.nst ≤ 12 && h.cur ≤ h.nst && h.len ≤ 4032 && (h.steps.drop h.nst).all (· == 0) && h.rtn % 128 == 0 &&
    h.flt % 128 == 0

/-- The place and the entry that a capsule is bound for (R403, R408). -/
def capPlace (h : CapHdr) : Nat := capTarget h / 4096

def capEntry (h : CapHdr) : Nat := bits (capTarget h) 11 7

/-! ## Slots and the egress buffer -/

def Core.setSlot (c : Core) (k : Fin 2) (x : LandSlot) : Core := { c with slots := c.slots.set k x }

/-- The landing record and the header copy in SP are written (R400). -/
def Core.writeHdr (c : Core) (k : Fin 2) (h : CapHdr) : Core :=
  (c.setSlot k { c.slots[k] with hdr := some h }).put .sp (slotBase k) (hdrBytes h)

/-- A capsule enters a router's egress buffer. -/
def State.toEgress (s : State) (p : Nat) (h : CapHdr) (payload : List Byte) (sub : Nat := 0) : State :=
  let g : EgCap := { cap := { hdr := h, payload := payload, sub := sub, sender := p } }
  s.modCore p (fun c => { c with egress := c.egress ++ [g] })

/-- The capsule in a slot leaves for `flt` (R410): header and payload into the egress buffer, the slot Free, a record of
class diverted. -/
def State.divertSlot (s : State) (p : Nat) (k : Fin 2) (h : CapHdr) (code : Nat) : State :=
  let s := s.payloadErrors p k h.len
  let s := s.toEgress p { h with st := 5, fcode := code } ((s.core p).slotPayload k h.len)
  let s := s.modCore p (fun c => c.setSlot k {})
  s.sendRecord (capRecord p h 0 code k)

/-- The router that found a capsule undeliverable handles it (R410). -/
def State.undeliverable (s : State) (p : Nat) (c : Capsule) (code : Nat) : State :=
  let h := c.hdr
  if h.st = 1 ∧ capTarget h % 2 = 1 ∧ [1, 2, 3, 4, 5, 8].contains code then
    let n := h.cur + 1
    s.toEgress p { h with cur := n, st := if n = h.nst then 3 else 1 } c.payload c.sub
  else if h.st = 5 then s.sendRecord (capRecord p h 1 code 0)
  else (s.toEgress p { h with st := 5, fcode := code } c.payload c.sub).sendRecord (capRecord p h 0 code 0)

/-- At the end of an activation, once its capsule commands have been performed, each slot it owns is examined (R413). -/
def State.examineSlots (s : State) (p act : Nat) : State :=
  if (s.core p).kq.any (fun x => x.act == act) then s
  else
    (List.finRange 2).foldl (fun (s : State) (k : Fin 2) =>
      let x := (s.core p).slots[k]
      if x.owner ≠ some act then s
      else
        match x.st, x.hdr with
        | .taken, some h => s.divertSlot p k h 10
        | .building, some h =>
          (s.modCore p (fun c => c.setSlot k {})).sendRecord (capRecord p h 1 10 k)
        | _, _ => s) s

/-! ## Commands at the head of the queue -/

/-- The header of the capsule that a slot holds; of an empty slot, one with nothing but the activation's ASID (R426). -/
def LandSlot.hdrFor (x : LandSlot) (asid : Nat) : CapHdr :=
  x.hdr.getD { cid := 0, asid := asid, nst := 0, cur := 0, fcode := 0, st := 0, len := 0, rtn := 0, flt := 0, steps := [] }

/-- An operand error (R416): a record of class operand, 0 into `rd`, and the capsule of the slot, if the activation owns it,
diverted with code 9. -/
def State.capError (s : State) (p : Nat) (x : Cmd) (k : Fin 2) (fn cause : Nat) : State :=
  let y := (s.core p).slots[k]
  let r := capRecord p (y.hdrFor x.asid) 2 cause k
  let s := s.sendRecord { r with entry := x.ent, priv := x.priv, pc := x.pc, cseq := x.seq, detail := r.detail.set 24 (BitVec.ofNat 8 fn) }
  let s := s.deliver p x.act x.tag 0
  match y.hdr with
  | some h => if y.owner = some x.act ∧ (y.st = .building ∨ y.st = .taken) then s.divertSlot p k h 9 else s
  | none => s

/-- The capsule that a command may act on (R412, R416). -/
def Core.ownCapsule (c : Core) (x : Cmd) (k : Fin 2) : Option CapHdr :=
  let y := c.slots[k]
  if (y.owner = some x.act ∨ x.priv) ∧ (y.st = .building ∨ y.st = .waiting ∨ y.st = .taken) then y.hdr else none

/-- An edit of the header, or an operand error. -/
def State.capEdit (s : State) (p : Nat) (x : Cmd) (k : Fin 2) (fn : Nat) (f : CapHdr → Except Nat (CapHdr × Nat)) : State :=
  match (s.core p).ownCapsule x k with
  | none => s.capError p x k fn 1
  | some h =>
    match f h with
    | .error cause => s.capError p x k fn cause
    | .ok (h', v) => (s.modCore p (fun c => if h' = h then c else c.writeHdr k h')).deliver p x.act x.tag (BitVec.ofNat 64 v)

/-- The first open step of a capsule (R416). -/
def openStep (h : CapHdr) : Nat := if h.st = 2 then h.cur + 1 else h.cur

def capIns (h : CapHdr) (k : Nat) (w : Word) : Except Nat (CapHdr × Nat) :=
  let i := h.cur + k
  if h.nst = 12 then .error 3
  else if i < openStep h ∨ h.nst < i then .error 2
  else if w.toNat ≥ 2 ^ 32 then .error 4
  else .ok ({ h with steps := ((h.steps.take i) ++ [w.toNat] ++ h.steps.drop i).take 12, nst := h.nst + 1 }, 0)

def capDel (h : CapHdr) (k : Nat) : Except Nat (CapHdr × Nat) :=
  let i := h.cur + k
  if i < openStep h ∨ h.nst ≤ i then .error 2
  else .ok ({ h with steps := h.steps.take i ++ h.steps.drop (i + 1) ++ [0], nst := h.nst - 1 }, 0)

def capRep (h : CapHdr) (k : Nat) (w : Word) : Except Nat (CapHdr × Nat) :=
  let i := h.cur + k
  if i < openStep h ∨ h.nst ≤ i then .error 2
  else if w.toNat ≥ 2 ^ 32 then .error 4
  else .ok ({ h with steps := h.steps.set i w.toNat }, 0)

def capRd (h : CapHdr) (k : Nat) : Except Nat (CapHdr × Nat) :=
  let i := h.cur + k
  .ok (h, if h.nst ≤ i then 0 else h.steps.getD i 0)

/-- `cap.hdr` (R420, Table 12.10). -/
def capHdrField (h : CapHdr) (w : Word) : Except Nat (CapHdr × Nat) :=
  let n := w.toNat
  let sel := bits n 63 60
  let v := n % 2 ^ 32
  let old : Nat := match sel with
    | 0 => h.cid | 1 => h.len | 2 => h.rtn | 3 => h.flt | 4 => h.cur | 5 => h.nst | 6 => h.st | 7 => h.fcode
    | 8 => h.asid | 9 => field (hdrBytes h) 0 8 | _ => field (hdrBytes h) 8 8
  if bits n 58 32 ≠ 0 then .error 4
  else if sel > 10 then .error 5
  else if bit n 59 = false then .ok (h, old)
  else
    match sel with
    | 0 => if v ≥ 65536 then .error 6 else .ok ({ h with cid := v }, old)
    | 1 => if v > 4032 then .error 6 else .ok ({ h with len := v }, old)
    | 2 => if v % 128 ≠ 0 then .error 6 else .ok ({ h with rtn := v }, old)
    | 3 => if v % 128 ≠ 0 then .error 6 else .ok ({ h with flt := v }, old)
    | 4 =>
      if h.st = 2 then .error 5
      else if v > h.nst then .error 6 else .ok ({ h with cur := v }, old)
    | _ => .error 5

/-- A sending command (R418): it waits for its release and for space in the egress buffer, then moves the capsule. -/
def State.capSend (s : State) (p : Nat) (x : Cmd) (k : Fin 2) (fn : Nat) (f : CapHdr → Except Nat CapHdr) : Option State :=
  let c := s.core p
  if !c.released x.act x.mark .sys then none
  else
    match c.ownCapsule x k with
    | none => some (s.capError p x k fn 1)
    | some h =>
      match f h with
      | .error cause => some (s.capError p x k fn cause)
      | .ok h' =>
        if c.egress.length ≥ 2 then none
        else
          let s := s.payloadErrors p k h'.len x.finder
          some ((s.toEgress p h' (c.slotPayload k h'.len)).modCore p (fun c => c.setSlot k {}))

/-- `cap.new` when it is performed (R417). -/
def State.capNew (s : State) (p : Nat) (x : Cmd) (k : Fin 2) (a : Nat) : Option State :=
  let c := s.core p
  if !c.spDone x.act x.mark then none
  else
    let answer (s : State) (rc cid : Nat) : State := s.deliver p x.act x.tag (BitVec.ofNat 64 (rc * 2 ^ 32 + cid))
    if c.slots[k].st ≠ .free then some (answer s 1 0)
    else if a % 64 ≠ 0 then some (answer s 3 0)
    else if c.isBad .sp a 64 then
      some ((s.coreError p 7 a x.finder).consume p 7 x.ent x.wid.toNat x.seq x.pc 0 a 1 a x.priv)
    else
      let b := c.sp.readN a 64
      let h := { hdrOfBytes b with asid := x.asid, st := 0, fcode := 0, cur := 0 }
      if !hdrOK h ∨ field b 2 2 ≥ 8192 then some (answer s 2 0)
      else
        let h' := if h.cid = 0 then { h with cid := c.capNo } else h
        let c := if h.cid = 0 then { c with capNo := if c.capNo = 65535 then 1 else c.capNo + 1 } else c
        let c := (c.setSlot k { st := .building, owner := some x.act }).writeHdr k h'
        some (answer (s.setCore p c) 0 h'.cid)

/-- Whether a core is frozen, or was when its eviction began (R422). -/
def Core.wasFrozen (c : Core) : Bool :=
  c.life == .frozen || (c.life == .evicting && match c.evict with | some e => e.prev == some .frozen | none => false)

/-- What the capsule command at the head of the queue does; none while it waits. -/
def State.capPerform (s : State) (p : Nat) (x : Cmd) : Option State :=
  let c := s.core p
  let frozenSlot (k : Fin 2) : Bool := c.wasFrozen && c.slots[k].st == .held
  let done (s : State) : State := s.deliver p x.act x.tag 0
  match x.op with
  | .capNew _ _ k => if frozenSlot k then some (done s) else s.capNew p x k (v1 x.vals).toNat
  | .capFwd k =>
    if frozenSlot k then some s
    else s.capSend p x k 1 (fun h =>
      let n := if h.st = 2 then h.cur + 1 else h.cur
      .ok { h with cur := n, st := if n < h.nst then 1 else 3 })
  | .capIns _ i k => if frozenSlot k then some s else some (s.capEdit p x k 2 (fun h => capIns h i (v1 x.vals)))
  | .capDel i k => if frozenSlot k then some s else some (s.capEdit p x k 3 (fun h => capDel h i))
  | .capRep _ i k => if frozenSlot k then some s else some (s.capEdit p x k 4 (fun h => capRep h i (v1 x.vals)))
  | .capRd _ i k => if frozenSlot k then some (done s) else some (s.capEdit p x k 5 (fun h => capRd h i))
  | .capDiv _ k =>
    if frozenSlot k then some s
    else s.capSend p x k 6 (fun h =>
      let n := (v1 x.vals).toNat
      if n > 255 ∨ n < 16 then .error 6 else .ok { h with st := 5, fcode := n })
  | .capRet k => if frozenSlot k then some s else s.capSend p x k 7 (fun h => .ok { h with cur := h.nst, st := 3 })
  | .capKill k =>
    if frozenSlot k then some s
    else if x.priv ∧ c.slots[k].st = .held then some (s.setCore p (c.setSlot k {}))
    else
      match c.ownCapsule x k with
      | none => some (s.capError p x k 8 1)
      | some _ => some (s.setCore p (c.setSlot k {}))
  | .capHdr _ _ k => if frozenSlot k then some (done s) else some (s.capEdit p x k 9 (fun h => capHdrField h (v1 x.vals)))
  | _ => some s

/-- Whether an activation is still in the core or parked there. -/
def Core.live (c : Core) (act : Nat) : Bool :=
  (match c.act with | some a => a.id == act | none => false) || c.ctxs.any (fun x => x.act.id == act)

/-- Whether a core's router waits for the acceptance of a record about a capsule (R34, R426). -/
def State.routerPaused (s : State) (p : Nat) : Bool := (s.core p).recs.any (fun e => e.1 == 7)

/-- One step of the capsule queue (R415): the head command is performed, unless it waits or a record of the router is on
its way (R34). -/
def State.drainCapsule (s : State) (p : Nat) : State :=
  let c := s.core p
  match c.kq with
  | [] => s
  | x :: r =>
    if s.routerPaused p then s
    else
      match s.capPerform p x with
      | none => s
      | some t =>
        let t := t.modCore p (fun c => if c.life = .sealed then c else { c with kq := r })
        if (t.core p).live x.act then t else t.examineSlots p x.act

/-! ## Instructions (R414, R415) -/

/-- A capsule command enters its queue. -/
def capCommand (s : State) (op : Instr) (srcs : List Reg) (d : Option Reg) : Host.Outcome State Fault Refusal :=
  issue s { st := .a, srcs := srcs, dst := (match d with | some r => .later r false | none => .none),
            enters := some .capsule } (fun i =>
    let x := i.cmd op (i.core.kSeq + 1) d.isSome
    s.withAct { i.core with kq := i.core.kq ++ [x], kSeq := i.core.kSeq + 1 } i.act)

/-- `cap.new`: the span of the header image is checked at issue (R417). -/
def execCapNew (d a : Reg) (p : Fin 2) (s : State) : Host.Outcome State Fault Refusal :=
  issue s { st := .a, srcs := [a], dst := .later d false, enters := some .capsule } (fun i =>
    let addr := (v1 i.vals).toNat
    if addr + 64 > lsSize .sp then s.rangeFault s.who i.old .a 7 (i.core.kSeq + 1) 1 addr
    else
      let x := i.cmd (.capNew d a p) (i.core.kSeq + 1) true
      s.withAct { i.core with kq := i.core.kq ++ [x], kSeq := i.core.kSeq + 1 } i.act)

def execCapFwd (p : Fin 2) (s : State) : Host.Outcome State Fault Refusal := capCommand s (.capFwd p) [] none

def execCapIns (a : Reg) (k : Fin 12) (p : Fin 2) (s : State) : Host.Outcome State Fault Refusal :=
  capCommand s (.capIns a k p) [a] none

def execCapDel (k : Fin 12) (p : Fin 2) (s : State) : Host.Outcome State Fault Refusal := capCommand s (.capDel k p) [] none

def execCapRep (a : Reg) (k : Fin 12) (p : Fin 2) (s : State) : Host.Outcome State Fault Refusal :=
  capCommand s (.capRep a k p) [a] none

def execCapRd (d : Reg) (k : Fin 12) (p : Fin 2) (s : State) : Host.Outcome State Fault Refusal :=
  capCommand s (.capRd d k p) [] (some d)

def execCapDiv (a : Reg) (p : Fin 2) (s : State) : Host.Outcome State Fault Refusal := capCommand s (.capDiv a p) [a] none

def execCapRet (p : Fin 2) (s : State) : Host.Outcome State Fault Refusal := capCommand s (.capRet p) [] none

def execCapKill (p : Fin 2) (s : State) : Host.Outcome State Fault Refusal := capCommand s (.capKill p) [] none

def execCapHdr (d a : Reg) (p : Fin 2) (s : State) : Host.Outcome State Fault Refusal :=
  capCommand s (.capHdr d a p) [a] (some d)

/-! ## Travel -/

/-- The sending router's copy goes once the capsule has been taken (R409). -/
def State.capTaken (s : State) (c : Capsule) : State :=
  if !s.isCore c.sender then s
  else
    s.modBoth c.sender (fun x =>
      match x.egress.findIdx? (fun g => g.sent && { g.cap with sender := c.sender } == c) with
      | some i => { x with egress := x.egress.eraseIdx i }
      | none => x)

/-- Whether the ASID has been torn down: it is not open, and ASID 0 is never torn down (R479, R494). -/
def State.tornDown (s : State) (asid : Nat) : Bool := asid != 0 && !s.openAsids.contains asid

/-- The capsule lands in the Free slot with the lowest number (R411). -/
def Core.land (c : Core) (k : Fin 2) (ent : Fin 20) (m : Capsule) (now : Nat) : Core :=
  let h := { m.hdr with st := m.hdr.st + 1 }
  let c := { c with landNo := c.landNo + 1 }.setSlot k { st := .waiting, hdr := some h, landed := c.landNo }
  let b := hdrBytes h ++ m.payload
  (c.put .sp (slotBase k) (b ++ List.replicate (4096 - b.length) 0)).mark ent none now

/-- A capsule reaches its destination router: Table 12.7 in order, else it lands (R408, R411). -/
def execCapsuleArrival (place : Nat) (m : Capsule) (s : State) : Host.Outcome State Fault Refusal :=
  let c := s.core place
  let h := m.hdr
  let retry : State := s.send place 0 m.sender 0 h.asid (.capRetry m)
  let fail (code : Nat) : State := (s.capTaken m).undeliverable place m code
  if s.tornDown h.asid then .next (s.capTaken m)
  else if c.life = .evicting then .next retry
  else if c.life = .sealed then .next (fail 1)
  else if c.life = .frozen then .next (fail 2)
  else if !c.runs h.asid then .next (fail 8)
  else
    match c.named (.capsule (capEntry h)) with
    | none => .next (fail 4)
    | some e =>
      match (List.finRange 2).find? (fun k => c.slots[k].st == .free) with
      | none => .next retry
      | some k =>
        if c.hdl[e].pend ≥ 65535 then .next retry
        else
          let s := s.capTaken m
          .next (s.setCore place ((s.core place).land k e m s.now))

/-- A retry reply reaches the sending router (R409): the capsule is sent again after 1 µs, up to the retry limit, at
which it is undeliverable with code 3 (R459). A capsule whose copy went when it left the chip, since no router of another chip says that
it has taken one, is kept again (log entry 120). -/
def execCapsuleRetryReply (m : Capsule) (s : State) : Host.Outcome State Fault Refusal :=
  let p := m.sender
  let c := s.core p
  let m' := { m with rtry := m.rtry + 1 }
  let g : EgCap := { cap := m', sent := true }
  match c.egress.findIdx? (fun g => g.sent && g.cap == m) with
  | none =>
    if chipOf (capPlace m.hdr) = s.chip ∨ !s.isCore p ∨ s.tornDown m.hdr.asid then .next s
    else if m.rtry + 1 ≥ 1024 then .next (s.undeliverable p m 3)
    else .next ((s.setCore p { c with egress := c.egress ++ [g] }).after us (.capsuleRetryResend m'))
  | some i =>
    if m.rtry + 1 ≥ 1024 then .next ((s.setCore p { c with egress := c.egress.eraseIdx i }).undeliverable p m 3)
    else .next ((s.setCore p { c with egress := c.egress.set i g }).after us (.capsuleRetryResend m'))

/-- The kept capsule is sent again (R409). -/
def execCapsuleRetryResend (m : Capsule) (s : State) : Host.Outcome State Fault Refusal :=
  if (s.core m.sender).egress.any (fun g => g.sent && g.cap == m) then
    .next (s.resend m.sender 0 (capPlace m.hdr) 0 m.hdr.asid (.capsule m))
  else .next s

/-- The oldest capsule in the egress buffer that has not been sent is injected (R408). A step place that names no core
is found here (R20). A torn down ASID's capsule is discarded (R424). -/
def execCapsuleEgressSend (place : Nat) (s : State) : Host.Outcome State Fault Refusal :=
  let c := s.core place
  match (c.egress.take 2).findIdx? (fun g => !g.sent) with
  | none => .next s
  | some i =>
    match c.egress[i]? with
    | none => .next s
    | some g =>
      let h := g.cap.hdr
      let gone : State := s.setCore place { c with egress := c.egress.eraseIdx i }
      if s.tornDown h.asid then .next gone
      else if coreOf (capPlace h) ≥ 192 then .next (gone.undeliverable place g.cap 5)
      else
        let t := s.setCore place { c with egress := c.egress.set i { g with sent := true } }
        .next (t.send place 0 (capPlace h) 0 h.asid (.capsule g.cap))

end Sys2Proof.Machine
end

