-- ==== Sys2Proof/Machine/Fill.lean ====
section
/-! DEFINITION. Demand-fill windows (R304 to R309): which units an access touches, and the fills in progress. -/

namespace Sys2Proof.Machine

open Sys2Proof

/-- Units of 512 bytes of an active window that `n` bytes of SP from `a` overlap. -/
def FillWin.units_ (w : FillWin) (a n : Nat) : List Nat :=
  if w.active = true ∧ 0 < n then
    (List.range w.units).filter (fun u => w.base + 512 * u < a + n && a < w.base + 512 * u + 512)
  else []

/-- The absent units that `n` bytes of SP from `a` touch, with their windows. -/
def Core.absent (c : Core) (a n : Nat) : List (Nat × Nat) :=
  (List.finRange 4).flatMap (fun w =>
    let x := c.fills[w]
    ((x.units_ a n).filter (fun u => !x.present.contains u)).map (fun u => (w.val, u)))

def shapeLen : Shape → Nat
  | .whole => 512
  | .row => 32
  | .col => 16

/-- The SP bytes of a `vld` or `vst`, which touch demand-fill windows (R306, R363). -/
def vecTouch (x : Cmd) : Option (Nat × Nat) :=
  match x.op with
  | .vld _ _ .sp sl | .vst _ _ .sp sl => some ((v1 x.vals).toNat, 4 * shapeLen sl.shape)
  | _ => none

/-- Whether a command of the vector engine touches an absent unit. -/
def Core.vecTouches (c : Core) (x : Cmd) : Bool :=
  match vecTouch x with
  | some (a, n) => !(c.absent a n).isEmpty
  | none => false

/-- The fill in progress of a unit. -/
def Core.fillOf (c : Core) (w u : Nat) : Option Fill := c.filling.find? (fun f => f.win == w && f.unit == u)

def Core.setFill (c : Core) (f : Fill) : Core :=
  { c with filling := c.filling.map (fun g => if g.win = f.win ∧ g.unit = f.unit then f else g) }

def Core.dropFill (c : Core) (w u : Nat) : Core :=
  { c with filling := c.filling.filter (fun g => !(g.win == w && g.unit == u)) }

/-- Starts a fill of a unit that is not being filled, while a fill context is free (R306). -/
def Core.startFill (c : Core) (w u : Nat) (cmd : Cmd) (b : FillBy) : Core :=
  if (c.fillOf w u).isSome ∨ c.filling.length ≥ 4 then c
  else { c with filling := c.filling ++ [{ win := w, unit := u, cmd := cmd, by_ := b }] }

/-- A unit's fill context number among copy requests: those of transfers are 0 to 31. -/
def fillCtx (w u : Nat) : Nat := 32 + 64 * w + u

end Sys2Proof.Machine
end

