-- ==== Sys2Proof/Machine/Memory.lean ====
section
/-! DEFINITION. Global memory (06, 09): HBM behind its region controllers and keys, the slices' lines and kept
translations, the page-table walk, and reads and writes at a location's coherence point. -/

namespace Sys2Proof.Machine

open Sys2Proof

/-! ## HBM (R204, R342, R343, R503) -/

/-- The controller that owns a physical address. -/
def stackOf (pa : Nat) : Nat := pa / 2 ^ 36

/-- The key pair in the slot of an ASID, by its number. None where the slot holds no key. -/
def State.keyOf (s : State) (stack : Nat) (asid : Nat) : Option Nat := mget ((s.ctl stack).keys.map (fun x => (x.1, some x.2))) asid none

/-- The key pair in the device slot of the controller that owns a physical address (R342, R490). -/
def State.devKey (s : State) (pa : Nat) : Nat := (s.ctl (stackOf pa)).dev

/-- The 64 bytes of a line, read under a key. A line that nothing has written is under no key. -/
def State.readLine (s : State) (line key : Nat) : List Byte :=
  let b := s.hbm.readN (64 * line) 64
  match mget (s.hbmKeys.map (fun x => (x.1, some x.2))) line none with
  | none => b
  | some k => if k = key then b else (List.range 64).map (fun i => Config.wrongKeyByte k key line b i)

def State.unitBad (s : State) (line : Nat) : Bool := (s.ctl (stackOf (64 * line))).bad.contains line

/-- A line is stored whole under a key, which clears its error. -/
def State.writeLine (s : State) (line key : Nat) (b : List Byte) : State :=
  let k := stackOf (64 * line)
  let c := s.ctl k
  { s with hbm := s.hbm.write (64 * line) b, hbmKeys := mset s.hbmKeys line key
           ctls := if c.bad.contains line then mset s.ctls k { c with bad := c.bad.filter (· != line) } else s.ctls }

/-- The lines that `n` bytes from an address touch. -/
def linesOf (a n : Nat) : List Nat := if n = 0 then [] else upto (a / 64) ((a + n - 1) / 64 - a / 64 + 1)

/-- `n` bytes at a physical address, read under a key. -/
def State.readPhys (s : State) (pa n key : Nat) : List Byte :=
  (((linesOf pa n).flatMap (fun l => s.readLine l key)).drop (pa % 64)).take n

def State.physBad (s : State) (pa n : Nat) : Bool := (linesOf pa n).any s.unitBad

/-- A line with bytes put in from an offset. -/
def patch (old : List Byte) (off : Nat) (b : List Byte) : List Byte := old.take off ++ b ++ old.drop (off + b.length)

/-- Bytes written at a physical address under a key, within one line. A unit in error stays so unless it is written
whole. -/
def State.writeIn (s : State) (pa key : Nat) (b : List Byte) : State :=
  let l := pa / 64
  let t := s.writeLine l key (patch (s.readLine l key) (pa % 64) b)
  if b.length = 64 then t
  else if s.unitBad l then
    let k := stackOf pa
    t.setCtl k { t.ctl k with bad := l :: (t.ctl k).bad }
  else t

/-- Bytes written at a physical address under a key. -/
def State.writePhys (s : State) (pa key : Nat) (b : List Byte) : State :=
  (linesOf pa b.length).foldl (fun s l =>
    let lo := max pa (64 * l)
    let hi := min (pa + b.length) (64 * l + 64)
    s.writeIn lo key ((b.drop (lo - pa)).take (hi - lo))) s

/-- An entry of a table, read by a walker under the device slot. -/
def State.readEntry (s : State) (pa : Nat) : Nat := leNat (s.readPhys pa 8 (s.devKey pa))

/-- An error that a controller or a slice finds (Tables 14.8, 14.11). The ASID is 0 where the access is made under the device key
slot: a walker's, or one through a leaf with `uc` 1 (R342, R502). -/
def State.memError (s : State) (slice : Option Nat) (asid va pa : Nat) (f : Finder := {}) : State :=
  match slice with
  | some h => s.foundError { bank := 16 * (h / 32) + 7, uncorrectable := true, rcd := bankRecord 11 h asid va 1 (pa / 64 * 64) f }
  | none =>
    let k := stackOf pa
    s.foundError { bank := 16 * (k / 2) + 5 + k % 2, uncorrectable := true,
                   rcd := bankRecord 4 (s.ctlName k) asid va 1 (pa / 64 * 64) f }

/-! ## Counting (R97, R322, R323) -/

/-- A write that has been performed is reported to the controller that owns its physical address, when a mark covers any
of its bytes. -/
def State.counted (s : State) (pa n : Nat) : State :=
  let k := stackOf pa
  let l := (s.ctl k).marks.filter (fun m => m.lo < pa + n && pa < m.hi)
  if l.isEmpty then s else s.post (.countReport k pa { n := n, arms := l.map (fun m => (m.home, m.arm)) })

/-! ## The walk (R206 to R211) -/

/-- The index bits of a level. -/
def tableIndex (va lvl : Nat) : Nat := va / 2 ^ (52 - 9 * lvl) % 512

def entPa (e : Nat) : Nat := bits e 51 12 * 4096

/-- log2 of a leaf's page size. -/
def pageLog (sz : Nat) : Nat := if sz = 0 then 16 else if sz = 1 then 21 else 30

/-- A valid table pointer or context entry that is malformed (R210). -/
def badPointer (e : Nat) : Bool := bits e 63 52 != 0 || bit e 11 || bits e 10 2 != 0 || entPa e ≥ 2 ^ 39

/-- A valid leaf that is malformed at its level. -/
def badLeaf (e lvl : Nat) : Bool :=
  let sz := bits e 3 2
  bits e 63 52 != 0 || bit e 11 || bit e 7 || lvl ≤ 2 || sz == 3 || (lvl == 3) != (sz == 2) || entPa e ≥ 2 ^ 39 ||
    entPa e % 2 ^ pageLog sz != 0

/-- A leaf word met at a level; a member of a group stands for its head (R209). -/
def State.atLeaf (s : State) (lvl e pa idx : Nat) : Walked :=
  let sz := bits e 3 2
  if (sz = 1 ∧ lvl = 4 ∨ sz = 2 ∧ lvl = 3) ∧ idx % 32 ≠ 0 then
    let hp := pa - 8 * (idx % 32)
    if s.physBad hp 8 then .error hp
    else
      let h := s.readEntry hp
      if !bit h 0 || !bit h 1 || bits h 3 2 != sz || badLeaf h lvl then .malformed lvl h else .leaf lvl h hp
  else if badLeaf e lvl then .malformed lvl e
  else .leaf lvl e pa

/-- One step of a walk of an address: the next entry is read (R211). -/
def State.walkStep (s : State) (asid va : Nat) : WalkAt → WalkAt
  | .context =>
    let pa := 8 * asid
    if s.physBad pa 8 then .over (.error pa)
    else
      let ce := s.readEntry pa
      if !bit ce 0 then .over (.noContext ce)
      else if badPointer ce ∨ bit ce 1 then .over (.malformed 0 ce)
      else .table 1 (entPa ce)
  | .table lvl t =>
    let idx := tableIndex va lvl
    let pa := t + 8 * idx
    if s.physBad pa 8 then .over (.error pa)
    else
      let e := s.readEntry pa
      if !bit e 0 then .over (.invalid lvl e (bit e 1))
      else if bit e 1 then .over (s.atLeaf lvl e pa idx)
      else if lvl = 4 ∨ badPointer e then .over (.malformed lvl e)
      else .table (lvl + 1) (entPa e)
  | .over w => .over w

/-- What a walk comes to, in at most `n` steps from where it stands. -/
def State.walkFrom (s : State) (asid va : Nat) : Nat → WalkAt → Walked
  | _, .over w => w
  | 0, _ => .malformed 4 0
  | n + 1, x => s.walkFrom asid va n (s.walkStep asid va x)

/-- A walk of an address from the context entry of its ASID: five entries at most. -/
def State.walk (s : State) (asid va : Nat) : Walked := s.walkFrom asid va 5 .context

/-- What a translation gives: where the byte is, and the leaf; a fault with its cause, level and entry; an error; or a refusal by a
controller that holds no key for the ASID (R343, R479). -/
inductive Xlate where
  | ok (pa : Nat) (ent : Nat)
  | fault (cause lvl ent : Nat)
  | error (pa : Nat)
  | nokey (stack : Nat)
  deriving DecidableEq, Repr

/-- The checks on a leaf, in the order of R211. -/
def leafFault (ent : Nat) (write store : Bool) : Option Nat :=
  if bit ent 8 then some 4
  else if bit ent 9 && store then some 5
  else if write && !bit ent 4 then some 2
  else none

/-- The physical address of a byte under a leaf. -/
def leafPa (ent va : Nat) : Nat := entPa ent + va % 2 ^ pageLog (bits ent 3 2)

/-- The leaf with its accessed bit, and its dirty bit for a write. -/
def touch (ent : Nat) (write : Bool) : Nat :=
  let e := if bit ent 5 then ent else ent + 2 ^ 5
  if write && !bit e 6 then e + 2 ^ 6 else e

/-- The kept translation of a page (R212). -/
def SliceSt.keptFor (x : SliceSt) (asid va : Nat) : Option Kept :=
  x.kept.find? (fun k => k.asid == asid && k.va == va / 2 ^ k.lg)

/-- What an access makes of a walk's end: the leaf's bits are set by a `cas` on its entry, and the translation is kept by the
slice. None where the `cas` fails, since the entry has been written after the walk read it (R211, R226). -/
def State.keepLeaf (s : State) (h asid va : Nat) (write store : Bool) : Walked → Option (State × Xlate)
  | .error pa => some (s, .error pa)
  | .noContext _ => some (s, .fault 6 0 0)
  | .invalid lvl e fail => some (s, .fault (if fail then 7 else 1) lvl e)
  | .malformed lvl e => some (s, .fault 3 lvl e)
  | .leaf lvl e pa =>
    match leafFault e write store with
    | some c => some (s, .fault c lvl e)
    | none =>
      let n := touch e write
      if n ≠ e ∧ s.readEntry pa ≠ e then none
      else
        let s := if n = e then s else s.writePhys pa (s.devKey pa) (leBytes 8 n)
        let lg := pageLog (bits e 3 2)
        let k : Kept := { asid := asid, va := va / 2 ^ lg, lg := lg, ent := n, at_ := pa }
        let x := s.slice h
        some (s.setSlice h { x with kept := k :: x.kept.filter (fun y => !(y.asid == asid && y.va == va / 2 ^ y.lg)) },
          .ok (leafPa n va) n)

/-- Where a slice's walk of an address stands. -/
def SliceSt.walkAt (x : SliceSt) (asid va : Nat) : WalkAt :=
  match x.walking with
  | some w => if w.asid = asid ∧ w.va = va then w.at_ else .context
  | none => .context

/-- A walk for an access. One that the slice has under way for the address goes on from where it stands; where the `cas` on the
entry that it read fails, it restarts at the context entry (R211). -/
def State.walkKeep (s : State) (h asid va : Nat) (write store : Bool) : State × Xlate :=
  let x := s.slice h
  let s := s.setSlice h { x with walking := none }
  match s.keepLeaf h asid va write store (s.walkFrom asid va 5 (x.walkAt asid va)) with
  | some r => r
  | none => (s.keepLeaf h asid va write store (s.walk asid va)).getD (s, .fault 3 0 0)

/-- The translation that a slice uses for an access (R211, R212): the kept one, whose `d` it first sets for a write by a
`cas` on the entry; else a walk. Where that `cas` fails, a walk gives the translation to keep; one that faults leaves the kept
one as it is. An ASID whose slots hold no key is refused before its context entry is read (R343, R479). DESIGN CHOICE: by the controller
that owns that entry, since no other is known. -/
def State.translate (s : State) (h asid va : Nat) (write store : Bool) : State × Xlate :=
  match (s.slice h).keptFor asid va with
  | none => if (s.keyOf (stackOf (8 * asid)) asid).isNone then (s, .nokey (stackOf (8 * asid))) else s.walkKeep h asid va write store
  | some k =>
    match leafFault k.ent write store with
    | some c => (s, .fault c (if k.lg = 30 then 3 else 4) k.ent)
    | none =>
      if touch k.ent write = k.ent then (s, .ok (leafPa k.ent va) k.ent)
      else if s.readEntry k.at_ = k.ent then
        let n := touch k.ent write
        let s := s.writePhys k.at_ (s.devKey k.at_) (leBytes 8 n)
        let x := s.slice h
        (s.setSlice h { x with kept := x.kept.map (fun y => if y = k then { y with ent := n } else y) }, .ok (leafPa n va) n)
      else s.walkKeep h asid va write store

/-- Whether a leaf's page is uncached, and whether it is poisoned. -/
def leafUc (ent : Nat) : Bool := bit ent 10

def leafPois (ent : Nat) : Bool := bit ent 9

/-! ## Lines (R202, R203) -/

/-- What the coherence point answers. -/
inductive Mem2 where
  | bytes (b : List Byte)
  | error
  | nokey
  deriving DecidableEq, Repr

/-- The line of a location. -/
def SliceSt.line (x : SliceSt) (asid va : Nat) : Option Line := x.lines.find? (fun l => l.asid == asid && l.va == va / 64)

def SliceSt.setLine (x : SliceSt) (l : Line) : SliceSt :=
  { x with lines := l :: x.lines.filter (fun y => !(y.asid == l.asid && y.va == l.va)) }

/-- Lines of a slice: 2 MiB of 64 bytes (Table 01.2). -/
def sliceLines : Nat := 32768

/-- A line goes back to its controller under its ASID's key. One whose slot has lost its key goes nowhere. -/
def State.writeBack (s : State) (l : Line) : State :=
  if !l.dirty then s
  else
    match s.keyOf (stackOf l.pa) l.asid with
    | none => s
    | some k =>
      let s := s.writeLine (l.pa / 64) k l.data
      if l.bad then
        let n := stackOf l.pa
        s.setCtl n { s.ctl n with bad := (l.pa / 64) :: (s.ctl n).bad }
      else s

/-- A full slice gives up a line first: one of the lowest retention priority if it holds any (R205); which of them the spec does not
say. -/
def State.makeRoom (s : State) (h : Nat) : State :=
  let x := s.slice h
  if x.lines.length < sliceLines then s
  else
    let (n, s) := s.takeFresh
    let low := x.lines.filter (·.low)
    let l := if low.isEmpty then x.lines else low
    match l[Config.victim n % l.length]? with
    | none => s
    | some y => (s.writeBack y).setSlice h { x with lines := x.lines.erase y }

/-- A line that a slice holds of a location and that lies in another frame than an access has been translated to, or is uncached there,
is written back and dropped: the access is performed under the translation (R203, Table 06.5). -/
def State.fitLine (s : State) (h asid va pa : Nat) (uc : Bool) : State :=
  match (s.slice h).line asid va with
  | none => s
  | some l =>
    if l.pa = pa / 64 * 64 ∧ uc = false then s
    else
      let s := s.writeBack l
      let x := s.slice h
      s.setSlice h { x with lines := x.lines.filter (fun y => !(y.asid == l.asid && y.va == l.va)) }

/-- The line of a location, filled from its controller where the slice does not hold it; `nt` gives it the lowest retention
priority (R205). -/
def State.fillLine (s : State) (h asid va pa : Nat) (nt : Bool := false) : State × Option Line :=
  let s := s.fitLine h asid va pa false
  match (s.slice h).line asid va with
  | some l => (s, some l)
  | none =>
    match s.keyOf (stackOf pa) asid with
    | none => (s, none)
    | some k =>
      let l : Line := { asid := asid, va := va / 64, pa := pa / 64 * 64, data := s.readLine (pa / 64) k, bad := s.unitBad (pa / 64),
                        low := nt }
      let s := s.makeRoom h
      (s.setSlice h ((s.slice h).setLine l), some l)

/-- Bytes of one line of a translated location are read at its coherence point. An error in a line the slice does not hold
is found by the controller that reads its storage, and no line is filled; an error in a line it holds, by the slice (R502). -/
def State.readAt (s : State) (h asid va pa n : Nat) (uc : Bool) (f : Finder := {}) (nt : Bool := false) : State × Mem2 :=
  if uc then
    let s := s.fitLine h asid va pa true
    if s.physBad pa n then (s.memError none 0 va pa f, .error) else (s, .bytes (s.readPhys pa n (s.devKey pa)))
  else
    let s := s.fitLine h asid va pa false
    match s.fillLine h asid va pa nt with
    | (s, none) => (s, .nokey)
    | (t, some l) =>
      if l.bad then
        match (s.slice h).line asid va with
        | some _ => (t.memError (some h) asid va pa f, .error)
        | none => (s.memError none asid va pa f, .error)
      else (t, .bytes ((l.data.drop (va % 64)).take n))

/-- Bytes of one line of a translated location are written at its coherence point, and counted (R77, R203, R323). -/
def State.writeAt (s : State) (h asid va pa : Nat) (uc : Bool) (b : List Byte) (nt : Bool := false) : State × Mem2 :=
  if uc then
    let s := s.fitLine h asid va pa true
    ((s.writePhys pa (s.devKey pa) b).counted pa b.length, .bytes [])
  else
    match s.fillLine h asid va pa nt with
    | (s, none) => (s, .nokey)
    | (s, some l) =>
      let l := { l with data := patch l.data (va % 64) b, dirty := true, bad := l.bad && b.length != 64 }
      ((s.setSlice h ((s.slice h).setLine l)).counted pa b.length, .bytes [])

/-- Where an access finds its byte (R202): a read that the slice holds the line of is served without translation; every other is
translated. -/
def State.locate (s : State) (h asid va : Nat) (write store : Bool) : State × Xlate :=
  match (s.slice h).line asid va with
  | some l => if write then s.translate h asid va write store else (s, .ok (l.pa + va % 64) 0)
  | none => s.translate h asid va write store

/-- A slice writes back its dirty lines and drops every line, kept translation and walk (R225). -/
def State.flushSlice (s : State) (h : Nat) : State :=
  let x := s.slice h
  (x.lines.foldl (fun s l => s.writeBack l) s).setSlice h { x with lines := [], kept := [], walking := none }

end Sys2Proof.Machine
end

