-- ==== Sys2Proof/Machine/LoadStore.lean ====
section
/-! DEFINITION. The load-store unit (06): loads, stores, atomics, fences, `xprobe` and `pf`; the queue and its orders;
the slices' side of an access; replies, page faults and replay. -/

namespace Sys2Proof.Machine

open Sys2Proof

/-! ## Entering the queue (R195, R213 to R217, R232) -/

/-- The parts of an access: itself if it is aligned, else its bytes (R214). -/
def partsOf (addr n : Nat) : List Part :=
  if addr % n = 0 then [{ va := addr, n := n }] else (upto addr n).map (fun a => { va := a, n := 1 })

/-- `acc` of Table 06.4. -/
def LsOp.acc : LsOp → Nat
  | .store => 1
  | .amo _ => 2
  | .cas => 3
  | _ => 0

/-- The record of a page fault (Table 06.4). -/
def pageRecord (c : Core) (p : Nat) (x : Cmd) (op : LsOp) (n va cause lvl ent slice epoch addr : Nat) : FaultRec :=
  { kind := 0x08, engine := 1, place := p, asid := c.asid, entry := x.ent, priv := x.priv, pc := x.pc, va := va
    wid := x.wid.toNat, cseq := x.seq
    detail := detail [(36, 1, cause), (37, 1, lvl), (38, 1, op.acc), (39, 1, n), (40, 8, ent), (48, 1, slice),
      (52, 4, epoch), (56, 8, addr)] }

/-- An entry of the queue for an instruction that has issued. -/
def lsEnter (s : State) (i : Issued) (e : LsEntry) : State :=
  let n := i.core.lsSeq + 1
  s.withAct { i.core with lsSeq := n, lsq := i.core.lsq ++ [{ e with cmd := { e.cmd with seq := n } }] } i.act

/-- An access to SP or to global memory at issue: range, alignment of atomics, errors of SP and addresses of 2^52 or
above are found here (R213, R216, R224, R232). An access that fails for its address has issued: a load's slot is held unfilled
(R224). DESIGN CHOICE: an unaligned access with a byte at 2^52 or above fails as a whole; an error of SP has cause 2, though Table
06.7 names only slices and controllers, and its record's address is that of the access (R230, R231). -/
def access (s : State) (i : Issued) (op : Instr) (lop : LsOp) (glob : Bool) (addr n : Nat) (sgn tagged : Bool)
    (data exp : Nat := 0) : State :=
  let seq := i.core.lsSeq + 1
  let x := { i.cmd op seq tagged with mark := 0 }
  let atom : Bool := match lop with | .amo _ | .cas => true | _ => false
  if atom = true ∧ addr % n ≠ 0 then s.rangeFault s.who i.old .a 1 seq 2 addr
  else if !glob ∧ addr + n > lsSize .sp then s.rangeFault s.who i.old .a 1 seq 1 addr
  else if glob ∧ addr + n > 2 ^ 52 then
    (s.withAct { i.core with lsSeq := seq } i.act).handlerFault s.who .a
      (pageRecord i.core s.who x lop n (addr % 2 ^ 52) 8 0 0 0xFF i.core.epoch addr)
  else if !glob ∧ lop ≠ .store ∧ i.core.isBad .sp addr n = true ∧ (i.core.absent addr n).isEmpty = true then
    (s.coreError s.who 1 addr { x.finder with cseq := seq }).consume s.who 1 i.old.ent i.old.wid.toNat seq i.pc 0 addr 2 addr
      i.old.priv
  else
    lsEnter s i { cmd := x, op := lop, glob := glob, addr := addr, n := n, sgn := sgn, data := data % 256 ^ n,
                  exp := exp % 256 ^ n, parts := partsOf addr n }

/-- The address of a load or store (R213). -/
def lsAddr (base off : Word) : Nat := (base + off).toNat

/-- Bytes of a load and whether it sign-extends. -/
def LdSize.bytes : LdSize → Nat × Bool
  | .b => (1, true) | .bu => (1, false) | .h => (2, true) | .hu => (2, false) | .w => (4, true) | .wu => (4, false)
  | .d => (8, true)

def StSize.bytes : StSize → Nat
  | .b => 1 | .h => 2 | .w => 4 | .d => 8

def AmSize.bytes : AmSize → Nat
  | .w => 4 | .d => 8

def load (s : State) (op : Instr) (glob : Bool) (d a : Reg) (z : LdSize) (o : BitVec 12) : Host.Outcome State Fault Refusal :=
  issue s { st := .a, imm := true, srcs := [a], dst := .later d glob, enters := some .lsu } (fun i =>
    let sz := LdSize.bytes z
    access s i op .load glob (lsAddr (v1 i.vals) (immediate i.hints 12 o.toNat)) sz.1 sz.2 true)

def store (s : State) (op : Instr) (glob : Bool) (b a : Reg) (z : StSize) (o : BitVec 12) : Host.Outcome State Fault Refusal :=
  issue s { st := .a, imm := true, srcs := [b, a], enters := some .lsu } (fun i =>
    access s i op .store glob (lsAddr (v2 i.vals) (immediate i.hints 12 o.toNat)) (StSize.bytes z) false false
      (v1 i.vals).toNat)

def atomic (s : State) (op : Instr) (lop : LsOp) (glob : Bool) (d : Reg) (srcs : List Reg) (z : AmSize) :
    Host.Outcome State Fault Refusal :=
  issue s { st := .a, srcs := srcs, dst := .later d glob, enters := some .lsu } (fun i =>
    access s i op lop glob (v1 i.vals).toNat (AmSize.bytes z) true true (v2 i.vals).toNat (v3 i.vals).toNat)

def execLds (d a : Reg) (z : LdSize) (o : BitVec 12) (s : State) : Host.Outcome State Fault Refusal :=
  load s (.lds d a z o) false d a z o

def execSts (b a : Reg) (z : StSize) (o : BitVec 12) (s : State) : Host.Outcome State Fault Refusal :=
  store s (.sts b a z o) false b a z o

def execLdg (d a : Reg) (z : LdSize) (o : BitVec 12) (s : State) : Host.Outcome State Fault Refusal :=
  load s (.ldg d a z o) true d a z o

def execStg (b a : Reg) (z : StSize) (o : BitVec 12) (s : State) : Host.Outcome State Fault Refusal :=
  store s (.stg b a z o) true b a z o

def execAmoAddSp (d a b : Reg) (z : AmSize) (s : State) : Host.Outcome State Fault Refusal :=
  atomic s (.amoAddSp d a b z) (.amo .add) false d [a, b] z

def execAmoAndSp (d a b : Reg) (z : AmSize) (s : State) : Host.Outcome State Fault Refusal :=
  atomic s (.amoAndSp d a b z) (.amo .and) false d [a, b] z

def execAmoOrSp (d a b : Reg) (z : AmSize) (s : State) : Host.Outcome State Fault Refusal :=
  atomic s (.amoOrSp d a b z) (.amo .or) false d [a, b] z

def execAmoXorSp (d a b : Reg) (z : AmSize) (s : State) : Host.Outcome State Fault Refusal :=
  atomic s (.amoXorSp d a b z) (.amo .xor) false d [a, b] z

def execAmoMinSp (d a b : Reg) (z : AmSize) (s : State) : Host.Outcome State Fault Refusal :=
  atomic s (.amoMinSp d a b z) (.amo .min) false d [a, b] z

def execAmoMaxSp (d a b : Reg) (z : AmSize) (s : State) : Host.Outcome State Fault Refusal :=
  atomic s (.amoMaxSp d a b z) (.amo .max) false d [a, b] z

def execAmoMinuSp (d a b : Reg) (z : AmSize) (s : State) : Host.Outcome State Fault Refusal :=
  atomic s (.amoMinuSp d a b z) (.amo .minu) false d [a, b] z

def execAmoMaxuSp (d a b : Reg) (z : AmSize) (s : State) : Host.Outcome State Fault Refusal :=
  atomic s (.amoMaxuSp d a b z) (.amo .maxu) false d [a, b] z

def execAmoSwapSp (d a b : Reg) (z : AmSize) (s : State) : Host.Outcome State Fault Refusal :=
  atomic s (.amoSwapSp d a b z) (.amo .swap) false d [a, b] z

def execCasSp (d a b c : Reg) (z : AmSize) (s : State) : Host.Outcome State Fault Refusal :=
  atomic s (.casSp d a b c z) .cas false d [a, b, c] z

def execAmoAddGlobal (d a b : Reg) (z : AmSize) (s : State) : Host.Outcome State Fault Refusal :=
  atomic s (.amoAddGlobal d a b z) (.amo .add) true d [a, b] z

def execAmoAndGlobal (d a b : Reg) (z : AmSize) (s : State) : Host.Outcome State Fault Refusal :=
  atomic s (.amoAndGlobal d a b z) (.amo .and) true d [a, b] z

def execAmoOrGlobal (d a b : Reg) (z : AmSize) (s : State) : Host.Outcome State Fault Refusal :=
  atomic s (.amoOrGlobal d a b z) (.amo .or) true d [a, b] z

def execAmoXorGlobal (d a b : Reg) (z : AmSize) (s : State) : Host.Outcome State Fault Refusal :=
  atomic s (.amoXorGlobal d a b z) (.amo .xor) true d [a, b] z

def execAmoMinGlobal (d a b : Reg) (z : AmSize) (s : State) : Host.Outcome State Fault Refusal :=
  atomic s (.amoMinGlobal d a b z) (.amo .min) true d [a, b] z

def execAmoMaxGlobal (d a b : Reg) (z : AmSize) (s : State) : Host.Outcome State Fault Refusal :=
  atomic s (.amoMaxGlobal d a b z) (.amo .max) true d [a, b] z

def execAmoMinuGlobal (d a b : Reg) (z : AmSize) (s : State) : Host.Outcome State Fault Refusal :=
  atomic s (.amoMinuGlobal d a b z) (.amo .minu) true d [a, b] z

def execAmoMaxuGlobal (d a b : Reg) (z : AmSize) (s : State) : Host.Outcome State Fault Refusal :=
  atomic s (.amoMaxuGlobal d a b z) (.amo .maxu) true d [a, b] z

def execAmoSwapGlobal (d a b : Reg) (z : AmSize) (s : State) : Host.Outcome State Fault Refusal :=
  atomic s (.amoSwapGlobal d a b z) (.amo .swap) true d [a, b] z

def execCasGlobal (d a b c : Reg) (z : AmSize) (s : State) : Host.Outcome State Fault Refusal :=
  atomic s (.casGlobal d a b c z) .cas true d [a, b, c] z

/-- `fence` holds its stream until it is performed (R91, R196); the wait is not external (R164). -/
def execFence (sc : Scope) (s : State) : Host.Outcome State Fault Refusal :=
  issue s { st := .a, enters := some .lsu, hold := some false } (fun i =>
    lsEnter s i { cmd := i.cmd (.fence sc) 0 true, op := .fence sc })

/-- The last command that has entered each queue named by a mask (R90). -/
def Core.fenceMarks (c : Core) (m : BitVec 6) : List (Nat × Nat) :=
  [(0, c.lsSeq), (1, c.cSeq), (2, c.vSeq), (3, c.mSeq), (4, c.nSeq), (5, c.kSeq)].filter (fun x => m.getLsbD x.1)

def execFenceQ (m : BitVec 6) (s : State) : Host.Outcome State Fault Refusal :=
  issue s { st := .a, enters := some .lsu, hold := some false } (fun i =>
    lsEnter s i { cmd := i.cmd (.fenceQ m) 0 true, op := .fenceQ m, marks := i.core.fenceMarks m })

/-- `xprobe` of an address of 2^52 or above has its answer at once (R219). -/
def execXprobe (d a : Reg) (o : BitVec 12) (s : State) : Host.Outcome State Fault Refusal :=
  issue s { st := .a, imm := true, srcs := [a], dst := .later d false, enters := some .lsu } (fun i =>
    let addr := lsAddr (v1 i.vals) (immediate i.hints 12 o.toNat)
    let e : LsEntry := { cmd := i.cmd (.xprobe d a o) 0 true, op := .xprobe, glob := true, addr := addr, n := 1,
                         parts := [{ va := addr % 2 ^ 52, n := 1 }] }
    let s := lsEnter s i e
    if addr ≥ 2 ^ 52 then
      (s.deliver s.who i.act.id i.tag (BitVec.ofNat 64 (5 * 2 ^ 61))).modCore s.who (fun c =>
        { c with lsq := c.lsq.filter (fun x => x.cmd.seq != c.lsSeq) })
    else s)

/-- `pf` of an address of 2^52 or above is dropped once it has entered the queue (R195, R220). -/
def execPf (a : Reg) (o : BitVec 12) (s : State) : Host.Outcome State Fault Refusal :=
  issue s { st := .a, imm := true, srcs := [a], enters := some .lsu } (fun i =>
    let addr := lsAddr (v1 i.vals) (immediate i.hints 12 o.toNat)
    if addr ≥ 2 ^ 52 then s.withAct { i.core with lsSeq := i.core.lsSeq + 1 } i.act
    else lsEnter s i { cmd := i.cmd (.pf a o) 0 false, op := .pf, glob := true, addr := addr, n := 1,
                       parts := [{ va := addr, n := 1 }] })

/-! ## When an entry may go (R82 to R86, R197, R198) -/

def LsEntry.isLoad (x : LsEntry) : Bool :=
  match x.op with | .load | .amo _ | .cas | .xprobe => true | _ => false

def LsEntry.isStore (x : LsEntry) : Bool :=
  match x.op with | .store | .amo _ | .cas => true | _ => false

def LsEntry.overlaps (x y : LsEntry) : Bool :=
  x.glob == y.glob && x.addr < y.addr + y.n && y.addr < x.addr + x.n

/-- Every part of a store has left the access stream, or an atomic has been performed. -/
def LsEntry.gone (x : LsEntry) : Bool :=
  x.parts.all (fun p => p.st == .left || p.st == .egress || p.st == .done)

/-- Every part of a global access has been translated without fault. -/
def LsEntry.known (x : LsEntry) : Bool :=
  !x.glob || x.parts.all (fun p => p.st == .translated || p.st == .left || p.st == .egress || p.st == .done)

/-- Whether two stores meet at one coherence point: a slice, or a bank of SP (R12, R77). -/
def meets (asid : Nat) (x y : LsEntry) : Bool :=
  let banks (e : LsEntry) : List Nat := (upto (e.addr / 4) ((e.addr + e.n - 1) / 4 - e.addr / 4 + 1)).map (fun w => spBank (4 * w))
  let homes (e : LsEntry) : List Nat := e.parts.map (fun p => homeSlice asid p.va)
  x.glob == y.glob && (if x.glob then (homes x).any (homes y).contains else (banks x).any (banks y).contains)

/-- Reads by other engines that count as loads of an activation and come before a store of it (R82, R306, R417, R418,
R463): the commands that entered before the store. -/
def Core.readsBefore (c : Core) (x : LsEntry) : Bool :=
  let early (y : Cmd) : Bool := y.act == x.cmd.act && y.mark < x.cmd.seq
  let reads (y : Cmd) : Bool := match y.op with | .send .. | .post .. | .recv .. | .offer .. | .adopt .. => true | _ => false
  c.nq.any (fun y => early y && reads y) || c.kq.any early || c.vq.any (fun y => early y && c.vecTouches y) || c.schedOut.any (fun y => early y.cmd && y.cmd.tag != 0 && !y.sent)

/-- An acquire of the activation that came before an access and is not complete (R96, R104). -/
def Core.acquiring (c : Core) (x : LsEntry) : Bool :=
  c.nq.any (fun y => y.act == x.cmd.act && y.mark < x.cmd.seq &&
    match y.op with | .recv .. | .offer .. | .adopt .. => true | _ => false) ||
  c.cq.any (fun y => y.act == x.cmd.act && y.mark < x.cmd.seq && match y.op with | .swRd .. => true | _ => false) ||
  c.schedOut.any (fun y => y.cmd.act == x.cmd.act && y.cmd.mark < x.cmd.seq && match y.cmd.op with | .join .. => true | _ => false)

/-- The bytes of SP that a command of another engine is yet to read for its activation, where that read counts as a load (R82, R255,
R417, R418, R463). DESIGN CHOICE: of a capsule that leaves, all the bytes that a payload may have. -/
def spRead (y : Cmd) : Option (Nat × Nat) :=
  match y.op with
  | .send .. => some ((v1 y.vals).toNat, (v2 y.vals).toNat)
  | .post .. => some ((v2 y.vals).toNat, bits (v1 y.vals).toNat 38 32)
  | .capNew .. => some ((v1 y.vals).toNat, 64)
  | .capFwd k | .capDiv _ k | .capRet k => some (slotBase k + 64, 4032)
  | .spawn .. | .gang .. | .fork .. => some ((v1 y.vals).toNat, 64)
  | _ => none

/-- Whether another engine is yet to read, for the activation and before this access, a byte of SP that the access touches: the later of
two loads of a location does not overtake the earlier (R83). -/
def Core.readElsewhere (c : Core) (x : LsEntry) : Bool :=
  let hit (y : Cmd) : Bool := y.act == x.cmd.act && decide (y.mark < x.cmd.seq) &&
    match spRead y with
    | some (a, n) => decide (a < x.addr + x.n) && decide (x.addr < a + n)
    | none => false
  !x.glob && (c.nq.any hit || c.kq.any hit || c.schedOut.any (fun y => hit y.cmd && !y.sent))

/-- Whether a load may be performed: no earlier access of the activation to one of its bytes is outstanding, by whatever engine (R83),
and no acquire before it (R96). -/
def Core.loadReady (c : Core) (x : LsEntry) : Bool :=
  !c.acquiring x && !c.readElsewhere x && c.lsq.all (fun y => y.cmd.seq ≥ x.cmd.seq || y.cmd.act != x.cmd.act || !y.op.access || y.op == .xprobe || !y.overlaps x)

/-- The latest earlier access of the activation to a byte of a part, of those that are outstanding. -/
def Core.earlier (c : Core) (x : LsEntry) (q : Part) : Option LsEntry :=
  (c.lsq.filter (fun y => y.cmd.seq < x.cmd.seq && y.cmd.act == x.cmd.act && y.op.access && y.op != .xprobe && y.glob == x.glob &&
    y.addr < q.va + q.n && q.va < y.addr + y.n)).getLast?

/-- Whether any of a store's parts that touch a part of a load is performed at a scope wider than `core`. -/
def LsEntry.seenAt (y : LsEntry) (q : Part) : Bool :=
  y.parts.any (fun z => z.va < q.va + q.n && q.va < z.va + z.n && (z.seen || z.st == .egress || z.st == .done))

/-- The bytes that a global store which has left the access stream supplies to a part that it covers, while none of them is performed
at a scope wider than `core` (R83). -/
def LsEntry.supplies (y : LsEntry) (q : Part) : Option Nat :=
  if y.op = .store ∧ y.glob = true ∧ y.gone = true ∧ y.seenAt q = false ∧ y.addr ≤ q.va ∧ q.va + q.n ≤ y.addr + y.n then
    some (y.data / 256 ^ (q.va - y.addr) % 256 ^ q.n)
  else none

/-- Whether a load sent now reaches the home slice after a store of its activation: the store has left, and the load follows it on one
path (R93). A store of a pair leaves once it has been compared (R449): it has then been seen. -/
def LsEntry.followed (y : LsEntry) (q : Part) (paired : Bool) : Bool :=
  y.op == .store && y.glob && y.gone &&
    (!paired || y.parts.all (fun z => !(z.va < q.va + q.n && q.va < z.va + z.n) || z.seen || z.st == .egress || z.st == .done))

/-- Whether an absent unit of a demand-fill window, whose fill is to read a byte of a part, has been touched by an earlier access of the
activation: that read counts as a load at the touching access (R83, R306). -/
def Core.filledBefore (c : Core) (x : LsEntry) (q : Part) : Bool :=
  let meets (l : List (Nat × Nat)) : Bool := l.any (fun t =>
    match c.fills[Fin.ofNat 4 t.1].src with
    | .glob va => decide (va + 512 * t.2 < q.va + q.n) && decide (q.va < va + 512 * t.2 + 512)
    | _ => false)
  c.lsq.any (fun y => decide (y.cmd.seq < x.cmd.seq) && y.cmd.act == x.cmd.act && !y.glob && y.op.access && meets (c.absent y.addr y.n)) ||
    c.vq.any (fun y => y.act == x.cmd.act && decide (y.mark < x.cmd.seq) &&
      match vecTouch y with
      | some (a, n) => meets (c.absent a n)
      | none => false)

/-- Where a part of a global load takes its bytes. -/
inductive LoadFrom where
  | wait
  | memory
  | store (v : Nat)
  deriving DecidableEq, Repr

/-- A load waits for an acquire before it (R96) and for earlier loads and atomics of its bytes. An earlier store that has left supplies
them until it is performed at a scope wider than `core`; after that, or where it covers them only in part, the load follows it to the
home slice (R83, R93). -/
def Core.loadFrom (c : Core) (x : LsEntry) (q : Part) : LoadFrom :=
  if c.acquiring x || c.filledBefore x q then .wait
  else
    match c.earlier x q with
    | none => .memory
    | some y =>
      match y.supplies q with
      | some v => .store v
      | none => if y.followed q c.pair.isSome then .memory else .wait

/-- Whether a store may be sent to its home slice for its translation: every earlier global access of the activation has been
translated without fault (R197). -/
def Core.mayTranslate (c : Core) (x : LsEntry) : Bool :=
  c.lsq.all (fun y => y.cmd.seq ≥ x.cmd.seq || y.cmd.act != x.cmd.act || !y.op.access || y.op == .xprobe || y.known)

/-- Whether a store may leave: every earlier load and atomic of the activation has returned, every earlier access of it
has been translated, its earlier stores have left, and so have earlier stores to the same coherence point (R82, R85,
R197, R198). -/
def Core.storeReady (c : Core) (x : LsEntry) : Bool :=
  !c.readsBefore x && !c.acquiring x &&
  c.lsq.all (fun y => y.cmd.seq ≥ x.cmd.seq ||
    if y.cmd.act = x.cmd.act then !y.isLoad && (y.op != .store || (y.gone && y.known))
    else !y.isStore || y.gone || !meets c.asid x y)

/-! ## Performing -/

/-- A load's value from its parts (R213); a probe's word is its value as it stands (R219). -/
def LsEntry.value (x : LsEntry) : Word :=
  if x.op = .xprobe then BitVec.ofNat 64 (((x.parts.head?).map (·.val)).getD 0)
  else
    let v := leNat (x.parts.flatMap (fun p => leBytes p.n p.val))
    if x.sgn then sext (8 * x.n) v else BitVec.ofNat 64 v

def Core.dropEntry (c : Core) (seq : Nat) : Core := { c with lsq := c.lsq.filter (fun x => x.cmd.seq != seq) }

def Core.setEntry (c : Core) (x : LsEntry) : Core :=
  { c with lsq := c.lsq.map (fun y => if y.cmd.seq = x.cmd.seq then x else y) }

/-- An entry whose parts are all done frees its place and gives its value (R195). -/
def State.settle (s : State) (p : Nat) (x : LsEntry) : State :=
  if x.parts.all (fun q => q.st == .done) then
    (s.modCore p (fun c => c.dropEntry x.cmd.seq)).deliver p x.cmd.act x.cmd.tag x.value
  else s.modCore p (fun c => c.setEntry x)

/-- The new value of an atomic; none when nothing is written (R216). -/
def atomicNew (op : LsOp) (n old data exp : Nat) : Option Nat :=
  let m := 8 * n
  let lt (a b : Nat) : Bool := decide (signed m a < signed m b)
  match op with
  | .amo .add => some ((old + data) % 2 ^ m)
  | .amo .and => some (old &&& data)
  | .amo .or => some (old ||| data)
  | .amo .xor => some (old ^^^ data)
  | .amo .min => some (if lt data old then data else old)
  | .amo .max => some (if lt old data then data else old)
  | .amo .minu => some (min old data)
  | .amo .maxu => some (max old data)
  | .amo .swap => some data
  | .cas => if old = exp then some data else none
  | _ => none

/-- The bytes that an access stores through one of its parts. -/
def LsEntry.dataOf (x : LsEntry) (k : Nat) : Nat := if x.parts.length = 1 then x.data else x.data / 256 ^ k % 256

/-- The part of an access that is performed next: of several, in no promised order (R102). -/
def State.nextPart (s : State) (x : LsEntry) : State × Option (Part × Nat) :=
  let l := x.parts.zipIdx.filter (fun y => y.1.st == .idle)
  if l.length ≤ 1 then (s, l.head?)
  else
    let (n, s) := s.takeFresh
    (s, l[Config.choice n % l.length]?)

/-- A part of a scratchpad access is performed at its banks (R199, R200, R214, R216). -/
def State.performSp (s : State) (p : Nat) (x : LsEntry) : State :=
  match s.nextPart x with
  | (_, none) => s
  | (s, some (q, k)) =>
    let c := s.core p
    if x.op ≠ .store ∧ c.isBad .sp q.va q.n = true then
      (s.coreError p 1 x.addr x.cmd.finder).consume p 1 x.cmd.ent x.cmd.wid.toNat x.cmd.seq x.cmd.pc 0 x.addr 2 x.addr x.cmd.priv
    else
      let old := c.sp.load q.va q.n
      let new := if x.op = .store then some (x.dataOf k) else atomicNew x.op q.n old x.data x.exp
      let c := match new with
        | some v => c.put .sp q.va (leBytes q.n v)
        | none => c
      (s.setCore p c).settle p { x with parts := x.parts.set k { q with st := .done, val := old } }

/-- The request that a part sends, by what it does next. -/
def askOf (c : Core) (p : Nat) (x : LsEntry) (k : Nat) (q : Part) (op : AccOp) : GReq :=
  { place := p, act := x.cmd.act, seq := x.cmd.seq, part := k, asid := c.asid, va := q.va, n := q.n, op := op
    data := x.dataOf k, exp := x.exp, epoch := c.epoch
    nt := x.cmd.nt }

/-- Sends a part's request to its home slice (R201). -/
def State.ask (s : State) (p : Nat) (x : LsEntry) (k : Nat) (q : Part) (op : AccOp) (st : PartSt) : State :=
  let c := s.core p
  let h := homeSlice c.asid q.va
  let s := s.send p 0 (s.sliceName h) 2 c.asid (.access h (askOf c p x k q op))
  s.modCore p (fun c => c.setEntry { x with parts := x.parts.set k { q with st := st } })

/-- What a part asks for first: a store, and an access in several parts, only its translation (R197, R214). -/
def firstAsk (x : LsEntry) : AccOp :=
  match x.op with
  | .store => .xlate true
  | .amo f => .amo f
  | .cas => .cas
  | .xprobe => .xprobe
  | .pf => .pf
  | _ => if x.parts.length = 1 then .load else .xlate false

/-- The first part in a state. -/
def LsEntry.partIn (x : LsEntry) (st : PartSt) : Option (Nat × Part) :=
  (x.parts.zipIdx.find? (fun y => y.1.st == st)).map (fun y => (y.2, y.1))

/-- A translated part leaves: a store's to be written, a load's to be read, unless an earlier store supplies it. -/
def State.sendPart (s : State) (p seq k : Nat) : State :=
  let c := s.core p
  match c.lsq.find? (fun x => x.cmd.seq == seq) with
  | none => s
  | some x =>
    match x.parts[k]? with
    | none => s
    | some q =>
      if q.st ≠ .translated then s
      else if x.op = .store then s.ask p x k q .commit .left
      else
        match c.loadFrom x q with
        | .store v => s.settle p { x with parts := x.parts.set k { q with st := .done, val := v } }
        | _ => s.ask p x k q .read .left

/-- Whether all that an entry sends has left its core. -/
def LsEntry.injected (x : LsEntry) : Bool :=
  match x.op with
  | .region => x.sent
  | .load => x.parts.all (fun q => q.st == .done || q.st == .left || (q.st == .asked && x.parts.length == 1))
  | .store => x.parts.all (fun q => q.st == .done || q.st == .left || q.st == .egress)
  | _ => x.parts.all (fun q => q.st == .done || q.st == .asked)

/-- Whether an entry may send: a core of a pair sends in queue order (R449). -/
def Core.inTurn (c : Core) (x : LsEntry) : Bool :=
  c.pair.isNone || c.lsq.all (fun y => y.cmd.seq ≥ x.cmd.seq || !(y.glob || y.op == .region) || y.injected)

/-- A global access goes one step on: a part is asked for; once every part is translated, they leave together (R214), unless an `rpl` is
under way. -/
def State.performGlobal (s : State) (p : Nat) (x : LsEntry) : State :=
  let c := s.core p
  match x.partIn .idle with
  | some (k, q) =>
    let ask := s.ask p x k q (firstAsk x) .asked
    match x.op with
    | .load =>
      if x.parts.length ≠ 1 then (if c.acquiring x then s else ask)
      else
        match c.loadFrom x q with
        | .wait => s
        | .memory => ask
        | .store v => s.settle p { x with parts := x.parts.set k { q with st := .done, val := v } }
    | .store => if c.mayTranslate x then ask else s
    | .amo _ | .cas => if c.storeReady x then ask else s
    | _ => ask
  | none =>
    if s.rpling.isEmpty && x.parts.all (fun q => q.st != .asked && q.st != .parked) &&
        (if x.op = .store then c.storeReady x else x.parts.all (fun q => q.st != .translated || c.loadFrom x q != .wait)) then
      (List.range x.parts.length).foldl (fun s k => s.sendPart p x.cmd.seq k) s
    else s

/-- Whether the commands of a queue up to a number have been performed (R90, Table 03.3). -/
def Core.performedUpTo (c : Core) (q n self : Nat) : Bool :=
  let done (l : List Cmd) : Bool := l.all (fun x => n < x.seq)
  match q with
  | 0 => c.lsq.all (fun x => n < x.cmd.seq || x.cmd.seq == self)
  | 1 => done c.cq && c.xfers.all (fun x => n < x.cmd.seq)
  | 2 => done c.vq
  | 3 => done c.mq
  | 4 => done c.nq
  | _ => done c.kq

/-- Whether a fence may complete (R90, R91, R198). -/
def Core.fenceReady (c : Core) (x : LsEntry) : Bool :=
  match x.op with
  | .fence sc => c.lsq.all (fun y => y.cmd.seq ≥ x.cmd.seq || (y.op.access && y.performed sc))
  | .fenceQ _ => x.marks.all (fun m => c.performedUpTo m.1 m.2 x.cmd.seq)
  | _ => false

/-- Whether an earlier access than another may yet park: it is being translated, or is of the same activation and yet to be. -/
def Core.mayParkBefore (c : Core) (x : LsEntry) : Bool :=
  c.lsq.any (fun y => y.cmd.seq < x.cmd.seq && y.glob && y.op.access && y.op != .xprobe &&
    y.parts.any (fun q => q.st == .asked || (q.st == .idle && y.cmd.act == x.cmd.act)))

/-- The lowest-numbered parked access whose record is still to be sent sends it, once no earlier access may park (R34, R221). -/
def State.sendPageRecord (s : State) (p : Nat) : Option State :=
  let c := s.core p
  (c.lsq.find? (fun x => x.page.isSome)).bind (fun x =>
    if c.mayParkBefore x then none
    else x.page.map (fun r => (s.setCore p (c.setEntry { x with page := none })).sendRecord r))

/-- One step of an access or fence in the queue. While a record of the unit is on its way it performs nothing (R34). An
access that touches an absent unit of a demand-fill window waits for it (R306). -/
def State.lsAccess (s : State) (p : Nat) (x : LsEntry) : State :=
  let c := s.core p
  if c.recs.any (fun e => e.1 == 1) then s
  else
    match s.sendPageRecord p with
    | some t => t
    | none =>
      match x.op with
      | .fence _ | .fenceQ _ =>
        if c.fenceReady x then (s.setCore p (c.dropEntry x.cmd.seq)).deliver p x.cmd.act x.cmd.tag 0 else s
      | _ =>
        if x.glob then (if c.inTurn x then s.performGlobal p x else s)
        else if (c.absent x.addr x.n).isEmpty = false then s
        else if x.op = .load then (if c.loadReady x then s.performSp p x else s)
        else if c.storeReady x then s.performSp p x else s

/-! ## At the slice (R202, R203, R211, R212, R219, R220) -/

/-- `xprobe`'s word (R219). -/
def probeWord (st lvl ent : Nat) : Nat := st * 2 ^ 61 + lvl * 2 ^ 58 + ent % 2 ^ 52

/-- A probe uses a kept translation, or walks without changing anything. DESIGN CHOICE: R219 gives no `st` for a walk that meets an
uncorrectable error in a table: it is answered as a load's would be, by an error of cause 2, which seals the core (R230, R232), and, since
the probe changes nothing, the controller's bank records nothing. -/
def State.probe (s : State) (h asid va : Nat) : GRes :=
  match (s.slice h).keptFor asid va with
  | some k => .data (probeWord 0 (if k.lg = 30 then 3 else 4) k.ent)
  | none =>
    match s.walk asid va with
    | .leaf lvl e _ => .data (probeWord 0 lvl e)
    | .invalid lvl e fail => .data (probeWord (if fail then 2 else 1) lvl e)
    | .malformed lvl e => .data (probeWord 3 lvl e)
    | .noContext e => .data (probeWord 4 0 e)
    | .error _ => .error 2

/-- What a slice's answer from memory gives. -/
def memRes (pa : Nat) : Mem2 → GRes
  | .bytes b => .data (leNat b)
  | .error => .error 2
  | .nokey => .nokey (stackOf pa)

/-- Whose access a request belongs to. -/
def State.finderOf (s : State) (r : GReq) : Finder :=
  match (s.core r.place).lsq.find? (fun x => x.cmd.seq == r.seq && x.cmd.act == r.act) with
  | some x => x.cmd.finder
  | none => {}

/-- A global access at its home slice: translation, then the line or the controller. -/
def State.sliceServe (s : State) (h : Nat) (r : GReq) : State × GRes :=
  let writes := match r.op with | .commit | .amo _ | .cas => true | .xlate w => w | _ => false
  let isStore := match r.op with | .commit => true | .xlate w => w | _ => false
  let fi := s.finderOf r
  match r.op with
  | .xprobe => (s, s.probe h r.asid r.va)
  | .pf =>
    match (s.slice h).keptFor r.asid r.va with
    | some k =>
      if leafUc k.ent || s.unitBad (leafPa k.ent r.va / 64) then (s, .translated)
      else ((s.fillLine h r.asid r.va (leafPa k.ent r.va) r.nt).1, .translated)
    | none => (s, .translated)
  | _ =>
    match (if r.op = .xlate false then s.translate h r.asid r.va writes isStore else s.locate h r.asid r.va writes isStore) with
    | (s, .fault c lvl e) => (s, .fault c lvl e h)
    | (s, .error pa) => (s.memError none 0 r.va pa fi, .error 2)
    | (s, .nokey k) => (s, .nokey k)
    | (s, .ok pa ent) =>
      if leafPois ent && !isStore then (s, .error 1)
      else
        match r.op with
        | .xlate _ => (s, .translated)
        | .commit =>
          match s.writeAt h r.asid r.va pa (leafUc ent) (leBytes r.n r.data) r.nt with
          | (s, .bytes _) => (s, .translated)
          | (s, m) => (s, memRes pa m)
        | .amo f =>
          match s.readAt h r.asid r.va pa r.n (leafUc ent) fi r.nt with
          | (s, .bytes b) =>
            match atomicNew (.amo f) r.n (leNat b) r.data r.exp with
            | some v => ((s.writeAt h r.asid r.va pa (leafUc ent) (leBytes r.n v) r.nt).1, .data (leNat b))
            | none => (s, .data (leNat b))
          | (s, m) => (s, memRes pa m)
        | .cas =>
          match s.readAt h r.asid r.va pa r.n (leafUc ent) fi r.nt with
          | (s, .bytes b) =>
            match atomicNew .cas r.n (leNat b) r.data r.exp with
            | some v => ((s.writeAt h r.asid r.va pa (leafUc ent) (leBytes r.n v) r.nt).1, .data (leNat b))
            | none => (s, .data (leNat b))
          | (s, m) => (s, memRes pa m)
        | _ =>
          match s.readAt h r.asid r.va pa r.n (leafUc ent) fi r.nt with
          | (s, m) => (s, memRes pa m)

/-- The registered window that grants a put of an ASID to a range (R336), with the controller that holds it. -/
def State.windowFor (s : State) (asid lo n : Nat) : Option (Win × Nat) :=
  (List.range 8).findSome? (fun k => ((s.ctl k).wins.find? (fun w =>
    w.gasid == asid && w.base ≤ lo && lo + n ≤ w.base + 64 * w.units)).map (fun w => (w, k)))

/-- A segment of a transfer or fill is translated (R293); of a window put under the owner's ASID (R336). A window put
without a window is refused when its unit is checked. -/
def State.serveSegment (s : State) (h : Nat) (r : GReq) (ctx seg : Nat) : State × XlReply :=
  let w := match r.op with | .xlate w => w | _ => false
  let a : XlReply := { place := r.place, ctx := ctx, seg := seg, epoch := r.epoch, res := .translated }
  let at_ : Option (Nat × Nat) :=
    if r.win then (s.windowFor r.asid r.va r.n).map (fun x => (homeSlice x.1.owner r.va, x.1.owner)) else some (h, r.asid)
  match at_ with
  | none => (s, a)
  | some (h, asid) =>
    match s.translate h asid r.va w w with
    | (s, .ok pa e) => (s, { a with pa := pa, uc := leafUc e, pois := leafPois e })
    | (s, .fault c lvl e) => (s, { a with res := .fault c lvl e h })
    | (s, .error pa) => (s.memError none 0 r.va pa, { a with res := .error 2 })
    | (s, .nokey k) => (s, { a with res := .nokey k })

/-- A store is performed at a scope wider than `core`, which its unit may yet have to learn (R92). -/
def Core.seePart (c : Core) (act seq part : Nat) : Core :=
  { c with lsq := c.lsq.map (fun x =>
      if x.cmd.seq = seq ∧ x.cmd.act = act then
        { x with parts := x.parts.zipIdx.map (fun y => if y.2 = part then { y.1 with seen := true } else y.1) }
      else x) }

/-- A global access, or a copy engine's request for a translation, reaches its home slice, which answers the core. -/
def execSliceAccess (h : Nat) (r : GReq) (s : State) : Host.Outcome State Fault Refusal :=
  match r.copy with
  | none =>
    let (s, res) := s.sliceServe h r
    let s := if r.op = .commit ∧ res = .translated then s.modBoth r.place (fun c => c.seePart r.act r.seq r.part) else s
    .next (s.send (s.sliceName h) 2 r.place 0 r.asid (.reply { req := r, res := res }))
  | some (ctx, seg) =>
    let (s, a) := s.serveSegment h r ctx seg
    .next (s.send (s.sliceName h) 2 r.place 0 r.asid (.xlReply a))

/-! ## Replies (R213, R221 to R224, R229, R232) -/

/-- The entry and part that a reply answers. -/
def Core.replyTo (c : Core) (r : GReq) : Option (LsEntry × Part) :=
  match c.lsq.find? (fun x => x.cmd.seq == r.seq && x.cmd.act == r.act) with
  | none => none
  | some x => (x.parts[r.part]?).map (fun q => (x, q))

/-- After an access has failed, no later access of its activation is performed (R232). -/
def Core.dropFrom (c : Core) (x : LsEntry) : Core :=
  { c with lsq := c.lsq.filter (fun y => !(y.cmd.act == x.cmd.act && x.cmd.seq ≤ y.cmd.seq)) }

/-- A controller's refusal for want of a key freezes the core with a region fault (R343, R344). -/
def State.noKey (s : State) (k p asid ent pc va : Nat) (priv : Bool) : State :=
  s.freezeCore p { kind := 0x0C, engine := 4, place := s.ctlName k, skind := 1, asid := asid, entry := ent, priv := priv
                   pc := pc, detail := detail [(36, 1, 10), (48, 3, p), (56, 8, va)] }

/-- A part is sent again as at first (R223, R225). -/
def State.again (s : State) (p seq k : Nat) : State :=
  match (s.core p).lsq.find? (fun x => x.cmd.seq == seq) with
  | none => s
  | some x =>
    match x.parts[k]? with
    | none => s
    | some q => s.ask p x k q (firstAsk x) .asked

/-- A reply to a load, atomic, probe, prefetch or translation. A translation made before an `rpl` is made again (R223, R226). DESIGN
CHOICE: the record of an error names the address of the access, of which it may be one byte (R214, R231). -/
def execGlobalReply (r : GReply) (s : State) : Host.Outcome State Fault Refusal :=
  let p := r.req.place
  let c := s.core p
  match c.replyTo r.req with
  | none => .next s
  | some (x, q) =>
    let put (y : Part) : LsEntry := { x with parts := x.parts.set r.req.part y }
    match r.res with
    | .data v => .next (s.settle p (put { q with st := .done, val := v }))
    | .translated =>
      if q.st = .asked then
        match x.op with
        | .store | .load =>
          if r.req.epoch ≠ c.epoch then .next (s.again p x.cmd.seq r.req.part)
          else .next (s.setCore p (c.setEntry (put { q with st := .translated })))
        | _ => .next (s.settle p (put { q with st := .done }))
      else .next s
    | .error k =>
      .next ((s.modCore p (fun c => c.dropFrom x)).consume p 1 x.cmd.ent x.cmd.wid.toNat x.cmd.seq x.cmd.pc 0 x.addr k x.addr
        x.cmd.priv)
    | .nokey k => .next ((s.setCore p (c.dropFrom x)).noKey k p c.asid x.cmd.ent x.cmd.pc q.va x.cmd.priv)
    | .fault .. => .next s

/-- The home slice acknowledges a store that it has performed (R92). -/
def execStoreAck (r : GReply) (s : State) : Host.Outcome State Fault Refusal :=
  let p := r.req.place
  match (s.core p).replyTo r.req with
  | none => .next s
  | some (x, q) =>
    if q.st = .left ∨ q.st = .egress then
      .next (s.settle p { x with parts := x.parts.set r.req.part { q with st := .done } })
    else .next s

/-- The issuing die's egress queue has accepted a store (R92). -/
def execEgressQueueAcceptanceReport (place act seq part : Nat) (s : State) : Host.Outcome State Fault Refusal :=
  match (s.core place).lsq.find? (fun x => x.cmd.seq == seq && x.cmd.act == act) with
  | none => .next s
  | some x =>
    match x.parts[part]? with
    | none => .next s
    | some q =>
      if q.st = .left ∧ x.op = .store then
        .next (s.modCore place (fun c => c.setEntry { x with parts := x.parts.set part { q with st := .egress } }))
      else .next s

/-- A fault reply (R221 to R224): sent again at once where its epoch is stale; a failed access freezes the core; else the
access parks and its record is to be sent. -/
def execPageFaultReply (r : GReply) (s : State) : Host.Outcome State Fault Refusal :=
  let p := r.req.place
  let c := s.core p
  match c.replyTo r.req, r.res with
  | some (x, q), .fault cause lvl ent slice =>
    if r.req.epoch ≠ c.epoch then .next (s.again p x.cmd.seq r.req.part)
    else
      let f := pageRecord c p x.cmd x.op x.n x.addr cause lvl ent slice r.req.epoch 0
      if cause ≥ 7 then .next (((s.setCore p (c.dropFrom x)).stopStreams p [.a, .e]).freeze f)
      else
        let first := x.parts.all (fun y => y.st != .parked)
        let y := { x with parts := x.parts.set r.req.part { q with st := .parked }
                          page := if first then some { f with reply := true } else x.page }
        .next (s.setCore p (c.setEntry y))
  | _, _ => .next s

/-! ## Replay (R225) -/

/-- A part that has been translated and has not left is translated anew. -/
def Part.unlocated (q : Part) : Part := if q.st = .translated then { q with st := .idle } else q

/-- Every parked access of a core is sent again, in order; a record that one has yet to send is not sent. What has been translated
and has not left is to be translated anew, since no slice keeps its translation any longer (R225, R226). -/
def State.resendParked (s : State) (p : Nat) : State :=
  let s := s.modCore p (fun c => { c with lsq := c.lsq.map (fun x => { x with page := none, parts := x.parts.map Part.unlocated }) })
  ((s.core p).lsq.flatMap (fun x => (x.parts.zipIdx.filter (fun y => y.1.st == .parked)).map (fun y => (x.cmd.seq, y.2)))).foldl
    (fun s y => s.again p y.1 y.2) s

/-- A core's unit raises its epoch and sends every parked access again. -/
def State.replayCore (s : State) (p : Nat) : State :=
  (s.modCore p (fun c =>
    { c with epoch := (c.epoch + 1) % 2 ^ 32, cEpoch := (c.cEpoch + 1) % 2 ^ 32 })).resendParked p

end Sys2Proof.Machine
end

