-- ==== Sys2Proof/Machine/Num.lean ====
section
/-! DEFINITION. Number formats and self-describing blocks (02): exact values, rounding and saturation, conversions,
elementary functions, blocks and their elements, packing, and the sums of the matrix unit. -/

namespace Sys2Proof.Machine

open Sys2Proof

/-! ## Exact values -/

/-- An exact value: NaN, an infinity, or plus or minus `m` times 2 to the power `e`; zero has a sign. -/
inductive Val where
  | nan
  | inf (neg : Bool)
  | fin (neg : Bool) (m : Nat) (e : Int)
  deriving DecidableEq, Repr

def Val.ofInt (v : Int) : Val := .fin (decide (v < 0)) v.natAbs 0

def Val.isNan : Val → Bool
  | .nan => true
  | _ => false

def Val.isZero : Val → Bool
  | .fin _ m _ => m == 0
  | _ => false

def Val.neg : Val → Val
  | .nan => .nan
  | .inf n => .inf !n
  | .fin n m e => .fin (!n) m e

/-- A value times a power of 2. -/
def Val.scale (v : Val) (k : Int) : Val :=
  match v with
  | .fin n m e => .fin n m (e + k)
  | x => x

/-- The signed integer that a finite value is at an exponent not above its own. -/
def atExp (n : Bool) (m : Nat) (e q : Int) : Int :=
  let z : Int := (m * 2 ^ (e - q).toNat : Nat)
  if n then -z else z

/-- The exact sum; an exact zero is negative only where both operands are. -/
def Val.add : Val → Val → Val
  | .nan, _ => .nan
  | _, .nan => .nan
  | .inf n, .inf k => if n = k then .inf n else .nan
  | .inf n, _ => .inf n
  | _, .inf n => .inf n
  | .fin n m e, .fin k l f =>
    let q := min e f
    let z := atExp n m e q + atExp k l f q
    if z = 0 then .fin (n && k) 0 0 else .fin (decide (z < 0)) z.natAbs q

/-- The exact product. -/
def Val.mul : Val → Val → Val
  | .nan, _ => .nan
  | _, .nan => .nan
  | .inf n, .inf k => .inf (n != k)
  | .inf n, .fin k m _ => if m = 0 then .nan else .inf (n != k)
  | .fin k m _, .inf n => if m = 0 then .nan else .inf (n != k)
  | .fin n m e, .fin k l f => .fin (n != k) (m * l) (e + f)

/-! ## Formats and rounding (R42 to R44, R60, R62, Tables 02.1, 02.2) -/

/-- A binary format with infinities: its widths and bias. -/
structure Fmt where
  eb : Nat
  fb : Nat
  bias : Nat
  deriving DecidableEq, Repr

def fp32 : Fmt := { eb := 8, fb := 23, bias := 127 }

def bf16 : Fmt := { eb := 8, fb := 7, bias := 127 }

def e5m2 : Fmt := { eb := 5, fb := 2, bias := 15 }

/-- E4M3 and E2M1 have no infinities: their codes with the highest exponent are finite. -/
def e4m3 : Fmt := { eb := 4, fb := 3, bias := 7 }

def e2m1 : Fmt := { eb := 2, fb := 1, bias := 1 }

/-- The weight of the least significant bit of a subnormal, as a power of 2. -/
def Fmt.qmin (f : Fmt) : Int := 1 - f.bias - f.fb

def Fmt.sign (f : Fmt) : Nat := 2 ^ (f.eb + f.fb)

/-- The code of infinity, sign bit apart; in a format without infinities, the first code past the highest exponent but
one. -/
def Fmt.infCode (f : Fmt) : Nat := (2 ^ f.eb - 1) * 2 ^ f.fb

def Fmt.nanCode (f : Fmt) : Nat := f.infCode + 2 ^ (f.fb - 1)

/-- The finite value of a code. -/
def Fmt.finite (f : Fmt) (code : Nat) : Val :=
  let n := code / f.sign % 2 == 1
  let x := code / 2 ^ f.fb % 2 ^ f.eb
  let m := code % 2 ^ f.fb
  if x = 0 then .fin n m f.qmin else .fin n (m + 2 ^ f.fb) (f.qmin + x - 1)

/-- The value of a code of a format with infinities. -/
def Fmt.value (f : Fmt) (code : Nat) : Val :=
  let mag := code % f.sign
  if mag < f.infCode then f.finite code
  else if mag = f.infCode then .inf (code / f.sign % 2 == 1)
  else .nan

/-- `m` divided by 2 to the power `d`, rounded: to nearest with ties to even, or toward zero. -/
def shiftRound (toZero : Bool) (m d : Nat) : Nat :=
  let t := m / 2 ^ d
  let r := m % 2 ^ d
  if toZero || d = 0 then t
  else if 2 ^ (d - 1) < r ∨ (r = 2 ^ (d - 1) ∧ t % 2 = 1) then t + 1
  else t

/-- `m` times 2 to the power `e`, as a multiple of 2 to the power `q`, rounded. -/
def toUnits (toZero : Bool) (m : Nat) (e q : Int) : Nat :=
  if q ≤ e then m * 2 ^ (e - q).toNat else shiftRound toZero m (q - e).toNat

/-- The magnitude code of a finite value rounded to a format with no bound on its exponent. -/
def Fmt.code (f : Fmt) (toZero : Bool) (m : Nat) (e : Int) : Nat :=
  if m = 0 then 0
  else
    let q := max (e + Nat.log2 m - f.fb) f.qmin
    (q - f.qmin).toNat * 2 ^ f.fb + toUnits toZero m e q

/-- A value rounded once to a format with infinities (R60, R62). -/
def Fmt.round (f : Fmt) (toZero sat : Bool) : Val → Nat
  | .nan => f.nanCode
  | .inf n => (if n then f.sign else 0) + (if sat then f.infCode - 1 else f.infCode)
  | .fin n m e =>
    let c := f.code toZero m e
    (if n then f.sign else 0) + (if c < f.infCode then c else if sat || toZero then f.infCode - 1 else f.infCode)

/-- The FP32 value of a lane. -/
def laneVal (x : Lane) : Val := fp32.value x.toNat

def toLane (toZero sat : Bool) (v : Val) : Lane := BitVec.ofNat 32 (fp32.round toZero sat v)

def nanLane : Lane := 0x7FC00000

/-- A finite value rounded to an integer. -/
def roundInt (toZero : Bool) (n : Bool) (m : Nat) (e : Int) : Int :=
  let z : Int := (toUnits toZero m e 0 : Nat)
  if n then -z else z

/-- Conversion to an integer: saturated, NaN gives 0 (Table 02.8). -/
def Val.toInt (v : Val) (toZero : Bool) (lo hi : Int) : Int :=
  match v with
  | .nan => 0
  | .inf n => if n then lo else hi
  | .fin n m e => max lo (min hi (roundInt toZero n m e))

/-! ## Order (R43, R74) -/

/-- A number that orders codes of a lane that are not NaN, zeros equal. -/
def orderKey (x : Lane) : Int :=
  let m : Int := (x.toNat % 2 ^ 31 : Nat)
  if x.msb then -m else m

/-- The same, with −0 below +0. -/
def strictKey (x : Lane) : Int := if x.msb then orderKey x - 1 else orderKey x

def laneNan (x : Lane) : Bool := (laneVal x).isNan

def laneMax (a b : Lane) : Lane :=
  if laneNan a || laneNan b then nanLane else if strictKey a < strictKey b then b else a

def laneMin (a b : Lane) : Lane :=
  if laneNan a || laneNan b then nanLane else if strictKey b < strictKey a then b else a

/-- An ordered comparison of lanes: it does not hold with a NaN. -/
def laneCmp (f : Int → Int → Bool) (a b : Lane) : Bool := !laneNan a && !laneNan b && f (orderKey a) (orderKey b)

/-- What a comparison writes. -/
def maskLane (b : Bool) : Lane := if b then 0xFFFFFFFF else 0

/-! ## Elementary functions (R355, Table 10.3)

Each is computed exactly, or to 320 binary places with a last bit that stands for the rest, and then rounded once. -/

/-- Binary places of the fixed-point values below. -/
def places : Nat := 320

/-- A positive value just above `x`, in units of `places`: `x` with one more bit, which is 1. -/
def inexact (neg : Bool) (x : Nat) (k : Int) : Val := .fin neg (2 * x + 1) (k - places - 1)

/-- 2 artanh(p / q) in units of `places`, for a quotient of at most 1/3. -/
def artanh2 (p q : Nat) : Nat :=
  let step (acc : Nat × Nat) (k : Nat) : Nat × Nat :=
    (acc.1 + acc.2 / (2 * k + 1), acc.2 * (p * p) / (q * q))
  2 * ((List.range 110).foldl step (0, p * 2 ^ places / q)).1

/-- The natural logarithm of 2. -/
def ln2 : Nat := artanh2 1 3

/-- 2 to the power of a fraction, in units of `places`. -/
def exp2Frac (f : Nat) : Nat :=
  let y := f * ln2 / 2 ^ places
  let step (acc : Nat × Nat) (k : Nat) : Nat × Nat := (acc.1 + acc.2, acc.2 * y / 2 ^ places / (k + 1))
  ((List.range 90).foldl step (0, 2 ^ places)).1

def Val.exp2 : Val → Val
  | .nan => .nan
  | .inf n => if n then .fin false 0 0 else .inf false
  | .fin n m e =>
    if m = 0 then .fin false 1 0
    else if 0 ≤ e + Nat.log2 m - 9 then (if n then .fin false 1 (-1000) else .fin false 1 1000)
    else
      let z := atExp n m (e + places) 0
      let w := z / (2 ^ places : Nat)
      let f := (z % (2 ^ places : Nat)).toNat
      if f = 0 then .fin false 1 w else inexact false (exp2Frac f) w

def Val.log2 : Val → Val
  | .nan => .nan
  | .inf n => if n then .nan else .inf false
  | .fin n m e =>
    if m = 0 then .inf true
    else if n then .nan
    else
      let l := Nat.log2 m
      let w : Int := e + l
      if m = 2 ^ l then .ofInt w
      else
        let x := artanh2 (m - 2 ^ l) (m + 2 ^ l) * 2 ^ places / ln2
        let z : Int := w * (2 ^ places : Nat) + x
        if z < 0 then .fin true (2 * (z.natAbs - 1) + 1) (-places - 1) else .fin false (2 * z.natAbs + 1) (-places - 1)

/-- The largest number whose square is at most `n`, for roots of at most `k` bits. -/
def isqrt (n : Nat) : Nat → Nat → Nat
  | 0, r => r
  | k + 1, r => isqrt n k (if (r + 2 ^ k) * (r + 2 ^ k) ≤ n then r + 2 ^ k else r)

def Val.rcp : Val → Val
  | .nan => .nan
  | .inf n => .fin n 0 0
  | .fin n m e =>
    if m = 0 then .inf n
    else .fin n (2 * (2 ^ 80 / m) + (if 2 ^ 80 % m = 0 then 0 else 1)) (-e - 81)

def Val.rsqrt : Val → Val
  | .nan => .nan
  | .inf n => if n then .nan else .fin false 0 0
  | .fin n m e =>
    if m = 0 then .inf n
    else if n then .nan
    else
      let odd := e % 2 == 1
      let m := if odd then 2 * m else m
      let e := if odd then e - 1 else e
      let r := isqrt (2 ^ 160 / m) 81 0
      .fin false (2 * r + (if r * r * m = 2 ^ 160 then 0 else 1)) (-(e / 2) - 81)

/-! ## Blocks (R47 to R56) -/

/-- The 16 entries of each LUT4 table. -/
abbrev Luts := Vector (Vector Byte 16) 4

/-- What is wrong with a block: it is poisoned, or a cause of Table 02.7. -/
inductive BlockBad where
  | poisoned
  | cause (k : Nat)
  deriving DecidableEq, Repr

/-- Bytes of a block. -/
def blockFmt (b : List Byte) : Nat := field b 0 1 / 16

def blockPar (b : List Byte) : Nat := field b 0 1 % 16

def blockScale (b : List Byte) : Nat := field b 1 1

def blockCheck (b : List Byte) : Option BlockBad :=
  let p := blockPar b
  match blockFmt b with
  | 0 => if 1 < p then some (.cause 3) else none
  | 1 => if p = 15 then some (.cause 2) else none
  | 2 => if 3 < p then some (.cause 3) else none
  | 3 | 4 | 5 => if p = 0 then none else some (.cause 3)
  | 15 => some .poisoned
  | _ => some (.cause 1)

/-- The elements of a block: 124 or 62. -/
def blockExtent (b : List Byte) : Nat :=
  match blockFmt b with
  | 0 => if blockPar b % 2 = 0 then 124 else 62
  | 1 | 2 => 124
  | _ => 62

def nibble (b : List Byte) (i : Nat) : Nat := field b (2 + i / 2) 1 / (if i % 2 = 0 then 1 else 16) % 16

/-- The value of code 8 of an E2M1 block (Table 02.6). -/
def special (sel : Nat) : Val :=
  match sel with
  | 0 => .fin true 0 0
  | 1 => .ofInt 8
  | 2 => .ofInt 12
  | 3 => .ofInt 16
  | 4 => .ofInt 24
  | 5 => .ofInt (-8)
  | 6 => .ofInt (-12)
  | 7 => .ofInt (-16)
  | 8 => .ofInt (-24)
  | 9 => .fin false 1 (-2)
  | 10 => .fin true 1 (-2)
  | 11 => .ofInt 5
  | 12 => .ofInt (-5)
  | 13 => .ofInt 10
  | _ => .ofInt (-10)

/-- Element `i` of a block before its scale. -/
def element (l : Luts) (b : List Byte) (i : Nat) : Val :=
  match blockFmt b with
  | 1 =>
    let c := nibble b i
    if c = 8 then special (blockPar b) else e2m1.finite c
  | 2 => .ofInt (l[Fin.ofNat 4 (blockPar b)][Fin.ofNat 16 (nibble b i)]).toInt
  | 3 =>
    let c := field b (2 + i) 1
    if c % 128 = 127 then .nan else e4m3.finite c
  | 4 => e5m2.value (field b (2 + i) 1)
  | 5 => .ofInt (signed 8 (field b (2 + i) 1))
  | _ => .fin false 0 0

/-- Whether a scale makes a block's elements NaN (R52, R54). -/
def nanScale (b : List Byte) : Bool := blockFmt b != 0 && blockScale b == 0xFF

/-- Element `i` of a block, exact (R50). -/
def blockValue (l : Luts) (b : List Byte) (i : Nat) : Val :=
  if blockFmt b = 0 then .fin false 0 0
  else if nanScale b then .nan
  else (element l b i).scale (blockScale b - 127)

/-! ## Packing (R66 to R68) -/

/-- Targets of packing. -/
inductive PackFmt where
  | e2m1 | e4m3 | e5m2 | int8
  deriving DecidableEq, Repr

def PackFmt.emax : PackFmt → Int
  | .e2m1 => 2 | .e4m3 => 8 | .e5m2 => 15 | .int8 => 6

def PackFmt.extent : PackFmt → Nat
  | .e2m1 => 124
  | _ => 62

def PackFmt.fmtCode : PackFmt → Nat
  | .e2m1 => 1 | .e4m3 => 3 | .e5m2 => 4 | .int8 => 5

/-- The code of the largest finite magnitude, and where the sign goes. -/
def PackFmt.top : PackFmt → Nat × Nat
  | .e2m1 => (7, 8) | .e4m3 => (0x7E, 0x80) | .e5m2 => (0x7B, 0x80) | .int8 => (127, 0)

/-- An element's code: the source divided by the scale, rounded and saturated. -/
def PackFmt.element (f : PackFmt) (toZero sat : Bool) (x : Int) (v : Val) : Nat :=
  let (top, sgn) := f.top
  match f, v with
  | .int8, .fin n m e => wrap 8 (max (-127) (min 127 (roundInt toZero n m (e - x))))
  | .int8, .inf n => if n then wrap 8 (-127) else 127
  | .e5m2, .inf n => (if n then sgn else 0) + (if sat then top else 0x7C)
  | _, .inf n => (if n then sgn else 0) + top
  | .e2m1, .fin n m e => (if n then sgn else 0) + min top (Machine.e2m1.code toZero m (e - x))
  | .e4m3, .fin n m e => (if n then sgn else 0) + min top (Machine.e4m3.code toZero m (e - x))
  | .e5m2, .fin n m e => (if n then sgn else 0) + min top (Machine.e5m2.code toZero m (e - x))
  | _, .nan => 0

/-- The exponent of the largest finite nonzero magnitude. -/
def magLog (v : Val) : Option Int :=
  match v with
  | .fin _ m e => if m = 0 then none else some (e + Nat.log2 m)
  | _ => none

/-- The payload of element codes. -/
def PackFmt.payload (f : PackFmt) (cs : List Nat) : List Byte :=
  match f with
  | .e2m1 => (List.range 62).map (fun i => BitVec.ofNat 8 (cs.getD (2 * i) 0 + 16 * cs.getD (2 * i + 1) 0))
  | _ => cs.map (BitVec.ofNat 8)

/-- One block from as many values as the target's blocks have elements. -/
def packBlock (f : PackFmt) (toZero sat : Bool) (vs : List Val) : List Byte :=
  let zeros : List Byte := List.replicate 62 0
  let nanBlock : List Byte := BitVec.ofNat 8 (16 * f.fmtCode) :: 0xFF :: zeros
  if vs.any Val.isNan then nanBlock
  else if vs.all Val.isZero then (if f = .e2m1 then 0 else 1) :: 0 :: zeros
  else if f ≠ .e5m2 ∧ sat = false ∧ vs.any (fun v => match v with | .inf _ => true | _ => false) = true then nanBlock
  else
    let x : Int := match (vs.filterMap magLog).max? with
      | none => 0
      | some l => max (-127) (min 127 (l - f.emax))
    BitVec.ofNat 8 (16 * f.fmtCode) :: BitVec.ofInt 8 (x + 127) :: f.payload (vs.map (f.element toZero sat x))

/-- Values packed into consecutive blocks; +0 follows where they end. -/
def packBlocks (f : PackFmt) (toZero sat : Bool) (vs : List Val) : List Byte :=
  let ne := f.extent
  (List.range (ceilDiv vs.length ne)).flatMap (fun q =>
    let g := (vs.drop (q * ne)).take ne
    packBlock f toZero sat (g ++ List.replicate (ne - g.length) (.fin false 0 0)))

/-! ## Sums of the matrix unit (R69 to R72) -/

/-- What a block step has gathered: NaN, infinities, and the exact sum. -/
structure StepSum where
  nan : Bool := false
  pinf : Bool := false
  ninf : Bool := false
  sum : Val := .fin false 0 0
  deriving DecidableEq, Repr

def StepSum.pair (x : StepSum) (a b : Val) : StepSum :=
  match a.mul b with
  | .nan => { x with nan := true }
  | .inf n => if n then { x with ninf := true } else { x with pinf := true }
  | p => { x with sum := x.sum.add p }

/-- One cell's block step: its accumulator after `n` elements from `ka` of block `a` and `kb` of block `b`. -/
def cellStep (l : Luts) (a b : List Byte) (ka kb n : Nat) (acc : Lane) : Lane :=
  let s := (List.range n).foldl (fun x i => StepSum.pair x (element l a (ka + i)) (element l b (kb + i))) {}
  let scale (z : List Byte) : Int := if blockFmt z = 0 then 127 else blockScale z
  if laneNan acc || nanScale a || nanScale b || s.nan || (s.pinf && s.ninf) then nanLane
  else if s.pinf then toLane false false ((laneVal acc).add (.inf false))
  else if s.ninf then toLane false false ((laneVal acc).add (.inf true))
  else if s.sum.isZero then acc
  else toLane false false ((laneVal acc).add (s.sum.scale (scale a + scale b - 254)))

/-- One cell's addition in BF16 mode. -/
def cellBf16 (a b : Nat) (acc : Lane) : Lane :=
  toLane false false ((laneVal acc).add ((bf16.value a).mul (bf16.value b)))

end Sys2Proof.Machine
end

