-- ==== Sys2Proof/Machine/Vector.lean ====
section
/-! DEFINITION. The vector engine (10): issue checks, the vector queue, lane arithmetic, reductions, movement, conversions,
tile loads and stores, blocks, and its faults. -/

namespace Sys2Proof.Machine

open Sys2Proof

/-! ## Faults (R368, R369, Table 10.8) -/

/-- `fn` of a vector instruction word, by its format. -/
def vecFn (w : IWord) : Nat :=
  let m := fld w 25 6
  if m ≤ 0x32 then fld w 0 5 else if m = 0x33 then fld w 2 4 else fld w 3 1

/-- The record of a vector fault. -/
def vecRecord (p : Nat) (x : Cmd) (cseq kind : Nat) (d : List (Nat × Nat × Nat)) : FaultRec :=
  { kind := kind, engine := 5, place := p, asid := x.asid, entry := x.ent, priv := x.priv, stream := 1, pc := x.pc
    wid := x.wid.toNat, cseq := cseq, detail := detail d }

/-- A fault of the engine freezes the core; one found at issue, with `cseq` 0, also stops the other stream (R194, R369). -/
def State.vecStop (s : State) (p cseq : Nat) (r : FaultRec) : State :=
  if cseq = 0 then s.handlerFault p .e r else s.freezeCore p r

/-- A vector fault: class 0 of a format, class 1 of an operand. -/
def State.vecFault (s : State) (p : Nat) (x : Cmd) (cseq cls cause val : Nat) : State :=
  let w := (encode x.op).getD 0
  s.vecStop p cseq { vecRecord p x cseq 0x09
    [(36, 1, cause), (37, 1, cls), (38, 1, fld w 25 6), (39, 1, vecFn w), (40, 8, val), (48, 4, w.toNat)] with
      va := if cls = 0 ∨ cause = 3 then val % 2 ^ 52 else 0 }

/-- A span beyond its space. -/
def State.vecSpan (s : State) (p : Nat) (x : Cmd) (cseq addr : Nat) : State :=
  s.vecStop p cseq { vecRecord p x cseq 0x07 [(36, 1, 1), (40, 8, addr)] with va := addr }

/-- Storage in error has been read by a command. -/
def State.vecConsume (s : State) (p : Nat) (x : Cmd) (addr : Nat) : State :=
  s.sealCore p (some { vecRecord p x x.seq 0x0F [(36, 1, 1), (40, 8, addr)] with va := addr })

/-! ## Positions of a slice (R347) -/

/-- Element numbers of the positions of a slice, in order. -/
def positions (sh : Shape) (x : Nat) : List Nat :=
  match sh with
  | .whole => List.range 512
  | .row => upto (32 * x) 32
  | .col => (List.range 16).map (fun i => 32 * i + x)

/-- Whether an index lies beyond its shape. -/
def badIndex (sh : Shape) (x : Nat) : Bool :=
  match sh with
  | .whole => false
  | .row => 16 ≤ x
  | .col => 32 ≤ x

def Tile.at_ (t : Tile) (k : Nat) : Lane := t.getD k 0

/-- A tile with the values of a list at the positions of another. -/
def Tile.putAll (t : Tile) (ps : List Nat) (vs : List Lane) : Tile :=
  (ps.zip vs).foldl (fun t x => t.setIfInBounds x.1 x.2) t

/-! ## Issue (R348, R350) -/

/-- The index of a slice from the values read at issue, the index register being the last source. -/
def sliceIndex (vals : List Word) (io : BitVec 4) : Nat := (vals.getLastD 0).toNat + io.toNat

/-- A vector command enters its queue. -/
def vecEnter (s : State) (i : Issued) (x : Cmd) : State :=
  let n := i.core.vSeq + 1
  s.withAct { i.core with vSeq := n, vq := i.core.vq ++ [{ x with seq := n }] } i.act

/-- Issue of a form whose operand is a slice: `check` finds what else is wrong with the values and the index. -/
def vecIssue (s : State) (op : Instr) (srcs : List Reg) (sl : Slice) (check : State → Cmd → Option State) :
    Host.Outcome State Fault Refusal :=
  issue s { st := .e, srcs := srcs ++ [sl.ix], enters := some .vector } (fun i =>
    let ix := sliceIndex i.vals sl.io
    let x := { i.cmd op 0 false with ix := ix }
    if badIndex sl.shape ix then s.vecFault s.who x 0 1 1 ix
    else
      match check s x with
      | some t => t
      | none => vecEnter s i x)

/-- A tile-to-tile form. -/
def vecTile (s : State) (op : Instr) (sl : Slice) : Host.Outcome State Fault Refusal :=
  vecIssue s op [] sl (fun _ _ => none)

def execVadd (d a b : Fin 8) (sl : Slice) (s : State) : Host.Outcome State Fault Refusal := vecTile s (.vadd d a b sl) sl
def execVsub (d a b : Fin 8) (sl : Slice) (s : State) : Host.Outcome State Fault Refusal := vecTile s (.vsub d a b sl) sl
def execVmul (d a b : Fin 8) (sl : Slice) (s : State) : Host.Outcome State Fault Refusal := vecTile s (.vmul d a b sl) sl
def execVfma (d a b : Fin 8) (sl : Slice) (s : State) : Host.Outcome State Fault Refusal := vecTile s (.vfma d a b sl) sl
def execVfms (d a b : Fin 8) (sl : Slice) (s : State) : Host.Outcome State Fault Refusal := vecTile s (.vfms d a b sl) sl
def execVmax (d a b : Fin 8) (sl : Slice) (s : State) : Host.Outcome State Fault Refusal := vecTile s (.vmax d a b sl) sl
def execVmin (d a b : Fin 8) (sl : Slice) (s : State) : Host.Outcome State Fault Refusal := vecTile s (.vmin d a b sl) sl
def execVabs (d a : Fin 8) (sl : Slice) (s : State) : Host.Outcome State Fault Refusal := vecTile s (.vabs d a sl) sl
def execVneg (d a : Fin 8) (sl : Slice) (s : State) : Host.Outcome State Fault Refusal := vecTile s (.vneg d a sl) sl
def execVcmpEq (d a b : Fin 8) (sl : Slice) (s : State) : Host.Outcome State Fault Refusal := vecTile s (.vcmpEq d a b sl) sl
def execVcmpNe (d a b : Fin 8) (sl : Slice) (s : State) : Host.Outcome State Fault Refusal := vecTile s (.vcmpNe d a b sl) sl
def execVcmpLt (d a b : Fin 8) (sl : Slice) (s : State) : Host.Outcome State Fault Refusal := vecTile s (.vcmpLt d a b sl) sl
def execVcmpLe (d a b : Fin 8) (sl : Slice) (s : State) : Host.Outcome State Fault Refusal := vecTile s (.vcmpLe d a b sl) sl
def execVrsum (d a : Fin 8) (sl : Slice) (s : State) : Host.Outcome State Fault Refusal := vecTile s (.vrsum d a sl) sl
def execVrmax (d a : Fin 8) (sl : Slice) (s : State) : Host.Outcome State Fault Refusal := vecTile s (.vrmax d a sl) sl
def execVexp2 (d a : Fin 8) (sl : Slice) (s : State) : Host.Outcome State Fault Refusal := vecTile s (.vexp2 d a sl) sl
def execVlog2 (d a : Fin 8) (sl : Slice) (s : State) : Host.Outcome State Fault Refusal := vecTile s (.vlog2 d a sl) sl
def execVrcp (d a : Fin 8) (sl : Slice) (s : State) : Host.Outcome State Fault Refusal := vecTile s (.vrcp d a sl) sl
def execVrsqrt (d a : Fin 8) (sl : Slice) (s : State) : Host.Outcome State Fault Refusal := vecTile s (.vrsqrt d a sl) sl
def execVaddI (d a b : Fin 8) (sl : Slice) (s : State) : Host.Outcome State Fault Refusal := vecTile s (.vaddI d a b sl) sl
def execVsubI (d a b : Fin 8) (sl : Slice) (s : State) : Host.Outcome State Fault Refusal := vecTile s (.vsubI d a b sl) sl
def execVmli (d a b : Fin 8) (sl : Slice) (s : State) : Host.Outcome State Fault Refusal := vecTile s (.vmli d a b sl) sl
def execVmaxI (d a b : Fin 8) (sl : Slice) (s : State) : Host.Outcome State Fault Refusal := vecTile s (.vmaxI d a b sl) sl
def execVminI (d a b : Fin 8) (sl : Slice) (s : State) : Host.Outcome State Fault Refusal := vecTile s (.vminI d a b sl) sl
def execVabsI (d a : Fin 8) (sl : Slice) (s : State) : Host.Outcome State Fault Refusal := vecTile s (.vabsI d a sl) sl
def execVnegI (d a : Fin 8) (sl : Slice) (s : State) : Host.Outcome State Fault Refusal := vecTile s (.vnegI d a sl) sl
def execVand (d a b : Fin 8) (sl : Slice) (s : State) : Host.Outcome State Fault Refusal := vecTile s (.vand d a b sl) sl
def execVor (d a b : Fin 8) (sl : Slice) (s : State) : Host.Outcome State Fault Refusal := vecTile s (.vor d a b sl) sl
def execVxor (d a b : Fin 8) (sl : Slice) (s : State) : Host.Outcome State Fault Refusal := vecTile s (.vxor d a b sl) sl
def execVshl (d a b : Fin 8) (sl : Slice) (s : State) : Host.Outcome State Fault Refusal := vecTile s (.vshl d a b sl) sl
def execVshr (d a b : Fin 8) (sl : Slice) (s : State) : Host.Outcome State Fault Refusal := vecTile s (.vshr d a b sl) sl
def execVsra (d a b : Fin 8) (sl : Slice) (s : State) : Host.Outcome State Fault Refusal := vecTile s (.vsra d a b sl) sl
def execVcmpEqI (d a b : Fin 8) (sl : Slice) (s : State) : Host.Outcome State Fault Refusal :=
  vecTile s (.vcmpEqI d a b sl) sl
def execVcmpNeI (d a b : Fin 8) (sl : Slice) (s : State) : Host.Outcome State Fault Refusal :=
  vecTile s (.vcmpNeI d a b sl) sl
def execVcmpLtI (d a b : Fin 8) (sl : Slice) (s : State) : Host.Outcome State Fault Refusal :=
  vecTile s (.vcmpLtI d a b sl) sl
def execVcmpLeI (d a b : Fin 8) (sl : Slice) (s : State) : Host.Outcome State Fault Refusal :=
  vecTile s (.vcmpLeI d a b sl) sl
def execVcmpLtu (d a b : Fin 8) (sl : Slice) (s : State) : Host.Outcome State Fault Refusal :=
  vecTile s (.vcmpLtu d a b sl) sl
def execVrsumI (d a : Fin 8) (sl : Slice) (s : State) : Host.Outcome State Fault Refusal := vecTile s (.vrsumI d a sl) sl
def execVrmaxI (d a : Fin 8) (sl : Slice) (s : State) : Host.Outcome State Fault Refusal := vecTile s (.vrmaxI d a sl) sl
def execVclmul (d a b : Fin 8) (sl : Slice) (s : State) : Host.Outcome State Fault Refusal := vecTile s (.vclmul d a b sl) sl
def execVclmulh (d a b : Fin 8) (sl : Slice) (s : State) : Host.Outcome State Fault Refusal :=
  vecTile s (.vclmulh d a b sl) sl
def execVmov (d a : Fin 8) (sl : Slice) (s : State) : Host.Outcome State Fault Refusal := vecTile s (.vmov d a sl) sl
def execVsel (d a b : Fin 8) (sl : Slice) (s : State) : Host.Outcome State Fault Refusal := vecTile s (.vsel d a b sl) sl
def execVperm (d a b : Fin 8) (sl : Slice) (s : State) : Host.Outcome State Fault Refusal := vecTile s (.vperm d a b sl) sl
def execVrot (d a b : Fin 8) (sl : Slice) (s : State) : Host.Outcome State Fault Refusal := vecTile s (.vrot d a b sl) sl
def execVcvtFb (d a : Fin 8) (sl : Slice) (s : State) : Host.Outcome State Fault Refusal := vecTile s (.vcvtFb d a sl) sl
def execVcvtBf (d a : Fin 8) (sl : Slice) (s : State) : Host.Outcome State Fault Refusal := vecTile s (.vcvtBf d a sl) sl
def execVcvtFi (d a : Fin 8) (sl : Slice) (s : State) : Host.Outcome State Fault Refusal := vecTile s (.vcvtFi d a sl) sl
def execVcvtIf (d a : Fin 8) (sl : Slice) (s : State) : Host.Outcome State Fault Refusal := vecTile s (.vcvtIf d a sl) sl
def execVcvtI8 (d a : Fin 8) (sl : Slice) (s : State) : Host.Outcome State Fault Refusal := vecTile s (.vcvtI8 d a sl) sl

def wholeTile : Slice := { shape := .whole, ix := .z, io := 0 }

def execVtr (d a : Fin 8) (s : State) : Host.Outcome State Fault Refusal := vecTile s (.vtr d a) wholeTile

/-- `vbcast`: the value is the first source (R360). -/
def execVbcast (t : Fin 8) (r : Reg) (sl : Slice) (s : State) : Host.Outcome State Fault Refusal :=
  vecIssue s (.vbcast t r sl) [r] sl (fun _ _ => none)

def execVins (t : Fin 8) (r ix : Reg) (io : BitVec 4) (s : State) : Host.Outcome State Fault Refusal :=
  issue s { st := .e, srcs := [r, ix], enters := some .vector } (fun i =>
    let e := sliceIndex i.vals io
    let x := { i.cmd (.vins t r ix io) 0 false with ix := e }
    if 512 ≤ e then s.vecFault s.who x 0 1 2 e else vecEnter s i x)

/-- `vext` reserves its destination at issue (R361). -/
def execVext (t : Fin 8) (r ix : Reg) (io : BitVec 4) (s : State) : Host.Outcome State Fault Refusal :=
  issue s { st := .e, srcs := [ix], dst := .later r false, enters := some .vector } (fun i =>
    let e := sliceIndex i.vals io
    let x := { i.cmd (.vext t r ix io) 0 true with ix := e }
    if 512 ≤ e then s.vecFault s.who x 0 1 2 e else vecEnter s i x)

def execLtab (t : Fin 8) (n : Fin 4) (ix : Reg) (io : BitVec 4) (s : State) : Host.Outcome State Fault Refusal :=
  vecIssue s (.ltab t n ix io) [] { shape := .row, ix := ix, io := io } (fun _ _ => none)

/-- The storage kind of a space. -/
def spcLs : Spc → Ls
  | .sp => .sp
  | .ab => .ab
  | .cb => .cb

/-- `vld` and `vst`: alignment and span are checked at issue (R363). -/
def vecMem (s : State) (op : Instr) (b : Reg) (p : Spc) (sl : Slice) : Host.Outcome State Fault Refusal :=
  vecIssue s op [b] sl (fun s x =>
    let a := (v1 x.vals).toNat
    if a % 4 ≠ 0 then some (s.vecFault s.who x 0 1 3 a)
    else if lsSize (spcLs p) < a + 4 * shapeLen sl.shape then some (s.vecSpan s.who x 0 a)
    else none)

def execVld (t : Fin 8) (b : Reg) (p : Spc) (sl : Slice) (s : State) : Host.Outcome State Fault Refusal :=
  vecMem s (.vld t b p sl) b p sl

def execVst (t : Fin 8) (b : Reg) (p : Spc) (sl : Slice) (s : State) : Host.Outcome State Fault Refusal :=
  vecMem s (.vst t b p sl) b p sl

/-- `vunpk`: alignment is checked at issue (R364). -/
def vecUnpack (s : State) (op : Instr) (b : Reg) (sl : Slice) : Host.Outcome State Fault Refusal :=
  vecIssue s op [b] sl (fun s x =>
    let a := (v1 x.vals).toNat
    if a % 64 ≠ 0 then some (s.vecFault s.who x 0 0 5 a) else none)

def execVunpkF (t : Fin 8) (b : Reg) (p : Spc) (sl : Slice) (s : State) : Host.Outcome State Fault Refusal :=
  vecUnpack s (.vunpkF t b p sl) b sl

def execVunpkBf (t : Fin 8) (b : Reg) (p : Spc) (sl : Slice) (s : State) : Host.Outcome State Fault Refusal :=
  vecUnpack s (.vunpkBf t b p sl) b sl

/-- `vpk`: target, alignment and span are checked at issue (R365). DESIGN CHOICE: where several hold, a format without a packed form (cause
4) is reported before an address that is no multiple of 64 (cause 5), and both before a span beyond its space; no rule ranks them (R57). -/
def vecPack (s : State) (op : Instr) (b : Reg) (p : Spc) (sl : Slice) (f : Option PackFmt) :
    Host.Outcome State Fault Refusal :=
  vecIssue s op [b] sl (fun s x =>
    let a := (v1 x.vals).toNat
    match f with
    | none => some (s.vecFault s.who x 0 0 4 a)
    | some f =>
      if a % 64 ≠ 0 then some (s.vecFault s.who x 0 0 5 a)
      else if lsSize (spcLs p) < a + 64 * ceilDiv (shapeLen sl.shape) f.extent then some (s.vecSpan s.who x 0 a)
      else none)

def execVpkE2m1 (t : Fin 8) (b : Reg) (p : Spc) (sl : Slice) (s : State) : Host.Outcome State Fault Refusal :=
  vecPack s (.vpkE2m1 t b p sl) b p sl (some .e2m1)

def execVpkLut4 (t : Fin 8) (b : Reg) (p : Spc) (sl : Slice) (s : State) : Host.Outcome State Fault Refusal :=
  vecPack s (.vpkLut4 t b p sl) b p sl none

def execVpkE4m3 (t : Fin 8) (b : Reg) (p : Spc) (sl : Slice) (s : State) : Host.Outcome State Fault Refusal :=
  vecPack s (.vpkE4m3 t b p sl) b p sl (some .e4m3)

def execVpkE5m2 (t : Fin 8) (b : Reg) (p : Spc) (sl : Slice) (s : State) : Host.Outcome State Fault Refusal :=
  vecPack s (.vpkE5m2 t b p sl) b p sl (some .e5m2)

def execVpkInt8 (t : Fin 8) (b : Reg) (p : Spc) (sl : Slice) (s : State) : Host.Outcome State Fault Refusal :=
  vecPack s (.vpkInt8 t b p sl) b p sl (some .int8)

/-! ## Lane functions (Tables 10.1, 10.2) -/

/-- An integer result: modulo 2^32, or clamped under `hint.sat`. -/
def clampLane (sat : Bool) (v : Int) : Lane :=
  BitVec.ofInt 32 (if sat then max (-2147483648) (min 2147483647 v) else v)

/-- The carry-less product of two lanes. -/
def clmul (a b : Lane) : Nat :=
  (List.range 32).foldl (fun acc i => if b.getLsbD i then acc ^^^ (a.toNat * 2 ^ i) else acc) 0

/-- The lane function of an element-wise form: of `ta`, `tb` and the old `td`. -/
def laneFn (op : Instr) (rz sat : Bool) (a b d : Lane) : Lane :=
  let r (v : Val) : Lane := toLane rz sat v
  let x := laneVal a
  let y := laneVal b
  match op with
  | .vadd .. => r (x.add y)
  | .vsub .. => r (x.add y.neg)
  | .vmul .. => r (x.mul y)
  | .vfma .. => r ((laneVal d).add (x.mul y))
  | .vfms .. => r ((laneVal d).add (x.mul y).neg)
  | .vmax .. => laneMax a b
  | .vmin .. => laneMin a b
  | .vabs .. => if laneNan a then nanLane else a &&& 0x7FFFFFFF
  | .vneg .. => if laneNan a then nanLane else a ^^^ 0x80000000
  | .vcmpEq .. => maskLane (laneCmp (· == ·) a b)
  | .vcmpNe .. => maskLane (!laneCmp (· == ·) a b)
  | .vcmpLt .. => maskLane (laneCmp (fun u v => decide (u < v)) a b)
  | .vcmpLe .. => maskLane (laneCmp (fun u v => decide (u ≤ v)) a b)
  | .vexp2 .. => r x.exp2
  | .vlog2 .. => r x.log2
  | .vrcp .. => r x.rcp
  | .vrsqrt .. => r x.rsqrt
  | .vaddI .. => clampLane sat (a.toInt + b.toInt)
  | .vsubI .. => clampLane sat (a.toInt - b.toInt)
  | .vmli .. => clampLane sat (a.toInt * b.toInt)
  | .vmaxI .. => if a.toInt < b.toInt then b else a
  | .vminI .. => if b.toInt < a.toInt then b else a
  | .vabsI .. => clampLane sat (a.toInt.natAbs : Int)
  | .vnegI .. => clampLane sat (-a.toInt)
  | .vand .. => a &&& b
  | .vor .. => a ||| b
  | .vxor .. => a ^^^ b
  | .vshl .. => a <<< (b.toNat % 32)
  | .vshr .. => a >>> (b.toNat % 32)
  | .vsra .. => a.sshiftRight (b.toNat % 32)
  | .vcmpEqI .. => maskLane (a == b)
  | .vcmpNeI .. => maskLane (a != b)
  | .vcmpLtI .. => maskLane (decide (a.toInt < b.toInt))
  | .vcmpLeI .. => maskLane (decide (a.toInt ≤ b.toInt))
  | .vcmpLtu .. => maskLane (decide (a.toNat < b.toNat))
  | .vclmul .. => BitVec.ofNat 32 (clmul a b)
  | .vclmulh .. => BitVec.ofNat 32 (clmul a b / 2 ^ 32)
  | .vmov .. => a
  | .vsel .. => (d &&& a) ||| (~~~d &&& b)
  | .vcvtFi .. => toLane rz false (.ofInt a.toInt)
  | .vcvtIf .. => BitVec.ofInt 32 (x.toInt rz (-2147483648) 2147483647)
  | .vcvtI8 .. => BitVec.ofInt 32 (x.toInt rz (-128) 127)
  | _ => d

/-! ## Reductions (R75, R354) -/

/-- One level of the pairwise tree. -/
def pairUp (f : Lane → Lane → Lane) : List Lane → List Lane
  | x :: y :: r => f x y :: pairUp f r
  | l => l

/-- The tree over at most 32 values. -/
def treeReduce (f : Lane → Lane → Lane) (l : List Lane) : Lane :=
  ((List.range 5).foldl (fun l _ => pairUp f l) l).headD 0

/-- The step of a reduction. -/
def reduceFn (op : Instr) (rz sat : Bool) (a b : Lane) : Lane :=
  match op with
  | .vrsum .. => toLane rz sat ((laneVal a).add (laneVal b))
  | .vrmax .. => laneMax a b
  | .vrmaxI .. => if a.toInt < b.toInt then b else a
  | _ => a + b

/-- The slices that a reduction takes one by one. -/
def reduceSlices (sh : Shape) (x : Nat) : List (List Nat) :=
  match sh with
  | .whole => (List.range 16).map (positions .row)
  | s => [positions s x]

/-! ## BF16 pairs (R357, R358) -/

/-- BF16 value `m` of packed lanes. -/
def bfOf (ls : List Lane) (m : Nat) : Nat := (ls.getD (m / 2) 0).toNat / (if m % 2 = 0 then 1 else 65536) % 65536

/-- BF16 codes packed in pairs. -/
def bfPack : List Nat → List Lane
  | a :: b :: r => BitVec.ofNat 32 (a + 65536 * b) :: bfPack r
  | [a] => [BitVec.ofNat 32 a]
  | [] => []

/-! ## Performing -/

/-- A new value of a tile, which the activation has then written (R163). -/
def Core.setTile (c : Core) (t : Fin 8) (v : Tile) : Core :=
  { c with tiles := c.tiles.set t v
           act := c.act.map (fun a => if a.tmask.contains t.val then a else { a with tmask := a.tmask ++ [t.val] }) }

/-- Writes values at the positions of a slice; a unit of the tile that is written whole is no longer in error (R503). -/
def Core.putSlice (c : Core) (t : Fin 8) (ps : List Nat) (vs : List Lane) : Core :=
  let whole (u : Nat) : Bool := u / 32 == t.val && (upto (16 * (u % 32)) 16).all ps.contains
  { c.setTile t (c.tiles[t].putAll ps vs) with tileBad := c.tileBad.filter (fun u => !whole u) }

/-- The elements of tile registers that a command reads: a tile and element numbers. -/
def Cmd.tileReads (x : Cmd) : List (Fin 8 × List Nat) :=
  match x.op with
  | .vfma d a b sl | .vfms d a b sl | .vsel d a b sl =>
    [(a, positions sl.shape x.ix), (b, positions sl.shape x.ix), (d, positions sl.shape x.ix)]
  | .vadd _ a b sl | .vsub _ a b sl | .vmul _ a b sl | .vmax _ a b sl | .vmin _ a b sl | .vcmpEq _ a b sl | .vcmpNe _ a b sl
  | .vcmpLt _ a b sl | .vcmpLe _ a b sl | .vaddI _ a b sl | .vsubI _ a b sl | .vmli _ a b sl | .vmaxI _ a b sl | .vminI _ a b sl
  | .vand _ a b sl | .vor _ a b sl | .vxor _ a b sl | .vshl _ a b sl | .vshr _ a b sl | .vsra _ a b sl | .vcmpEqI _ a b sl
  | .vcmpNeI _ a b sl | .vcmpLtI _ a b sl | .vcmpLeI _ a b sl | .vcmpLtu _ a b sl | .vclmul _ a b sl | .vclmulh _ a b sl
  | .vperm _ a b sl => [(a, positions sl.shape x.ix), (b, positions sl.shape x.ix)]
  | .vrot _ a b sl => [(a, positions sl.shape x.ix), (b, (reduceSlices sl.shape x.ix).flatMap (·.take 1))]
  | .vabs _ a sl | .vneg _ a sl | .vexp2 _ a sl | .vlog2 _ a sl | .vrcp _ a sl | .vrsqrt _ a sl | .vabsI _ a sl | .vnegI _ a sl
  | .vmov _ a sl | .vcvtFi _ a sl | .vcvtIf _ a sl | .vcvtI8 _ a sl | .vrsum _ a sl | .vrmax _ a sl | .vrsumI _ a sl
  | .vrmaxI _ a sl | .vcvtFb _ a sl | .vcvtBf _ a sl => [(a, positions sl.shape x.ix)]
  | .vtr _ a => [(a, positions .whole 0)]
  | .vext t _ _ _ => [(t, [x.ix])]
  | .ltab t _ _ _ => [(t, upto (32 * x.ix) 16)]
  | .vst t _ _ sl | .vpkE2m1 t _ _ sl | .vpkE4m3 t _ _ sl | .vpkE5m2 t _ _ sl | .vpkInt8 t _ _ sl => [(t, positions sl.shape x.ix)]
  | _ => []

/-- The first unit in error among the elements of tile registers that a command reads. -/
def Core.badTileUnit (c : Core) (x : Cmd) : Option Nat :=
  (x.tileReads.flatMap (fun y => y.2.map (fun k => 32 * y.1.val + k / 16))).find? c.tileBad.contains

/-- An element-wise form. -/
def Core.elementwise (c : Core) (x : Cmd) (d a b : Fin 8) (sh : Shape) : Core :=
  let ps := positions sh x.ix
  c.putSlice d ps (ps.map (fun k => laneFn x.op x.rnd x.sat (c.tiles[a].at_ k) (c.tiles[b].at_ k) (c.tiles[d].at_ k)))

def Core.reduce (c : Core) (x : Cmd) (d a : Fin 8) (sh : Shape) : Core :=
  let vs (ps : List Nat) : List Lane :=
    let v := treeReduce (reduceFn x.op x.rnd x.sat) (ps.map (fun k => c.tiles[a].at_ k))
    List.replicate ps.length v
  let ss := reduceSlices sh x.ix
  c.putSlice d ss.flatten (ss.flatMap vs)

/-- `vperm` and `vrot` move lanes within a row or a column (Table 10.4): `src` gives the source index from the index of a
position in its slice and the lanes of `tb` in it. -/
def Core.shuffle (c : Core) (x : Cmd) (d a b : Fin 8) (sh : Shape) (src : Nat → List Lane → Nat) : Core :=
  let ss := reduceSlices sh x.ix
  let vs (ps : List Nat) : List Lane :=
    let from_ := ps.map (fun k => c.tiles[a].at_ k)
    let idx := ps.map (fun k => c.tiles[b].at_ k)
    (List.range ps.length).map (fun k => from_.getD (src k idx % ps.length) 0)
  c.putSlice d ss.flatten (ss.flatMap vs)

/-- The bytes of a slice's lanes. -/
def laneBytes (vs : List Lane) : List Byte := vs.flatMap (fun v => leBytes 4 v.toNat)

/-- What unpacking has found: values, the block at which it stops, or the block that has yet to be read. -/
inductive Unpacked where
  | values (vs : List Val)
  | span (addr : Nat)
  | bad (addr : Nat) (b : BlockBad)
  | need (addr : Nat)

/-- `q` values from consecutive blocks, at most `n` of them, of the bytes that have been read (R364). -/
def unpackFrom (lut : Vector (Vector Byte 16) 4) (size : Nat) (got : List Host.Cell) : Nat → Nat → Nat → List Val → Unpacked
  | 0, _, _, vs => .values vs
  | n + 1, a, q, vs =>
    if q = 0 then .values vs
    else if size < a + 64 then .span a
    else if !(upto a 64).all (fun i => got.any (fun x => x.1 == i)) then .need a
    else
      let b := gathered got a 64
      match blockCheck b with
      | some e => .bad a e
      | none =>
        let k := min q (blockExtent b)
        unpackFrom lut size got n (a + 64) (q - k) (vs ++ (List.range k).map (blockValue lut b))

/-- What a `vunpk` makes of the bytes that it has read. -/
def Core.unpacked (c : Core) (x : Cmd) (l : Ls) (sh : Shape) (bf : Bool) : Unpacked :=
  let n := (positions sh x.ix).length
  unpackFrom c.lut (lsSize l) c.vGot 32 (v1 x.vals).toNat (if bf then 2 * n else n) []

/-- A `vunpk` that has read its blocks is performed. -/
def State.performUnpack (s : State) (p : Nat) (x : Cmd) (t : Fin 8) (l : Ls) (sh : Shape) (bf : Bool) : State :=
  let c := s.core p
  let ps := positions sh x.ix
  match c.unpacked x l sh bf with
  | .span a => s.vecSpan p x x.seq a
  | .bad a .poisoned => s.vecConsume p x a
  | .bad a (.cause k) => s.vecFault p x x.seq 0 k a
  | .values vs =>
    let ls := if bf then bfPack (vs.map (bf16.round x.rnd x.sat)) else vs.map (toLane x.rnd x.sat)
    s.setCore p (c.putSlice t ps ls)
  | .need _ => s

/-- The blocks that a `vpk` writes. -/
def Core.packedSlice (c : Core) (x : Cmd) (t : Fin 8) (sh : Shape) (f : PackFmt) : List Byte :=
  packBlocks f x.rnd x.sat ((positions sh x.ix).map (fun k => laneVal (c.tiles[t].at_ k)))

/-- The bytes that a command writes to storage, and where. -/
def Core.vecStores (c : Core) (x : Cmd) : Option (Ls × Nat × List Byte) :=
  let a := (v1 x.vals).toNat
  match x.op with
  | .vst t _ q sl => some (spcLs q, a, laneBytes ((positions sl.shape x.ix).map (fun k => c.tiles[t].at_ k)))
  | .vpkE2m1 t _ q sl => some (spcLs q, a, c.packedSlice x t sl.shape .e2m1)
  | .vpkE4m3 t _ q sl => some (spcLs q, a, c.packedSlice x t sl.shape .e4m3)
  | .vpkE5m2 t _ q sl => some (spcLs q, a, c.packedSlice x t sl.shape .e5m2)
  | .vpkInt8 t _ q sl => some (spcLs q, a, c.packedSlice x t sl.shape .int8)
  | _ => none

/-- The command at the head of the vector queue is performed, what it moves to or from storage having been moved. -/
def State.vecPerform (s : State) (p : Nat) (x : Cmd) : State :=
  let c := s.core p
  let elem (d a b : Fin 8) (sl : Slice) : State := s.setCore p (c.elementwise x d a b sl.shape)
  let low : Lane := BitVec.ofNat 32 (v1 x.vals).toNat
  let addr := (v1 x.vals).toNat
  match x.op with
  | .vadd d a b sl | .vsub d a b sl | .vmul d a b sl | .vfma d a b sl | .vfms d a b sl | .vmax d a b sl | .vmin d a b sl
  | .vcmpEq d a b sl | .vcmpNe d a b sl | .vcmpLt d a b sl | .vcmpLe d a b sl | .vaddI d a b sl | .vsubI d a b sl
  | .vmli d a b sl | .vmaxI d a b sl | .vminI d a b sl | .vand d a b sl | .vor d a b sl | .vxor d a b sl | .vshl d a b sl
  | .vshr d a b sl | .vsra d a b sl | .vcmpEqI d a b sl | .vcmpNeI d a b sl | .vcmpLtI d a b sl | .vcmpLeI d a b sl
  | .vcmpLtu d a b sl | .vclmul d a b sl | .vclmulh d a b sl | .vsel d a b sl => elem d a b sl
  | .vabs d a sl | .vneg d a sl | .vexp2 d a sl | .vlog2 d a sl | .vrcp d a sl | .vrsqrt d a sl | .vabsI d a sl
  | .vnegI d a sl | .vmov d a sl | .vcvtFi d a sl | .vcvtIf d a sl | .vcvtI8 d a sl => elem d a a sl
  | .vrsum d a sl | .vrmax d a sl | .vrsumI d a sl | .vrmaxI d a sl => s.setCore p (c.reduce x d a sl.shape)
  | .vtr d a =>
    let v := (List.range 512).map (fun k => c.tiles[a].at_ (32 * (k % 16) + 16 * (k % 32 / 16) + k / 32))
    s.setCore p (c.putSlice d (List.range 512) v)
  | .vperm d a b sl => s.setCore p (c.shuffle x d a b sl.shape (fun k l => (l.getD k 0).toNat))
  | .vrot d a b sl => s.setCore p (c.shuffle x d a b sl.shape (fun k l => k + (l.getD 0 0).toNat))
  | .vcvtFb d a sl =>
    let ps := positions sl.shape x.ix
    let ls := ps.map (fun k => c.tiles[a].at_ k)
    s.setCore p (c.putSlice d ps ((List.range ps.length).map (fun m => toLane false false (bf16.value (bfOf ls m)))))
  | .vcvtBf d a sl =>
    let ps := positions sl.shape x.ix
    let ls := bfPack (ps.map (fun k => bf16.round x.rnd x.sat (laneVal (c.tiles[a].at_ k))))
    s.setCore p (c.putSlice d ps (ls ++ List.replicate (ps.length - ls.length) 0))
  | .vbcast t _ sl =>
    let ps := positions sl.shape x.ix
    s.setCore p (c.putSlice t ps (List.replicate ps.length low))
  | .vins t _ _ _ => s.setCore p (c.putSlice t [x.ix] [low])
  | .vext t _ _ _ => s.deliver p x.act x.tag ((c.tiles[t].at_ x.ix).setWidth 64)
  | .ltab t n _ _ =>
    let v : Vector Byte 16 := Vector.ofFn (fun k => (c.tiles[t].at_ (32 * x.ix + k.val)).setWidth 8)
    s.setCore p { c with lut := c.lut.set n v }
  | .vld t _ q sl =>
    let ps := positions sl.shape x.ix
    s.setCore p (c.putSlice t ps ((List.range ps.length).map (fun k => BitVec.ofNat 32 (leNat (gathered c.vGot (addr + 4 * k) 4)))))
  | .vunpkF t _ q sl => s.performUnpack p x t (spcLs q) sl.shape false
  | .vunpkBf t _ q sl => s.performUnpack p x t (spcLs q) sl.shape true
  | _ =>
    match c.vecStores x with
    | some (l, a, b) => s.setCore p (c.mend l a b.length)
    | none => s

/-- The lanes of storage that a command has yet to read, or to write with the bytes given: space, address and length of each. -/
def Core.vecLanes (c : Core) (x : Cmd) : List (Ls × Nat × Nat × Option (List Byte)) :=
  let addr := (v1 x.vals).toNat
  let left (l : Ls) (a n : Nat) (b : Option (List Byte)) : List (Ls × Nat × Nat × Option (List Byte)) :=
    ((pieces a n 4).filter (fun y => !c.vGot.any (fun z => z.1 == a + y.1))).map (fun y => (l, a + y.1, y.2, b.map (fun b => (b.drop y.1).take y.2)))
  match x.op with
  | .vld _ _ q sl => left (spcLs q) addr (4 * shapeLen sl.shape) none
  | .vunpkF _ _ q sl => match c.unpacked x (spcLs q) sl.shape false with | .need a => left (spcLs q) a 64 none | _ => []
  | .vunpkBf _ _ q sl => match c.unpacked x (spcLs q) sl.shape true with | .need a => left (spcLs q) a 64 none | _ => []
  | _ =>
    match c.vecStores x with
    | some (l, a, b) => left l a b.length (some b)
    | none => []

/-- The head of the vector queue reads or writes one lane of storage, in no promised order (R102); what it finds in error it has
consumed (R368). -/
def State.vecLane (s : State) (p : Nat) (x : Cmd) (l : List (Ls × Nat × Nat × Option (List Byte))) : State :=
  let (s, y, _) := s.nextPiece ((List.range l.length).map (fun k => (k, 0)))
  let c := s.core p
  match l[y.1]? with
  | none => s
  | some (q, a, n, some b) => s.setCore p { c.put q a b with vGot := c.vGot ++ (upto a n).zip b }
  | some (q, a, n, none) =>
    if c.isBad q a n then (s.coreError p 5 a x.finder).vecConsume p x a
    else s.setCore p { c with vGot := c.vGot ++ (upto a n).zip ((c.mem q).readN a n) }

/-- One step of the vector queue (R349): the head moves one lane of storage, or is performed once it has moved all, unless it waits for a
fill or a record of the engine is on its way (R34), or reads a tile register in error (R368; its address is the model's, `2048 t` plus that
of the byte in tile `t`). -/
def State.drainVector (s : State) (p : Nat) : State :=
  let c := s.core p
  match c.vq with
  | [] => s
  | x :: r =>
    if c.vecTouches x || c.recs.any (fun e => e.1 == 5) then s
    else
      let pop (t : State) : State := t.modCore p (fun c => if c.life = .sealed then c else { c with vq := r, vGot := [] })
      match c.badTileUnit x, c.vecLanes x with
      | some u, _ => pop ((s.coreError p 5 (64 * u) x.finder).vecConsume p x (64 * u))
      | none, [] => pop (s.vecPerform p x)
      | none, l =>
        let t := s.vecLane p x l
        if ((t.core p).vecLanes x).isEmpty && (t.core p).life != .sealed then pop (t.vecPerform p x) else t

end Sys2Proof.Machine
end

