-- ==== Sys2Proof/Machine/Copy.lean ====
section
/-! DEFINITION. The copy engine (08): its queue and commands, transfers and their units, batches, demand-fill windows,
synchronisation words, refusals and faults. -/

namespace Sys2Proof.Machine

open Sys2Proof

/-! ## Operand words (R287, R288, Tables 08.1, 08.2) -/

/-- The side that a far address word names. -/
def State.farSide (s : State) (v : Nat) : Side :=
  match bits v 63 62 with
  | 1 => .core (bits v 51 32) (bits v 16 0)
  | 2 => if bits v 59 52 = s.chip then .glob (bits v 51 0) else .chipGlob (bits v 59 52) (bits v 51 0)
  | _ => .glob (bits v 51 0)

/-- The far address word of a side (Table 08.1). -/
def sideWord : Side → Nat
  | .glob va => va
  | .chipGlob ch va => 2 ^ 63 + ch * 2 ^ 52 + va
  | .core q a => 2 ^ 62 + q * 2 ^ 32 + a
  | .loc _ a => a

/-- A malformed far address word. -/
def farBad (v : Nat) : Bool :=
  let fk := bits v 63 62
  fk == 3 || bits v 61 60 != 0 || (fk != 2 && bits v 59 52 != 0) ||
    (fk == 1 && (bits v 31 17 != 0 || 192 ≤ coreOf (bits v 51 32)))

/-- Completion fields that the command may not use, or beyond their limits. -/
def endBad (w : Nat) (wceOK sweOK : Bool) : Bool :=
  (bit w 47 && !wceOK) || (bit w 63 && !sweOK) || 6144 ≤ bits w 60 48 || (!bit w 47 && bits w 46 44 != 0)

def farIsCore (v : Nat) : Bool := bits v 63 62 == 1

/-- The raise that a command asks for, and its window counter. -/
def raiseOf (w : Nat) : Option Nat := if bit w 63 then some (bits w 60 48) else none

def counterOf (w : Nat) : Option Nat := if bit w 47 then some (bits w 46 44) else none

/-- Element size and count of a gather word. -/
def gatherSize (w : Nat) : Nat := if bits w 43 42 = 0 then 4 else if bits w 43 42 = 1 then 8 else if bits w 43 42 = 2 then 64 else 256

def gatherCount (w : Nat) : Nat := bits w 35 24 + 1

/-- A limit that a command breaks: class, cause, side and address. -/
structure CopyBad where
  cls : Nat
  cause : Nat
  side : Nat
  addr : Nat
  deriving DecidableEq, Repr

/-- The broken limits of class 3 in the order of their causes, the first of which is reported (R286). -/
def firstBad (l : List (Bool × Nat × Nat × Nat)) : Option CopyBad :=
  let b := l.filter (·.1)
  (List.range 7).findSome? (fun k =>
    (b.find? (fun x => x.2.1 == k)).map (fun x => { cls := 3, cause := x.2.1, side := x.2.2.1, addr := x.2.2.2 }))

/-- A format fault. -/
def formatBad (l : List (Bool × Nat × Nat × Nat)) : Option CopyBad :=
  (l.find? (·.1)).map (fun x => { cls := 0, cause := x.2.1, side := x.2.2.1, addr := x.2.2.2 })

/-- What is wrong with a transfer's operands when it is taken: `a`, `b` and `w` are the values of `rs1`, `rs2`, `rs3`. DESIGN CHOICE: where
the format of a `cp.pack` breaks several rules of Table 02.7, whose causes the spec ranks nowhere for this engine (R57), cause 4 is reported
before 1, and 1 before 5; of a `cp.unpk` the source's alignment before the destination's. -/
def transferBad (op : Instr) (a b w : Nat) : Option CopyBad :=
  match op with
  | .cpGet _ _ _ ls =>
    let code := ls == .code
    firstBad [(bits w 62 61 != 0 || bits w 43 24 != 0, 1, 1, a), (farBad b, 2, 0, b),
      (code && (a % 4 != 0 || bits w 23 0 % 4 != 0), 3, 1, a), (endBad w false true, 5, 1, a)]
  | .cpPut _ _ _ _ =>
    firstBad [(bits w 62 61 != 0 || bits w 43 24 != 0, 1, 1, a), (farBad a, 2, 1, a), (endBad w true (farIsCore a), 5, 1, a)]
  | .cpGath _ _ _ _ =>
    firstBad [(bits w 62 61 != 0 || bits w 41 36 != 0 || bits w 23 17 != 0, 1, 1, a), (farBad b, 2, 0, b),
      (bits w 16 0 % 4 != 0, 3, 2, bits w 16 0), (endBad w false true, 5, 1, a)]
  | .cpScat _ _ _ _ =>
    firstBad [(bits w 62 61 != 0 || bits w 41 36 != 0 || bits w 23 17 != 0, 1, 1, a), (farBad a, 2, 1, a),
      (bits w 16 0 % 4 != 0, 3, 2, bits w 16 0), (endBad w true (farIsCore a), 5, 1, a)]
  | .cpUnpk _ _ _ ls =>
    let n := bits w 37 32 + 1
    let nb := bits w 27 16
    let wb := ls == .wb
    let top := if wb then 2 ^ 23 else 2 ^ 16
    (firstBad [(bits w 62 61 != 0 || bits w 43 38 != 0 || bits w 31 28 != 0 || bits w 15 0 != 0 || decide (top ≤ a), 1, 1, a),
      (farBad b, 2, 0, b),
      (nb == 0 || decide (2048 < nb) ||
        (wb && (decide (64 < bits a 22 17 + n) || decide (0x20000 < bits a 16 0 + 64 * nb))), 4, 1, a),
      (endBad w false true, 5, 1, a)]).orElse (fun _ =>
      formatBad [(b % 64 != 0, 5, 0, b), (a % 64 != 0, 5, 1, a)])
  | .cpPack _ _ _ _ =>
    let f := bits w 43 40
    (firstBad [(bit w 18, 1, 1, a), (bits w 62 61 != 0, 1, 1, a), (farBad a, 2, 1, a), (b % 4 != 0, 3, 0, b),
      (bits w 17 0 % 4 != 0, 3, 1, a), (bits w 31 19 == 0 || decide (4096 < bits w 31 19), 4, 1, a),
      (endBad w true (farIsCore a), 5, 1, a)]).orElse (fun _ =>
      formatBad [(f == 2, 4, 1, a), (!(f == 1 || f == 3 || f == 4 || f == 5), 1, 1, a), (a % 64 != 0, 5, 1, a)])
  | .cpFill _ _ _ _ =>
    firstBad [(bits w 62 61 != 0 || bits w 43 0 != 0, 1, 1, a), (endBad w false true, 5, 1, a)]
  | _ => none

/-! ## Issue (R285, R289, R291) -/

/-- The local spans of a transfer: kind, start and length. -/
def localSpans (op : Instr) (a b w : Nat) : List (Ls × Nat × Nat) :=
  let n := bits w 37 32 + 1
  let nb := bits w 27 16
  match op with
  | .cpGet _ _ _ ls => [(ls, a, bits w 23 0)]
  | .cpPut _ _ _ ls => [(ls, b, bits w 23 0)]
  | .cpGath _ _ _ ls => [(ls, a, gatherCount w * gatherSize w), (.sp, bits w 16 0, 4 * gatherCount w)]
  | .cpScat _ _ _ ls => [(ls, b, gatherCount w * gatherSize w), (.sp, bits w 16 0, 4 * gatherCount w)]
  | .cpUnpk _ _ _ ls =>
    if ls = .wb then
      let lo := bits a 22 17 * 0x20000 + bits a 16 0
      [(.wb, lo, (n - 1) * 0x20000 + 64 * nb)]
    else [(ls, bits a 15 0, 64 * n * nb)]
  | .cpPack _ _ _ ls => [(ls, b, bits w 39 32 * bits w 17 0 + 4 * bits w 31 19)]
  | .cpFill _ _ _ ls => [(ls, a, b)]
  | _ => []

/-- The first span that reaches beyond its space. -/
def spanOut (l : List (Ls × Nat × Nat)) : Option Nat := (l.find? (fun x => lsSize x.1 < x.2.1 + x.2.2)).map (·.2.1)

/-- A command enters the copy queue unless a local span reaches beyond its space. -/
def copyEnter (s : State) (i : Issued) (op : Instr) (tagged : Bool) (spans : List (Ls × Nat × Nat)) : State :=
  let n := i.core.cSeq + 1
  match spanOut spans with
  | some a => s.rangeFault s.who i.old .a 3 n 1 a
  | none => s.withAct { i.core with cSeq := n, cq := i.core.cq ++ [i.cmd op n tagged] } i.act

/-- Issue of a transfer. -/
def copyTransfer (s : State) (op : Instr) (a b c : Reg) : Host.Outcome State Fault Refusal :=
  issue s { st := .a, srcs := [a, b, c], enters := some .copy } (fun i =>
    copyEnter s i op false (localSpans op (v1 i.vals).toNat (v2 i.vals).toNat (v3 i.vals).toNat))

def execCpGet (a b c : Reg) (l : Ls) (s : State) : Host.Outcome State Fault Refusal := copyTransfer s (.cpGet a b c l) a b c
def execCpPut (a b c : Reg) (l : Ls) (s : State) : Host.Outcome State Fault Refusal := copyTransfer s (.cpPut a b c l) a b c
def execCpGath (a b c : Reg) (l : Ls) (s : State) : Host.Outcome State Fault Refusal := copyTransfer s (.cpGath a b c l) a b c
def execCpScat (a b c : Reg) (l : Ls) (s : State) : Host.Outcome State Fault Refusal := copyTransfer s (.cpScat a b c l) a b c
def execCpUnpk (a b c : Reg) (l : Ls) (s : State) : Host.Outcome State Fault Refusal := copyTransfer s (.cpUnpk a b c l) a b c
def execCpPack (a b c : Reg) (l : Ls) (s : State) : Host.Outcome State Fault Refusal := copyTransfer s (.cpPack a b c l) a b c
def execCpFill (a b c : Reg) (l : Ls) (s : State) : Host.Outcome State Fault Refusal := copyTransfer s (.cpFill a b c l) a b c

def execCpSeal (d : Reg) (s : State) : Host.Outcome State Fault Refusal :=
  issue s { st := .a, dst := .later d false, enters := some .copy } (fun i => copyEnter s i (.cpSeal d) true [])

/-- `cp.wait` holds the access stream; the wait is external (R302). -/
def execCpWait (a : Reg) (s : State) : Host.Outcome State Fault Refusal :=
  issue s { st := .a, srcs := [a], enters := some .copy, hold := some true } (fun i => copyEnter s i (.cpWait a) true [])

def execCpSt (d a : Reg) (s : State) : Host.Outcome State Fault Refusal :=
  issue s { st := .a, srcs := [a], dst := .later d false, enters := some .copy } (fun i =>
    copyEnter s i (.cpSt d a) true [])

def execFwSet (a b c : Reg) (s : State) : Host.Outcome State Fault Refusal :=
  issue s { st := .a, srcs := [a, b, c], enters := some .copy } (fun i => copyEnter s i (.fwSet a b c) false [])

def execFwClr (a : Reg) (s : State) : Host.Outcome State Fault Refusal :=
  issue s { st := .a, srcs := [a], enters := some .copy } (fun i => copyEnter s i (.fwClr a) false [])

/-- The span of a synchronisation word (R313). -/
def wordSpan (i : Issued) : List (Ls × Nat × Nat) := [(.sp, (v1 i.vals).toNat, 16)]

def execSwInit (a b : Reg) (s : State) : Host.Outcome State Fault Refusal :=
  issue s { st := .a, srcs := [a, b], enters := some .copy } (fun i => copyEnter s i (.swInit a b) false (wordSpan i))

def execSwWait (a b : Reg) (s : State) : Host.Outcome State Fault Refusal :=
  issue s { st := .a, srcs := [a, b], enters := some .copy, hold := some true } (fun i =>
    copyEnter s i (.swWait a b) true (wordSpan i))

def execSwRd (d a : Reg) (s : State) : Host.Outcome State Fault Refusal :=
  issue s { st := .a, srcs := [a], dst := .later d false, enters := some .copy } (fun i =>
    copyEnter s i (.swRd d a) true (wordSpan i))

/-! ## Batches (R299 to R303) -/

/-- Changes the record of a batch, which exists from its first use. -/
def Core.modBatch (c : Core) (num : Nat) (f : Batch → Batch) : Core :=
  if c.batches.any (fun b => b.num == num) then
    { c with batches := c.batches.map (fun b => if b.num = num then f b else b) }
  else { c with batches := c.batches ++ [f { num := num }] }

/-- The first error in the order in which the batch's commands were taken. -/
def Batch.record (b : Batch) (seq cls cause off : Nat) : Batch :=
  match b.err with
  | some (q, _) => if q ≤ seq then b else { b with err := some (seq, cls, cause, off) }
  | none => { b with err := some (seq, cls, cause, off) }

/-- Whether a sealed batch, or one before it, still has a transfer that is not performed: state 1. -/
def Core.unfinished (c : Core) (num : Nat) : Bool :=
  let upTo := (c.batches.takeWhile (fun b => b.num != num)).map (·.num) ++ [num]
  c.xfers.any (fun x => upTo.contains x.batch)

/-- Changes the record of a batch by an error that is found late: one that is complete stays so (R300), and of an expired one nothing is
kept (R299). -/
def Core.noteBatch (c : Core) (num : Nat) (f : Batch → Batch) : Core :=
  if c.batches.any (fun b => b.num == num && b.sealed) && !c.unfinished num then c
  else if num = c.batch ∨ c.batches.any (fun b => b.num == num) = true then c.modBatch num f
  else c

/-- The offset of a fill's next byte within the `cp.fill` that started it. -/
def Core.fillOff (c : Core) (f : Fill) (x : Xfer) : Nat :=
  match x.plan with
  | .fill _ lo _ => c.fills[Fin.ofNat 4 f.win].base + 512 * f.unit + f.bytes.length - lo
  | _ => 0

/-- The offset at which a transfer is parked, itself or by a fill that it started. -/
def Core.parkedAt (c : Core) (x : Xfer) : Option Nat :=
  if x.xl = .parked then some x.off
  else (c.filling.find? (fun f => f.by_ == .command x.ctx x.cmd.seq && f.xl == .parked)).map (fun f => c.fillOff f x)

/-- The sealed batches in state 1. -/
def Core.inFlight (c : Core) : Nat := (c.batches.filter (fun b => b.sealed && c.unfinished b.num)).length

/-- The status word (Table 08.8). -/
def Core.batchStatus (c : Core) (n : Nat) : Nat :=
  let d := (c.batch + 2 ^ 32 - n) % 2 ^ 32
  if n = 0 ∨ d ≥ 2 ^ 31 then 5 * 2 ^ 61
  else if d = 0 then 0
  else if d > 64 then 4 * 2 ^ 61
  else
    let b := (c.batches.find? (fun b => b.num == n)).getD { num := n }
    let ncmd := min 255 b.ncmd * 2 ^ 32
    if c.unfinished n then
      match c.xfers.findSome? (fun x => if x.batch = n then c.parkedAt x else none) with
      | some o => 2 ^ 61 + 2 ^ 60 + ncmd + o % 2 ^ 32
      | none => 2 ^ 61 + ncmd
    else
      match b.err with
      | none => 2 * 2 ^ 61 + ncmd
      | some (_, cls, cause, off) => 3 * 2 ^ 61 + cls * 2 ^ 48 + cause * 2 ^ 40 + ncmd + off % 2 ^ 32

/-- Sealing the open batch; the records of the 64 most recent sealed batches stay. -/
def Core.sealBatch (c : Core) : Core :=
  let c := c.modBatch c.batch (fun b => { b with sealed := true })
  let next := if c.batch = 2 ^ 32 - 1 then 1 else c.batch + 1
  { c with batch := next, batches := c.batches.drop (c.batches.length - 64) }

/-! ## Records (R316, Table 08.13) -/

/-- `cmd` of a record. -/
def copyCode (op : Instr) : Nat :=
  let w := (encode op).getD 0
  let m := fld w 25 6
  4 * (m - 0x26) + (if m ≤ 0x27 then fld w 3 2 else fld w 2 3)

/-- A copy fault. `glob` says that its address is global. -/
def copyRecord (p : Nat) (x : Cmd) (kind cls cause side addr : Nat) (glob : Bool) (code batch epoch off : Nat) : FaultRec :=
  { kind := kind, engine := 3, place := p, asid := x.asid, entry := x.ent, priv := x.priv, pc := x.pc, wid := x.wid.toNat
    cseq := x.seq, va := if glob then addr % 2 ^ 52 else 0
    detail := detail [(36, 1, cause), (37, 1, cls), (38, 1, side), (39, 1, code), (40, 8, addr), (48, 4, batch),
      (52, 4, epoch), (56, 4, off)] }

/-! ## Ends of transfers (R284, R317) -/

/-- A transfer counts as performed no earlier than those before it, and keeps its context until then. One whose units are still on
their way is remembered as a stray. -/
def Core.settleXfers (c : Core) : Core :=
  { c with xfers := c.xfers.dropWhile (fun x => x.perf)
           stray := c.stray ++ (c.xfers.takeWhile (fun x => x.perf)).filter (fun x => !x.out.isEmpty) }

def Core.setXfer (c : Core) (x : Xfer) : Core :=
  { c with xfers := c.xfers.map (fun y => if y.ctx = x.ctx then x else y) }

/-- The offset that a batch status reports: the piece index for gathers. -/
def Xfer.errOff (x : Xfer) (off : Nat) : Nat := match x.plan with | .gather esz _ => off / esz | _ => off

def sideGlob : Side → Bool
  | .glob _ => true
  | .chipGlob .. => true
  | _ => false

/-- An error of a transfer at an offset: its record is sent and its batch records it. With `stop` the transfer ends at that
moment. -/
def State.copyError (s : State) (p : Nat) (x : Xfer) (off cls cause side addr : Nat) (glob stop : Bool) : State :=
  let c := s.core p
  let c := c.modBatch x.batch (fun b => b.record x.cmd.seq cls cause (x.errOff off))
  let c := (c.setXfer { x with err := some (cls, cause, off), perf := stop || x.perf }).settleXfers
  (s.setCore p c).sendRecord (copyRecord p x.cmd 0x0B cls cause side addr glob (copyCode x.cmd.op) x.batch c.cEpoch off)

/-- The side of a record that is the far side, and the address there. -/
def Xfer.farRec (x : Xfer) : Nat := if x.get then 0 else 1

def sideAddr : Side → Nat
  | .glob va => va
  | .chipGlob _ va => va
  | .core _ a => a
  | .loc _ a => a

/-- A transfer is performed. -/
def State.copyDone (s : State) (p : Nat) (x : Xfer) : State :=
  s.modCore p (fun c => (c.setXfer { x with perf := true }).settleXfers)

/-! ## Taking a transfer (R283, R286, R292) -/

/-- A free transfer context. -/
def Core.freeCtx (c : Core) : Option Nat := (List.range 32).find? (fun k => c.xfers.all (fun x => x.ctx != k))

/-- The fill window that covers a range. -/
def Core.fillCovering (c : Core) (lo hi : Nat) : Option (Fin 4) :=
  (List.finRange 4).find? (fun w =>
    let f := c.fills[w]
    f.active && f.base ≤ lo && hi ≤ f.base + 512 * f.units)

/-- The transfer that a well-formed command starts. -/
def State.newXfer (s : State) (c : Core) (ctx : Nat) (x : Cmd) : Xfer :=
  let a := (v1 x.vals).toNat
  let b := (v2 x.vals).toNat
  let w := (v3 x.vals).toNat
  let y : Xfer := { ctx := ctx, cmd := x, batch := c.batch, get := true, ls := .sp, far := s.farSide b, loc := a,
                    swa := raiseOf w, wcn := counterOf w }
  match x.op with
  | .cpGet _ _ _ ls => { y with ls := ls, total := bits w 23 0 }
  | .cpPut _ _ _ ls => { y with get := false, ls := ls, far := s.farSide a, loc := b, total := bits w 23 0 }
  | .cpGath _ _ _ ls => { y with ls := ls, total := gatherCount w * gatherSize w, plan := .gather (gatherSize w) (bits w 16 0) }
  | .cpScat _ _ _ ls =>
    { y with get := false, ls := ls, far := s.farSide a, loc := b, total := gatherCount w * gatherSize w
             plan := .gather (gatherSize w) (bits w 16 0) }
  | .cpUnpk _ _ _ ls =>
    let n := bits w 37 32 + 1
    let nb := bits w 27 16
    { y with ls := ls, loc := (if ls = .wb then bits a 22 17 * 0x20000 + bits a 16 0 else bits a 15 0), total := 64 * n * nb
             plan := .unpack n nb }
  | .cpPack _ _ _ ls =>
    let f := bits w 43 40
    let rows := bits w 39 32 + 1
    let len := bits w 31 19
    let ne := if f = 1 then 124 else 62
    { y with get := false, ls := ls, far := s.farSide a, loc := b, total := 64 * rows * ceilDiv len ne
             plan := .pack f rows len (bits w 17 0) }
  | _ => { y with total := b, plan := .fill 0 a (a + b) }

/-- The engine takes the transfer at the head of its queue. -/
def execTransferTake (place : Nat) (s : State) : Host.Outcome State Fault Refusal :=
  let c := s.core place
  match c.cq, c.freeCtx with
  | x :: r, some ctx =>
    if c.recs.any (fun e => e.1 == 3) ∨ fld ((encode x.op).getD 0) 25 6 > 0x27 then .next s
    else
      let y := s.newXfer c ctx x
      let c := { c with cq := r, xfers := c.xfers ++ [y] }.modBatch c.batch (fun b => { b with ncmd := b.ncmd + 1 })
      let s := s.setCore place c
      match transferBad x.op (v1 x.vals).toNat (v2 x.vals).toNat (v3 x.vals).toNat with
      | some e => .next (s.copyError place y 0 e.cls e.cause e.side e.addr (e.side == y.farRec && sideGlob y.far) true)
      | none =>
        match y.plan with
        | .fill _ lo hi =>
          match c.fillCovering lo hi with
          | none => .next (s.copyError place y 0 3 6 1 lo false true)
          | some k => .next (s.setCore place (c.setXfer { y with plan := .fill k.val lo hi }))
        | _ => if y.total = 0 then .next (s.copyDone place y) else .next s
  | _, _ => .next s

/-! ## Units (R293, R295, R296) -/

/-- The bytes that a transfer reads and writes: spaces with spans; a gather or a layout stands for its whole space. -/
def spaceOf (p : Nat) : Side → Nat
  | .glob _ => 0
  | .chipGlob ch _ => 16 + ch
  | .core q _ => 1024 + q
  | .loc ls _ => if ls = .sp then 1024 + p else 1 + ls.num

/-- The transfer that a unit or a refusal belongs to, if it is not performed. -/
def Core.xferOf (c : Core) (ctx cseq : Nat) : Option Xfer :=
  c.xfers.find? (fun x => x.ctx == ctx && !x.perf && cseq == x.cmd.seq)

/-- The transfer that a unit belongs to, performed already. -/
def Core.strayOf (c : Core) (ctx cseq : Nat) : Option Xfer :=
  (c.stray ++ c.xfers).find? (fun x => x.ctx == ctx && x.perf && cseq == x.cmd.seq)

/-- Where the bytes of a transfer lie on the far side and on the local side. -/
def Xfer.farSpan (x : Xfer) (p : Nat) : Nat × Nat × Nat :=
  let a := sideAddr x.far
  match x.plan with
  | .gather .. => (spaceOf p x.far, 0, 2 ^ 64)
  | _ => (spaceOf p x.far, a, a + x.total)

def Xfer.nearSpan (x : Xfer) (p : Nat) : Nat × Nat × Nat :=
  let k := spaceOf p (.loc x.ls 0)
  match x.plan with
  | .plain | .gather .. => (k, x.loc, x.loc + x.total)
  | _ => (k, 0, 2 ^ 64)

def Xfer.listSpan (x : Xfer) (p : Nat) : List (Nat × Nat × Nat) :=
  match x.plan with
  | .gather esz l => [(spaceOf p (.loc .sp 0), l, l + 4 * (x.total / esz))]
  | _ => []

def spansMeet (x y : Nat × Nat × Nat) : Bool := x.1 == y.1 && x.2.1 < y.2.2 && y.2.1 < x.2.2

/-- What a transfer writes, and all that it reads or writes; a `cp.fill` writes its range and reads its window's source. -/
def Core.writesOf (_c : Core) (p : Nat) (x : Xfer) : Nat × Nat × Nat :=
  match x.plan with
  | .fill _ lo hi => (spaceOf p (.loc .sp 0), lo, hi)
  | _ => if x.get then x.nearSpan p else x.farSpan p

def Core.spansOf (c : Core) (p : Nat) (x : Xfer) : List (Nat × Nat × Nat) :=
  match x.plan with
  | .fill w lo hi =>
    let f := c.fills[Fin.ofNat 4 w]
    [(spaceOf p (.loc .sp 0), lo, hi), (spaceOf p f.src, sideAddr f.src, sideAddr f.src + 512 * f.units)]
  | _ => [x.farSpan p, x.nearSpan p] ++ x.listSpan p

/-- Whether a transfer must wait for an earlier one that is not performed, or has units on their way, and that writes or reads a byte
it writes (R314); a fill that an earlier `cp.fill` has started goes on after that command has ended. -/
def Core.xferWaits (c : Core) (p : Nat) (x : Xfer) : Bool :=
  c.filling.any (fun f =>
    match f.by_ with
    | .command _ n =>
      let w := c.fills[Fin.ofNat 4 f.win]
      let a := w.base + 512 * f.unit
      let b := sideAddr w.src + 512 * f.unit
      decide (n < x.cmd.seq) &&
        (spansMeet (spaceOf p (.loc .sp 0), a, a + 512) (c.writesOf p x) || spansMeet (spaceOf p w.src, b, b + 512) (c.writesOf p x))
    | _ => false) ||
  (c.stray ++ c.xfers.takeWhile (fun y => y.ctx != x.ctx)).any (fun y =>
    (!y.perf || !y.out.isEmpty) && (c.spansOf p y).any (spansMeet (c.writesOf p x)))

/-- The offset of the far byte that byte `off` of a command is paired with. -/
def Xfer.farOff (x : Xfer) : Nat :=
  match x.plan with
  | .gather esz _ => x.idx.getD 0 * esz + x.off % esz
  | _ => x.off

/-- The local address of a byte of a command. -/
def Xfer.locAt (x : Xfer) (off : Nat) : Nat :=
  match x.plan with
  | .unpack n nb =>
    let b := off / 64
    x.loc + (if x.ls = .wb then (b / nb) * 0x20000 + 64 * (b % nb) else 64 * ((b % nb) * n + b / nb)) + off % 64
  | _ => x.loc + off

/-- The length of the piece in progress and where it ends. -/
def Xfer.pieceEnd (x : Xfer) : Nat :=
  match x.plan with
  | .gather esz _ => (x.off / esz + 1) * esz
  | _ => x.total

def shiftSide (d : Side) (n : Nat) : Side :=
  match d with
  | .glob va => .glob (va + n)
  | .chipGlob ch va => .chipGlob ch (va + n)
  | .core q a => .core q (a + n)
  | .loc ls a => .loc ls (a + n)

/-- The format of a pack word. -/
def packFmt (f : Nat) : PackFmt := if f = 1 then .e2m1 else if f = 3 then .e4m3 else if f = 4 then .e5m2 else .int8

/-- Bytes of storage as they travel: those of a unit in error become a poisoned block (R296). -/
def poisonBytes (bad : Nat → Bool) (a : Nat) (b : List Byte) : List Byte :=
  b.zipIdx.map (fun x => if bad (a + x.2) then (if (a + x.2) % 64 = 0 then 0xF0 else 0) else x.1)

/-- Where the local bytes of the unit that leaves next lie: the values of a block of a `cp.pack` (R298), or the unit's own `n`. -/
def Xfer.unitSpan (x : Xfer) (n : Nat) : Nat × Nat :=
  match x.plan with
  | .pack f _ len stride =>
    let g := packFmt f
    let q := x.off / 64
    let nbr := ceilDiv len g.extent
    let e0 := (q % nbr) * g.extent
    (x.loc + (q / nbr) * stride + 4 * e0, 4 * min g.extent (len - e0))
  | _ => (x.locAt x.off, n)

/-- The bytes of the unit that leaves next, of the local bytes that have been read for it: as they are, or packed (R298). -/
def Xfer.unitBytes (x : Xfer) (b : List Byte) : List Byte :=
  match x.plan with
  | .pack f .. =>
    let g := packFmt f
    let vs := (List.range (b.length / 4)).map (fun i => laneVal (BitVec.ofNat 32 (leNat ((b.drop (4 * i)).take 4))))
    packBlock g x.cmd.rnd x.cmd.sat (vs ++ List.replicate (g.extent - b.length / 4) (.fin false 0 0))
  | _ => b

/-- The name and kind of the unit that a far side's packets go to, under an ASID. -/
def State.farName (s : State) (asid : Nat) : Side → Nat × Nat
  | .glob va => (s.sliceName (homeSlice asid va), 2)
  | .chipGlob ch va => (ch * 4096 + homeSlice asid va, 2)
  | .core q _ => (q, 0)
  | .loc _ _ => (0, 0)

/-- Sends a unit towards its destination; one sent before is not compared again. -/
def State.sendUnit (s : State) (u : CopyUnit) : State :=
  let (dst, kind) := s.farName u.asid u.dst
  if u.tries = 0 then s.send u.place 0 dst kind u.asid (.copyUnit u)
  else s.resend u.place 0 dst kind u.asid (.copyUnit u)

def State.sendGet (s : State) (g : GetReq) : State :=
  let (dst, kind) := s.farName g.asid g.src
  s.send g.place 0 dst kind g.asid (.getReq g)

/-- A segment's translation is asked for. -/
def State.askSegment (s : State) (p ctx va : Nat) (write : Bool) (win : Bool := false) : State :=
  let c := s.core p
  let h := homeSlice c.asid va
  s.send p 0 (s.sliceName h) 2 c.asid (.access h
    { place := p, act := 0, seq := 0, part := 0, asid := c.asid, va := va, n := 1, op := .xlate write, epoch := c.cEpoch,
      copy := some (ctx, va / 65536), win := win })

/-- The transfer after a unit of `n` bytes has been sent. -/
def Xfer.advance (x : Xfer) (n : Nat) : Xfer :=
  let o := x.off + n
  { x with off := o, out := x.out ++ [x.off], idx := if o = x.pieceEnd then none else x.idx, todo := none, got := [], hurt := false }

/-- What a unit carries of its command. -/
def Xfer.by_ (x : Xfer) : CopyBy :=
  { ent := x.cmd.ent, pc := x.cmd.pc, wid := x.cmd.wid.toNat, cseq := x.cmd.seq, priv := x.cmd.priv, code := copyCode x.cmd.op
    batch := x.batch, piece := match x.plan with | .gather esz _ => esz | _ => 1 }

/-- The size of the atomic units of a space (R102, Table 03.6). -/
def atomSize : Side → Nat
  | .core _ _ => 4
  | .loc .sp _ => 4
  | .loc .code _ => 4
  | _ => 8

/-- One unit of a transfer leaves, its far side being `d` with what its translation gave. The bytes of a put are read first, piece by
piece in no promised order (R102): a piece in error is read as poison, or consumed by a `cp.pack` (R55, R296). -/
def State.copyUnitOut (s : State) (p : Nat) (x : Xfer) (d : Side) (n pa : Nat) (uc pois : Bool) : State :=
  let c := s.core p
  if x.get then
    (s.setCore p (c.setXfer (x.advance n))).sendGet
      { place := p, ctx := x.ctx, asid := c.asid, src := d, off := x.off, n := n, pa := pa, uc := uc, pois := pois
        nt := x.cmd.nt, by_ := x.by_ }
  else
    let u : CopyUnit := { place := p, ctx := x.ctx, asid := c.asid, dst := d, off := x.off, bytes := [], swa := x.swa,
                          wcn := x.wcn, pa := pa, uc := uc, nt := x.cmd.nt, by_ := x.by_ }
    let (a, k) := x.unitSpan n
    let (s, y, r) := s.nextPiece (x.todo.getD (pieces a k (atomSize (.loc x.ls a))))
    let bad := c.isBad x.ls (a + y.1) y.2
    match x.plan, bad with
    | .pack .., true =>
      (s.coreError p 3 a x.cmd.finder).consume p 3 x.cmd.ent x.cmd.wid.toNat x.cmd.seq x.cmd.pc 0 0 1 a
        x.cmd.priv
    | _, _ =>
      let b := poisonBytes (fun _ => bad) (a + y.1) ((c.mem x.ls).readN (a + y.1) y.2)
      let z := { x with got := x.got ++ (upto (a + y.1) y.2).zip b, hurt := x.hurt || bad, todo := some r }
      if !r.isEmpty then s.setCore p (c.setXfer z)
      else
        let w := z.advance n
        let s := (s.setCore p (c.setXfer w)).sendUnit { u with bytes := x.unitBytes (gathered z.got a k) }
        if z.hurt then
          let s := s.coreError p 3 a x.cmd.finder
          if x.err.isNone then s.copyError p w x.off 4 1 0 a false false else s
        else s

/-- The next unit of a transfer, once its piece is known: its far address is checked, its segment translated, and the unit
sent. A transfer whose sides overlap writes each unit before it reads the next, and an error of a piece, or a translation,
waits for the units before it (R292, R293, R317). No unit leaves under a translation that an `rpl` is about to end (R225, R318). -/
def State.copyNext (s : State) (p : Nat) (x : Xfer) : State :=
  let c := s.core p
  let d := shiftSide x.far x.farOff
  let a := sideAddr d
  let n := min (64 - a % 64) (x.pieceEnd - x.off)
  let unit (pa : Nat) (uc pois : Bool) : State :=
    if sideGlob d && !s.rpling.isEmpty then s else
    if !x.out.isEmpty && spansMeet (x.farSpan p) (x.nearSpan p) then s else s.copyUnitOut p x d n pa uc pois
  let settled (t : State) : State := if x.out.isEmpty then t else s
  let ask (va : Nat) : State :=
    settled ((s.setCore p (c.setXfer { x with xl := .asked })).askSegment p x.ctx va (!x.get) x.wcn.isSome)
  match d with
  | .core _ _ =>
    if lsSize .sp < a + (x.pieceEnd - x.off) then settled (s.copyError p x x.off 3 4 x.farRec a false true)
    else unit 0 false false
  | .glob va =>
    if 2 ^ 52 ≤ va then settled (s.copyError p x x.off 1 8 x.farRec va true true)
    else
      match x.xl with
      | .ok seg pa uc pois => if seg = va / 65536 then unit (pa + va % 65536) uc pois else ask va
      | _ => ask va
  | .chipGlob _ va =>
    if 2 ^ 52 ≤ va then settled (s.copyError p x x.off 1 8 x.farRec va true true)
    else unit 0 false false
  | .loc .. => s

/-- Whether a fill window's range still has an absent unit, and its next unit that is not being filled. -/
def Core.fillLeft (c : Core) (w : Nat) (lo hi : Nat) : List Nat :=
  ((c.absent lo (hi - lo)).filter (fun x => x.1 == w)).map (·.2)

/-- One step of a `cp.fill`: it starts the fill of an absent unit, and ends when none is left (R308). -/
def State.fillCommand (s : State) (p : Nat) (x : Xfer) (w lo hi : Nat) : State :=
  let c := s.core p
  match c.fillLeft w lo hi with
  | [] => s.copyDone p x
  | us =>
    match us.find? (fun u => (c.fillOf w u).isNone) with
    | some u => s.setCore p (c.startFill w u x.cmd (.command x.ctx x.cmd.seq))
    | none => s

/-- Whether a transfer may send: a core of a pair sends in queue order (R449). -/
def Core.xferInTurn (c : Core) (x : Xfer) : Bool :=
  c.pair.isNone || c.xfers.all (fun y => y.cmd.seq ≥ x.cmd.seq || y.perf || y.total ≤ y.off)

/-- One step of a transfer. -/
def State.copyStep (s : State) (p ctx : Nat) : State :=
  let c := s.core p
  match c.xfers.find? (fun x => x.ctx == ctx) with
  | none => s
  | some x =>
    if x.perf || c.life == .sealed || c.recs.any (fun e => e.1 == 3) || c.xferWaits p x || !c.xferInTurn x then s
    else
      match x.plan with
      | .fill w lo hi => s.fillCommand p x w lo hi
      | _ =>
        if x.total ≤ x.off then (if x.out.isEmpty || x.wcn.isSome then s.copyDone p x else s)
        else if x.xl = .asked ∨ x.xl = .parked then s
        else
          match x.plan with
          | .gather esz l =>
            match x.idx with
            | some _ => s.copyNext p x
            | none =>
              let a := l + 4 * (x.off / esz)
              if c.isBad .sp a 4 && !x.out.isEmpty then s
              else if c.isBad .sp a 4 then (s.coreError p 3 a x.cmd.finder).copyError p x x.off 4 1 2 a false true
              else s.copyNext p { x with idx := some (c.sp.load a 4) }
          | .unpack .. => if x.out.isEmpty then s.copyNext p x else s
          | _ => s.copyNext p x

/-! ## Local writes (R295, R296, R375) -/

/-- Whether a core may write the weight buffer of its group: no other tenant owns it (R375). -/
def State.mayWriteWb (s : State) (p : Nat) : Bool :=
  match (s.group (groupOf p)).owner with
  | some a => a == (s.core p).asid
  | none => true

/-- Bytes of a copy are written into a core's storage (R375). -/
def State.copyWrite (s : State) (p : Nat) (ls : Ls) (a : Nat) (b : List Byte) : State :=
  match ls with
  | .wb =>
    let g := groupOf p
    let x := s.group g
    s.setGroup g { x with owner := some (s.core p).asid, wb := x.wb.write a b, bad := mendBad x.bad a b.length }
  | ls => s.modCore p (fun c => c.put ls a b)

/-- Bytes of code words that a unit brings: those of words that are whole now, and those that are kept until they are (R295). -/
def wholeWords (held : List (Nat × Option Byte)) (a : Nat) (b : List (Option Byte)) : List (Nat × Option Byte) × List (Nat × Option Byte) :=
  let all := held ++ (upto a b.length).zip b
  all.partition (fun x => (List.range 4).all (fun i => all.any (fun y => y.1 == x.1 / 4 * 4 + i)))

/-- Raises that a written unit carries (R311). -/
def State.postRaise (s : State) (p : Nat) (swa : Option Nat) (n : Nat) : State :=
  match swa with
  | some k => s.post (.syncWordRaise p (16 * k) n)
  | none => s

/-- A raise at the bank, as one step (R311). -/
def syncRaise (m : Mem) (a n : Nat) : Mem :=
  let tgt := m.load a 4
  let cnt := m.load (a + 4) 4 + n
  let fl := m.load (a + 10) 1
  if fl % 2 = 0 ∨ tgt = 0 then m
  else if cnt < tgt then m.store (a + 4) 4 cnt
  else
    let m := (m.store (a + 4) 4 0).store (a + 8) 2 ((m.load (a + 8) 2 + 1) % 65536)
    if tgt < cnt then m.store (a + 10) 1 (fl ||| 2) else m

def execSyncWordRaise (place spa n : Nat) (s : State) : Host.Outcome State Fault Refusal :=
  .next (s.modCore place (fun c => { c with sp := syncRaise c.sp spa n }))

/-! ## Arrival of units (R293, R294, R311) -/

/-- A unit of a transfer has been written at its coherence point, or will not be. -/
def Core.unitWritten (c : Core) (ctx cseq off : Nat) : Core :=
  let f (x : Xfer) : Xfer := if x.ctx = ctx ∧ x.cmd.seq = cseq then { x with out := x.out.erase off } else x
  { c with xfers := c.xfers.map f, stray := (c.stray.map f).filter (fun x => !x.out.isEmpty) }

/-- Answers a unit or get with a refusal. -/
def State.refuseCopy (s : State) (src kind : Nat) (place asid : Nat) (r : CopyRefusal) : State :=
  s.send src kind place 0 asid (.copyRefusal r)

/-- Raises that follow a unit: the word at the destination core, the source's counter, and the echo (R100, R336). -/
def State.afterUnit (s : State) (u : CopyUnit) : State :=
  let n := u.bytes.length
  let (src, kind) := s.farName u.asid u.dst
  let s := match u.dst with
    | .core q _ => s.postRaise q u.swa n
    | _ => s
  let s := match u.wcn with
    | some k => s.send src kind u.place 0 u.asid (.putAck u.place k n)
    | none => s
  let s := s.modBoth u.place (fun c => c.unitWritten u.ctx u.by_.cseq u.off)
  match u.echo with
  | some (q, k) => s.send src kind q 0 u.asidX (.echo q k n)
  | none => s

/-- A 64-byte unit of global memory that has been written whole is no longer in error (R503). -/
def State.mendAt (s : State) (h asid va pa n : Nat) : State :=
  if n ≠ 64 then s
  else
    let k := stackOf pa
    let s := s.setCtl k { s.ctl k with bad := (s.ctl k).bad.filter (· != pa / 64) }
    match (s.slice h).line asid va with
    | some l => s.setSlice h ((s.slice h).setLine { l with bad := false })
    | none => s

/-- The same of a unit that an agent which is no core has written by its address. -/
def State.mendGlobal (s : State) (asid va : Nat) : State :=
  let h := homeSlice asid va
  match s.translate h asid va true true with
  | (s, .ok pa _) => s.mendAt h asid va pa 64
  | (s, _) => s

/-- One piece of a unit is written at its destination, in no promised order (R102); once all have been, what follows the unit
happens. A window put has passed its check and is translated here, under its owner's ASID (R336). -/
def execCopyUnitArrival (u : CopyUnit) (s : State) : Host.Outcome State Fault Refusal :=
  let n := u.bytes.length
  match u.dst with
  | .core q a =>
    if u.wcn.isSome ∧ u.checked = false then .next s
    else
      let (s, x, r) := s.nextPiece (u.todo.getD (pieces a n (atomSize u.dst)))
      let s := s.modCore q (fun c => c.put .sp (a + x.1) ((u.bytes.drop x.1).take x.2))
      if r.isEmpty then .next ((s.modCore q (fun c => c.mend .sp a n)).afterUnit u)
      else .next (s.post (.copyUnitArrival { u with todo := some r }))
  | .glob va =>
    let asid := if u.wcn.isSome then u.asidX else u.asid
    let h := homeSlice asid va
    if u.wcn.isSome ∧ u.checked = false then .next s
    else if u.wcn.isSome ∧ u.todo.isNone then
      let refuse (s : State) (cls cause : Nat) : State :=
        s.refuseCopy (s.sliceName h) 2 u.place u.asid
          { place := u.place, ctx := u.ctx, off := u.off, cls := cls, cause := cause, far := va
            by_ := u.by_ }
      match s.translate h asid va true true with
      | (s, .fault k _ _) => .next (refuse s 1 k)
      | (s, .error pa) => .next (refuse (s.memError none 0 va pa) 4 1)
      | (s, .nokey _) => .next (refuse s 4 1)
      | (s, .ok pa e) => .next (s.post (.copyUnitArrival { u with pa := pa, uc := leafUc e, todo := some (pieces va n 8) }))
    else
      let (s, x, r) := s.nextPiece (u.todo.getD (pieces va n 8))
      match s.writeAt h asid (va + x.1) (u.pa + x.1) u.uc ((u.bytes.drop x.1).take x.2) u.nt with
      | (s, .nokey) =>
        match (s.core u.place).xferOf u.ctx u.by_.cseq with
        | some y => .next (s.noKey (stackOf u.pa) u.place u.asid y.cmd.ent y.cmd.pc va y.cmd.priv)
        | none => .next (s.noKey (stackOf u.pa) u.place u.asid u.by_.ent u.by_.pc va u.by_.priv)
      | (s, _) =>
        if r.isEmpty then .next ((s.mendAt h asid va u.pa n).afterUnit u)
        else .next (s.post (.copyUnitArrival { u with todo := some r }))
  | _ => .next s

/-- The far side of a get answers with its unit, or with poison for one in error (R292, R296). -/
def State.getAnswer (s : State) (g : GetReq) (bad : Bool) : State :=
  let (src, kind) := s.farName g.asid g.src
  let a := sideAddr g.src
  let z := poisonBytes (fun _ => true) a (List.replicate g.n 0)
  s.send src kind g.place 0 g.asid (.getData { req := { g with todo := none, got := [] }
                                               bytes := if bad then z else gathered g.got a g.n, poison := bad })

/-- A piece of a get's unit has been read: the next is read, or the unit returned once none is left. -/
def State.getPiece (s : State) (g : GetReq) (a : Nat) (b : List Byte) (rest : List (Nat × Nat)) : State :=
  let g := { g with got := g.got ++ (upto a b.length).zip b, todo := some rest }
  if rest.isEmpty then s.getAnswer g false else s.post (.copyGetRequestArrival g)

/-- The far side of a get reads one piece of its unit, in no promised order (R102), and returns the unit once it has read all (R292). -/
def execCopyGetRequestArrival (g : GetReq) (s : State) : Host.Outcome State Fault Refusal :=
  match g.src with
  | .core q a =>
    let (s, x, r) := s.nextPiece (g.todo.getD (pieces a g.n (atomSize g.src)))
    let c := s.core q
    if c.isBad .sp (a + x.1) x.2 then .next ((s.coreError q 3 a).getAnswer g true)
    else .next (s.getPiece g (a + x.1) (c.sp.readN (a + x.1) x.2) r)
  | .glob va =>
    if g.pois then .next (s.getAnswer g true)
    else
      let (s, x, r) := s.nextPiece (g.todo.getD (pieces va g.n (atomSize g.src)))
      match s.readAt (homeSlice g.asid va) g.asid (va + x.1) (g.pa + x.1) x.2 g.uc {} g.nt with
      | (s, .bytes b) => .next (s.getPiece g (va + x.1) b r)
      | (s, .error) => .next (s.getAnswer g true)
      | (s, .nokey) =>
        let c := s.core g.place
        match c.xferOf g.ctx g.by_.cseq, c.filling.find? (fun f => fillCtx f.win f.unit == g.ctx) with
        | some x, _ => .next (s.noKey (stackOf g.pa) g.place g.asid x.cmd.ent x.cmd.pc va x.cmd.priv)
        | none, some f => .next (s.noKey (stackOf g.pa) g.place g.asid f.cmd.ent f.cmd.pc va f.cmd.priv)
        | none, none => .next (s.noKey (stackOf g.pa) g.place g.asid 31 0 va false)
  | _ => .next s

/-! ## Fills (R306 to R308) -/

/-- The touching access of a failed fill has no effect. -/
def Core.dropToucher (c : Core) (f : Fill) : Core :=
  match f.by_ with
  | .touch true => { c with vq := c.vq.filter (fun x => x.seq != f.cmd.seq) }
  | .touch false => { c with lsq := c.lsq.filter (fun x => !(x.cmd.act == f.cmd.act && f.cmd.seq ≤ x.cmd.seq)) }
  | _ => c

/-- The source address of a fill's next byte. -/
def Core.fillAddr (c : Core) (f : Fill) : Side :=
  shiftSide c.fills[Fin.ofNat 4 f.win].src (512 * f.unit + f.bytes.length)

/-- Whether the lines that a fill reads get the lowest retention priority: those of a `cp.fill` that follows `hint.nt` (R291). -/
def Fill.nt (f : Fill) : Bool :=
  match f.by_ with
  | .command .. => f.cmd.nt
  | _ => false

/-- The stream of the access that touched a fill's unit. -/
def Fill.stream (f : Fill) : Nat := if f.by_ = .touch true then 1 else 0

/-- A fill fails: the unit stays absent. Where its walk fails, a touching access freezes the core (R307); a command ends in error
(R308); the batch that was open when `fw.set` was taken records the error of a `pre` (R286), unless it is complete (R300). -/
def State.fillFail (s : State) (p : Nat) (f : Fill) (cls cause : Nat) : State :=
  let c := s.core p
  let d := c.fillAddr f
  let a := if cls = 3 then sideWord d else sideAddr d
  let r := { copyRecord p f.cmd 0x0B cls cause 0 a (sideGlob d) 15 0 c.cEpoch (512 * f.unit + f.bytes.length) with stream := f.stream }
  let b := c.dropFill f.win f.unit
  match f.by_ with
  | .touch _ => if cls = 1 ∧ 7 ≤ cause then (s.setCore p (b.dropToucher f)).freezeCore p r else (s.setCore p b).sendRecord r
  | .pre n => (s.setCore p (b.noteBatch n (fun y => y.record f.cmd.seq cls cause 0))).sendRecord r
  | .command k n =>
    match c.xferOf k n with
    | none => (s.setCore p b).sendRecord r
    | some x => (s.setCore p b).copyError p x (c.fillOff f x) cls cause 0 a (sideGlob d) true

/-- A fill has read an uncorrectable error: a touching access has consumed it (R307). -/
def State.fillPoison (s : State) (p : Nat) (f : Fill) : State :=
  match f.by_ with
  | .touch _ =>
    let a := sideAddr ((s.core p).fillAddr f)
    s.consume p 3 f.cmd.ent f.cmd.wid.toNat f.cmd.seq f.cmd.pc f.stream a 1 a f.cmd.priv
  | _ => s.fillFail p f 4 1

/-- One step of a fill: its segment is translated, then its 512 bytes are read in units of 64. -/
def State.fillStep (s : State) (p w u : Nat) : State :=
  let c := s.core p
  match c.fillOf w u with
  | none => s
  | some f =>
    if c.recs.any (fun e => e.1 == 3) || f.asked || 512 ≤ f.bytes.length then s
    else
      let get (pa : Nat) (uc pois : Bool) : State :=
        (s.setCore p (c.setFill { f with asked := true })).sendGet
          { place := p, ctx := fillCtx w u, asid := c.asid, src := c.fillAddr f, off := f.bytes.length, n := 64, pa := pa
            uc := uc, pois := pois, nt := f.nt
            by_ := { ent := f.cmd.ent, pc := f.cmd.pc, wid := f.cmd.wid.toNat, cseq := f.cmd.seq, priv := f.cmd.priv } }
      match c.fillAddr f, f.xl with
      | .glob va, .none =>
        if 2 ^ 52 ≤ va then s.fillFail p f 1 8
        else (s.setCore p (c.setFill { f with xl := .asked })).askSegment p (fillCtx w u) va false
      | .glob va, .ok _ pa uc pois => if s.rpling.isEmpty then get (pa + va % 65536) uc pois else s
      | .chipGlob _ va, _ => if 2 ^ 52 ≤ va then s.fillFail p f 1 8 else get 0 false false
      | _, _ => s

/-- Whether an activation's earlier stores to the bytes that a fill will read are still to be performed, or an acquire before the
touching access is (R83, R96, R306): `x` is the touching access as an entry of the load-store queue. -/
def Core.fillHeld (c : Core) (w u : Nat) (x : LsEntry) : Bool :=
  c.acquiring x ||
  match c.fills[Fin.ofNat 4 w].src with
  | .glob va => (c.earlier { x with glob := true } { va := va + 512 * u, n := 512 }).isSome
  | _ => false

/-- An access that touches a unit: the `pre` of a window; a load or store that could be performed; or the head of the vector
queue. -/
def Core.toucher (c : Core) (w u : Nat) : Option (Cmd × FillBy) :=
  let f := c.fills[Fin.ofNat 4 w]
  match (if f.todo.contains u then f.pre else none) with
  | some x => some (x, .pre f.batch)
  | none =>
    match c.lsq.find? (fun x => !x.glob && x.op.access && (c.absent x.addr x.n).contains (w, u) &&
        (if x.op = .load then c.loadReady x else c.storeReady x) && !c.fillHeld w u x) with
    | some x => some (x.cmd, .touch false)
    | none =>
      match c.vq with
      | x :: _ =>
        match vecTouch x with
        | some (a, n) =>
          let y : LsEntry := { cmd := { x with seq := x.mark + 1 }, op := .load }
          if (c.absent a n).contains (w, u) && !c.fillHeld w u y then some (x, .touch true) else none
        | none => none
      | [] => none

/-- A touched unit starts to be filled (R306), unless a record of the engine is on its way (R34). -/
def execFillTouch (place w unit : Nat) (s : State) : Host.Outcome State Fault Refusal :=
  let c := s.core place
  match (if c.recs.any (fun e => e.1 == 3) then none else c.toucher w unit) with
  | none => .next s
  | some (x, b) =>
    let n := c.startFill w unit x b
    let k := Fin.ofNat 4 w
    let f := n.fills[k]
    let m : Core := { n with fills := n.fills.set k { f with todo := f.todo.erase unit } }
    .next (s.setCore place (if n.filling.length = c.filling.length then c else m))

/-- The 512 bytes of a unit have come: they are written piece by piece, in no promised order (R102), and then the unit is present
(R306). While a record of the engine is on its way it writes nothing (R34). -/
def execFillComplete (place w unit : Nat) (s : State) : Host.Outcome State Fault Refusal :=
  let c := s.core place
  match c.fillOf w unit with
  | none => .next s
  | some f =>
    let k := Fin.ofNat 4 w
    let x := c.fills[k]
    let a := x.base + 512 * unit
    if f.bytes.length < 512 ∨ c.recs.any (fun e => e.1 == 3) = true then .next s else
    let (s, y, r) := s.nextPiece (f.todo.getD (pieces a 512 (atomSize (.loc .sp a))))
    let c := c.put .sp (a + y.1) ((f.bytes.drop y.1).take y.2)
    if !r.isEmpty then .next (s.setCore place (c.setFill { f with todo := some r }))
    else
      let c := (c.dropFill w unit).mend .sp a 512
      let s := s.setCore place { c with fills := c.fills.set k { x with present := x.present ++ [unit], todo := x.todo.erase unit } }
      match f.by_ with
      | .command k n => .next (s.postRaise place ((c.xferOf k n).bind (fun y => y.swa)) 512)
      | _ => .next s

/-! ## Replies to the engine -/

/-- A segment's translation lets units move, or parks or ends the transfer or fill (R293, R318). One made before an `rpl` is made again
(R225), and one that a record of the engine finds on its way waits (R34). -/
def execCopySegmentTranslation (r : XlReply) (s : State) : Host.Outcome State Fault Refusal :=
  let p := r.place
  let c := s.core p
  if c.life = .sealed then .next s
  else if c.recs.any (fun e => e.1 == 3) then .next (s.post (.copySegmentTranslation r)) else
  let seg (x : Side) : Nat := sideAddr x / 65536
  match c.xfers.find? (fun x => x.ctx == r.ctx && x.xl == .asked && seg (shiftSide x.far x.farOff) == r.seg) with
  | some x =>
    let va := sideAddr (shiftSide x.far x.farOff)
    match r.res with
    | .translated =>
      if r.epoch ≠ c.cEpoch then .next (s.askSegment p x.ctx va (!x.get) x.wcn.isSome)
      else .next (s.setCore p (c.setXfer { x with xl := .ok r.seg (r.pa - va % 65536) r.uc r.pois }))
    | .nokey k => .next ((s.setCore p (c.setXfer { x with xl := .none })).noKey k p c.asid x.cmd.ent x.cmd.pc va x.cmd.priv)
    | .fault k _ _ _ =>
      if r.epoch ≠ c.cEpoch then .next (s.askSegment p x.ctx va (!x.get) x.wcn.isSome)
      else if k ≥ 7 then .next (s.copyError p x x.off 1 k x.farRec va true true)
      else
        let f := copyRecord p x.cmd 0x0B 1 k x.farRec va true (copyCode x.cmd.op) x.batch r.epoch x.off
        .next ((s.setCore p (c.setXfer { x with xl := .parked })).sendRecord { f with reply := true })
    | _ => .next (s.copyError p x x.off 4 1 x.farRec va true true)
  | none =>
    match c.filling.find? (fun f => fillCtx f.win f.unit == r.ctx && f.xl == .asked) with
    | none => .next s
    | some f =>
      let va := sideAddr (c.fillAddr f)
      match r.res with
      | .translated =>
        if r.epoch ≠ c.cEpoch then .next (s.askSegment p r.ctx va false)
        else .next (s.setCore p (c.setFill { f with xl := .ok r.seg (r.pa - va % 65536) r.uc r.pois }))
      | .nokey k => .next ((s.setCore p (c.dropFill f.win f.unit)).noKey k p c.asid f.cmd.ent f.cmd.pc va f.cmd.priv)
      | .fault k _ _ _ =>
        if r.epoch ≠ c.cEpoch then .next (s.askSegment p r.ctx va false)
        else if k ≥ 7 then .next (s.fillFail p f 1 k)
        else
          let q := { copyRecord p f.cmd 0x0B 1 k 0 va true 15 0 r.epoch (512 * f.unit + f.bytes.length) with stream := f.stream }
          .next ((s.setCore p (c.setFill { f with xl := .parked })).sendRecord { q with reply := true })
      | _ => .next (s.fillPoison p f)

/-- A segment of a transfer, or of a fill, that is parked. -/
inductive ParkedSeg where
  | xfer (x : Xfer)
  | fill (f : Fill)
  deriving DecidableEq, Repr

/-- Whether one parked segment comes before another in `cseq` order. DESIGN CHOICE: a fill that an access of another queue has touched has a
`cseq` of that queue; such fills come last. -/
def ParkedSeg.before (x y : ParkedSeg) : Bool :=
  let key (z : ParkedSeg) : Nat := match z with
    | .xfer x => x.cmd.seq
    | .fill f => match f.by_ with | .touch _ => 2 ^ 64 | _ => f.cmd.seq
  decide (key x < key y)

/-- Puts a parked segment in its place among those in `cseq` order. -/
def ParkedSeg.insert (x : ParkedSeg) : List ParkedSeg → List ParkedSeg
  | [] => [x]
  | y :: r => if x.before y then x :: y :: r else y :: x.insert r

/-- Every parked segment of a core is sent again, in `cseq` order (R318). -/
def State.replaySegments (s : State) (p : Nat) : State :=
  let c := s.core p
  let l := (c.xfers.filter (fun x => x.xl == .parked)).map ParkedSeg.xfer ++ (c.filling.filter (fun f => f.xl == .parked)).map .fill
  (l.foldl (fun a x => x.insert a) []).foldl (fun s z =>
    match z with
    | .xfer x => (s.modCore p (fun c => c.setXfer { x with xl := .asked })).askSegment p x.ctx (sideAddr (shiftSide x.far x.farOff))
        (!x.get) x.wcn.isSome
    | .fill f => (s.modCore p (fun c => c.setFill { f with xl := .asked })).askSegment p (fillCtx f.win f.unit) (sideAddr (c.fillAddr f)) false) s

/-- What segments were translated to before an `rpl` counts no longer: what is left of them is translated anew (R225, R227). -/
def Core.forgetSegments (c : Core) : Core :=
  let f (x : XlSt) : XlSt := match x with | .ok .. => .none | y => y
  { c with xfers := c.xfers.map (fun x => { x with xl := f x.xl }), filling := c.filling.map (fun y => { y with xl := f y.xl }) }

/-- One piece of get data is written to local storage, in no promised order (R102); once all have been, what follows the unit
happens: a raise counts `cnt` bytes. -/
def State.localPiece (s : State) (p : Nat) (x : Xfer) (d : GetData) (l : List (Nat × Nat)) (cnt : Nat) : State :=
  let a := x.locAt d.req.off
  let n := d.bytes.length
  let (s, y, r) := s.nextPiece l
  let s := s.copyWrite p x.ls (a + y.1) ((d.bytes.drop y.1).take y.2)
  if !r.isEmpty then s.post (.copyGetDataArrival { d with todo := some r })
  else
    let s := match x.ls with
      | .code => if d.poison then s else s.modCore p (fun c => c.mend .code a n)
      | .wb => s.setGroup (groupOf p) { s.group (groupOf p) with bad := mendBad (s.group (groupOf p)).bad a n }
      | ls => s.modCore p (fun c => c.mend ls a n)
    let s := (s.modCore p (fun c => c.unitWritten x.ctx x.cmd.seq d.req.off)).postRaise p x.swa cnt
    if d.poison && x.err.isNone then
      match (s.core p).xferOf x.ctx x.cmd.seq with
      | some z => s.copyError p z d.req.off 4 1 0 (sideAddr d.req.src) (sideGlob d.req.src) false
      | none => s
    else s

/-- Bytes for the code store, and how many have come to their end: whole words are written, bytes of a word that has not come whole are
kept and counted with it (R104), and a word with a byte of a source unit in error is left as it is, so that no word is mixed (R174, R295,
R296). -/
def State.codeBytes (s : State) (p : Nat) (x : Xfer) (d : GetData) : State × Nat :=
  let a := x.locAt d.req.off
  let (whole, rest) := wholeWords x.held a (d.bytes.map (fun b => if d.poison then none else some b))
  let clean (y : Nat × Option Byte) : Bool := whole.all (fun z => z.1 / 4 != y.1 / 4 || z.2.isSome)
  (s.modCore p (fun c => whole.foldl (fun (c : Core) y =>
    match y.2 with
    | some b => if clean y then c.put .code y.1 [b] else c
    | none => c) (c.setXfer { x with held := rest })), whole.length)

/-- Get data arrive and are written to local storage; a block that a `cp.unpk` lays out is checked first (R297). While a record of
the engine is on its way it writes nothing (R34). -/
def execCopyGetDataArrival (d : GetData) (s : State) : Host.Outcome State Fault Refusal :=
  let p := d.req.place
  let c := s.core p
  if c.recs.any (fun e => e.1 == 3) then .next (s.post (.copyGetDataArrival d))
  else
    match c.xfers.find? (fun x => x.ctx == d.req.ctx && x.cmd.seq == d.req.by_.cseq && x.out.contains d.req.off && !x.perf) with
    | some x =>
      let a := x.locAt d.req.off
      let cause : Option Nat := match x.plan with
        | .unpack .. => if d.poison then none else (match blockCheck d.bytes with | some (.cause k) => some k | _ => none)
        | _ => none
      match d.todo, cause with
      | some l, _ => .next (s.localPiece p x d l d.bytes.length)
      | none, some k => .next (s.copyError p x d.req.off 0 k 0 (sideAddr d.req.src) (sideGlob d.req.src) true)
      | none, none =>
        if x.ls = .wb ∧ s.mayWriteWb p = false then .next (s.copyError p x d.req.off 2 3 1 a false true)
        else if x.ls = .code then
          let (s, n) := s.codeBytes p x d
          .next (s.localPiece p x d [] n)
        else .next (s.localPiece p x d (pieces a d.bytes.length (atomSize (.loc x.ls a))) d.bytes.length)
    | none =>
      match c.filling.find? (fun f => fillCtx f.win f.unit == d.req.ctx && f.asked) with
      | none => .next (s.modCore p (fun c => c.unitWritten d.req.ctx d.req.by_.cseq d.req.off))
      | some f =>
        if d.poison then .next (s.fillPoison p f)
        else .next (s.setCore p (c.setFill { f with asked := false, bytes := f.bytes ++ d.bytes }))

/-- The record of an error that a unit of a window put meets after its command has been performed (R16, R316, R345). -/
def Core.lateRecord (c : Core) (p : Nat) (b : CopyBy) (kind cls cause off : Nat) (far : Side) (addr : Nat) : FaultRec :=
  { kind := kind, engine := 3, place := p, asid := c.asid, entry := b.ent, priv := b.priv, pc := b.pc, wid := b.wid, cseq := b.cseq
    va := if sideGlob far then addr % 2 ^ 52 else 0
    detail := detail [(36, 1, cause), (37, 1, cls), (38, 1, 1), (39, 1, b.code), (40, 8, addr), (48, 4, b.batch),
      (52, 4, c.cEpoch), (56, 4, off)] }

/-- Its batch records it, unless the batch is complete, which it then stays (R300), or expired. -/
def Core.lateNote (c : Core) (x : Xfer) (off cls cause : Nat) : Core :=
  c.noteBatch x.batch (fun b => b.record x.cmd.seq cls cause (x.errOff off))

/-- A transfer that is performed has its first late error. -/
def Core.failStray (c : Core) (x : Xfer) (off cls cause : Nat) : Core :=
  let f (y : Xfer) : Xfer := if y.ctx = x.ctx ∧ y.cmd.seq = x.cmd.seq then { y with err := some (cls, cause, off) } else y
  { c with stray := c.stray.map f, xfers := c.xfers.map f }

/-- An error of a unit: it ends the command (R294, R317). One of a window put that a target refuses under R336 is a fault of kind
0x06, which freezes the core, and its batch records class 2, cause 3 (R345). A unit of a command that has ended in error adds
nothing; one of a put that counts as performed is an error of its own. -/
def State.unitError (s : State) (p : Nat) (r : CopyRefusal) : State :=
  let c := s.core p
  let (cls, cause) := if r.window then (2, 3) else (r.cls, r.cause)
  match c.xferOf r.ctx r.by_.cseq, c.strayOf r.ctx r.by_.cseq with
  | some x, _ =>
    let x := { x with out := x.out.erase r.off }
    if r.window then
      let f := copyRecord p x.cmd 0x06 2 1 1 r.far (sideGlob x.far) (copyCode x.cmd.op) x.batch c.cEpoch r.off
      let c := (c.modBatch x.batch (fun b => b.record x.cmd.seq cls cause (x.errOff r.off))).setXfer
        { x with err := some (cls, cause, r.off), perf := true }
      (s.setCore p c.settleXfers).freezeCore p f
    else s.copyError p x r.off cls cause x.farRec r.far (sideGlob x.far) true
  | none, some x =>
    if x.err.isSome then s.modCore p (fun c => c.unitWritten r.ctx r.by_.cseq r.off)
    else
      let c := ((c.lateNote x r.off cls cause).failStray x r.off cls cause).unitWritten r.ctx r.by_.cseq r.off
      if r.window then (s.setCore p c).freezeCore p (c.lateRecord p r.by_ 0x06 2 1 r.off x.far r.far)
      else (s.setCore p c).sendRecord (c.lateRecord p r.by_ 0x0B cls cause r.off x.far r.far)
  | none, none =>
    match c.filling.find? (fun f => fillCtx f.win f.unit == r.ctx && f.cmd.seq == r.by_.cseq) with
    | some f => s.fillFail p f cls cause
    | none => s

/-- A unit of a core's engine has been refused: while a record of the engine is on its way, that waits (R34); a sealed core's engine
raises nothing more (R319). -/
def State.copyRefused (s : State) (r : CopyRefusal) : State :=
  let c := s.core r.place
  if c.life = .sealed then s
  else if c.recs.any (fun e => e.1 == 3) then s.post (.copyRefusalArrival r)
  else s.unitError r.place r

/-- A refusal reaches the engine. -/
def execCopyRefusalArrival (r : CopyRefusal) (s : State) : Host.Outcome State Fault Refusal := .next (s.copyRefused r)

/-- A unit or get that met a core being evicted is sent again every 1 µs, until the retry limit ends the command (R294,
R459). -/
def State.copyRetried (s : State) (m : CopyMsg) : State :=
  let (p, ctx, off, tries, b, d) := match m with
    | .unit u => (u.place, u.ctx, u.off, u.tries, u.by_, u.dst)
    | .get g => (g.place, g.ctx, g.off, g.tries, g.by_, g.src)
  let m' : CopyMsg := match m with
    | .unit u => .unit { u with tries := u.tries + 1 }
    | .get g => .get { g with tries := g.tries + 1 }
  if tries + 1 < 1024 then s.after us (.copyRetryResend m')
  else s.copyRefused { place := p, ctx := ctx, off := off, cls := 5, cause := 1, far := sideAddr d, by_ := b }

/-- A unit is sent again unless its command has ended in error. -/
def execCopyRetryResend (m : CopyMsg) (s : State) : Host.Outcome State Fault Refusal :=
  let live (p ctx seq off : Nat) : Bool :=
    (((s.core p).xfers ++ (s.core p).stray).any (fun x =>
      x.ctx == ctx && x.cmd.seq == seq && x.out.contains off && (!x.perf || x.err.isNone)))
  match m with
  | .unit u =>
    if live u.place u.ctx u.by_.cseq u.off then .next (s.sendUnit u)
    else .next (s.modCore u.place (fun c => c.unitWritten u.ctx u.by_.cseq u.off))
  | .get g =>
    if g.ctx ≥ 32 ∨ live g.place g.ctx g.by_.cseq g.off = true then .next (s.sendGet g)
    else .next (s.modCore g.place (fun c => c.unitWritten g.ctx g.by_.cseq g.off))

/-! ## Commands that are not transfers (R284, R299 to R313) -/

/-- An error of such a command is recorded by the open batch (R286). -/
def State.copyCommandError (s : State) (p : Nat) (x : Cmd) (cause side addr : Nat) (glob : Bool := false) : State :=
  let c := s.core p
  (s.setCore p (c.modBatch c.batch (fun b => b.record x.seq 3 cause 0))).sendRecord
    (copyRecord p x 0x0B 3 cause side addr glob (copyCode x.op) c.batch c.cEpoch 0)

/-- `fw.set` (R305). -/
def State.fillWindow (s : State) (p : Nat) (x : Cmd) : State :=
  let c := s.core p
  let a := (v1 x.vals).toNat
  let b := (v2 x.vals).toNat
  let fl := (v3 x.vals).toNat
  let k := Fin.ofNat 4 (bits a 49 48)
  let base := bits a 16 0
  let n := bits a 38 32
  let fk := bits b 63 62
  match firstBad [(bits a 63 50 != 0 || bits a 47 39 != 0 || bits a 31 17 != 0 || decide (2 ≤ fl), 1, 1, base),
      (farBad b, 2, 0, b), (base % 512 != 0, 3, 1, base), (b % 512 != 0 || fk == 1, 3, 0, b),
      (n == 0 || decide (64 < n), 4, 1, base)] with
  | some e => s.copyCommandError p x e.cause e.side e.addr (e.side == 0 && sideGlob (s.farSide b))
  | none =>
    let clash := (List.finRange 4).any (fun j =>
      let f := c.fills[j]
      f.active && (j == k || (f.base < base + 512 * n && base < f.base + 512 * f.units)))
    if clash ∨ lsSize .sp < base + 512 * n then s.copyCommandError p x 6 1 base
    else
      let f : FillWin := { active := true, base := base, units := n, src := s.farSide b, pre := if fl = 1 then some x else none
                           batch := c.batch, todo := if fl = 1 then List.range n else [] }
      s.setCore p { c with fills := c.fills.set k f }

/-- `sw.init`'s word (R312). -/
def initWord (m : Mem) (a v : Nat) : Mem :=
  m.write a (leBytes 4 (bits v 31 0) ++ leBytes 4 0 ++ leBytes 2 (bits v 47 32) ++ leBytes 6 1)

/-- A command of majors 0x28 and 0x29 at the head of the queue; none while it keeps the head. -/
def State.copyCommand (s : State) (p : Nat) (x : Cmd) : Option State :=
  let c := s.core p
  let a := (v1 x.vals).toNat
  let give (s : State) (v : Nat) : State := s.deliver p x.act x.tag (BitVec.ofNat 64 v)
  match x.op with
  | .cpSeal _ => if c.inFlight ≥ 63 ∧ c.unfinished c.batch = true then none else some (give (s.setCore p c.sealBatch) c.batch)
  | .cpWait _ => if a ≥ 64 ∨ c.inFlight ≤ a then some (give s 0) else none
  | .cpSt _ _ => some (give s (c.batchStatus (a % 2 ^ 32)))
  | .fwSet _ _ _ => some (s.fillWindow p x)
  | .fwClr _ =>
    if a ≥ 4 then some (s.copyCommandError p x 1 1 a)
    else if !c.xfers.isEmpty || c.filling.any (fun f => f.win == a) || !c.fills[Fin.ofNat 4 a].todo.isEmpty then none
    else some (s.setCore p { c with fills := c.fills.set (Fin.ofNat 4 a) {} })
  | .swInit _ _ =>
    let v := (v2 x.vals).toNat
    match firstBad [(bits v 63 48 != 0, 1, 1, a), (a % 16 != 0, 3, 1, a)] with
    | some e => some (s.copyCommandError p x e.cause e.side e.addr)
    | none => some (s.setCore p { c with sp := initWord c.sp a v })
  | .swWait _ _ =>
    if a % 16 ≠ 0 then some (give (s.copyCommandError p x 3 1 a) 0)
    else if c.isBad .sp a 16 then
      some ((s.coreError p 3 a x.finder).consume p 3 x.ent x.wid.toNat x.seq x.pc 0 0 1 a x.priv)
    else if (c.sp.load (a + 8) 2 + 65536 - (v2 x.vals).toNat % 65536) % 65536 < 32768 then some (give s 0)
    else none
  | .swRd _ _ =>
    if a % 16 ≠ 0 then some (give (s.copyCommandError p x 3 0 a) 0)
    else if c.isBad .sp a 16 then
      some ((s.coreError p 3 a x.finder).consume p 3 x.ent x.wid.toNat x.seq x.pc 0 0 1 a x.priv)
    else some (give s (c.sp.load (a + 4) 4 * 2 ^ 32 + c.sp.load (a + 10) 2 * 2 ^ 16 + c.sp.load (a + 8) 2))
  | _ => none

/-- One step of the copy queue for a command that is not a transfer. -/
def State.drainCopy (s : State) (p : Nat) : State :=
  let c := s.core p
  match c.cq with
  | [] => s
  | x :: r =>
    if c.recs.any (fun e => e.1 == 3) then s
    else
      match s.copyCommand p x with
      | none => s
      | some t => t.modCore p (fun c => if c.life = .sealed then c else { c with cq := r })

end Sys2Proof.Machine
end

