-- ==== Sys2Proof/Machine/Global.lean ====
section
/-! DEFINITION. Global memory as agents that are no core reach it: controllers, schedulers and the host port read and write
byte strings of an ASID. Launch headers (04). -/

namespace Sys2Proof.Machine

open Sys2Proof

/-! ## Byte strings of global memory -/

/-- The spans of one line each that `n` bytes from an address make up. -/
def lineSpans (va n : Nat) : List (Nat × Nat) :=
  (linesOf va n).map (fun l => (max va (64 * l), min (va + n) (64 * l + 64) - max va (64 * l)))

/-- Bytes of one line, read at their coherence point; where the access faults or fails, the class and cause that a copy
would have (Table 08.12). -/
def State.fetchLine (s : State) (asid va n : Nat) : State × Except (Nat × Nat) (List Byte) :=
  let h := homeSlice asid va
  if 2 ^ 52 ≤ va then (s, .error (1, 8))
  else
    match s.locate h asid va false false with
    | (s, .fault k _ _) => (s, .error (1, k))
    | (s, .error pa) => (s.memError none 0 va pa, .error (4, 1))
    | (s, .nokey _) => (s, .error (4, 1))
    | (s, .ok pa e) =>
      if leafPois e then (s, .error (4, 1))
      else
        match s.readAt h asid va pa n (leafUc e) with
        | (s, .bytes b) => (s, .ok b)
        | (s, _) => (s, .error (4, 1))

/-- Bytes of one line; none where the access faults or fails. -/
def State.globalLine (s : State) (asid va n : Nat) : State × Option (List Byte) :=
  match s.fetchLine asid va n with
  | (s, .ok b) => (s, some b)
  | (s, .error _) => (s, none)

/-- Bytes read line by line, up to the first access that faults or fails. -/
def State.globalRead (s : State) (asid va n : Nat) : State × Option (List Byte) :=
  (lineSpans va n).foldl (fun x l =>
    match x with
    | (s, none) => (s, none)
    | (s, some b) =>
      match s.globalLine asid l.1 l.2 with
      | (s, none) => (s, none)
      | (s, some d) => (s, some (b ++ d))) (s, some [])

/-- Bytes of one line, written at their coherence point; whether they were. -/
def State.globalPut (s : State) (asid va : Nat) (b : List Byte) : State × Bool :=
  let h := homeSlice asid va
  if 2 ^ 52 ≤ va then (s, false)
  else
    match s.translate h asid va true true with
    | (s, .fault ..) => (s, false)
    | (s, .error pa) => (s.memError none 0 va pa, false)
    | (s, .nokey _) => (s, false)
    | (s, .ok pa e) =>
      match s.writeAt h asid va pa (leafUc e) b with
      | (s, .bytes _) => (s, true)
      | (s, _) => (s, false)

/-- Bytes written line by line, up to the first access that faults or fails. -/
def State.globalWrite (s : State) (asid va : Nat) (b : List Byte) : State × Bool :=
  (lineSpans va b.length).foldl (fun x l =>
    match x with
    | (s, false) => (s, false)
    | (s, true) => s.globalPut asid l.1 ((b.drop (l.1 - va)).take l.2)) (s, true)

/-! ## Launch headers (R136, R138, Table 04.17) -/

/-- The header in 64 bytes. -/
def launchOf (b : List Byte) : Launch :=
  let o := field b 8 1
  let w := field b 9 5
  { code := field b 0 6 % 2 ^ 46, csize := field b 6 2, prio := bits o 7 5, hard := bit o 4, paired := bit o 3, die := o % 4
    widths := w % 2 ^ 36, wid := field b 16 8, trip := field b 24 4, chunk := field b 28 2, gang := field b 30 2
    args := (List.range 4).map (fun i => field b (32 + 8 * i) 8)
    bad := decide (2 ^ 46 ≤ field b 0 6) || bit o 2 || decide (2 ^ 36 ≤ w) || field b 14 2 != 0 }

/-- A header is malformed (R138). -/
def launchMalformed (h : Launch) : Bool :=
  h.bad || h.csize == 0 || h.csize % 4 != 0 || decide (32768 < h.csize) ||
    decide (64 < ((List.range 6).map (fun k => bits h.widths (6 * k + 5) (6 * k))).sum) || h.trip == 0 || h.chunk == 0

/-- The record of a task (R429). -/
def recOf (h : Launch) (asid : Nat) : TaskRec :=
  { code := h.code, csize := h.csize, prio := h.prio, hard := h.hard, paired := h.paired, die := h.die, widths := h.widths
    wid := h.wid, args := h.args, gang := h.gang, asid := asid }

/-- The fields of a header fit a `spawn` (Table 13.8, code 4). -/
def fitSpawn (h : Launch) : Bool := h.trip == 1 && h.chunk == 1 && h.gang == 0

end Sys2Proof.Machine
end

