-- ==== Sys2Proof/Machine/Region.lean ====
section
/-! DEFINITION. Region controllers (09): regions with their marks, counts and actions; registered windows; window counters;
and the commands of majors 0x2A and 0x2B. -/

namespace Sys2Proof.Machine

open Sys2Proof

/-! ## Regions (R320, R321, R330) -/

def Ctl.region (c : Ctl) (i : Nat) : Region := mget c.regions i {}

def State.region (s : State) (k i : Nat) : Region := (s.ctl k).region i

def State.setRegion (s : State) (k i : Nat) (r : Region) : State :=
  let c := s.ctl k
  s.setCtl k { c with regions := mset c.regions i r }

def RgSt.code : RgSt → Nat
  | .free => 0 | .armed => 1 | .pending => 2 | .performing => 3 | .fired => 4 | .failed => 5

/-- The status word (Table 09.8). -/
def Region.word (r : Region) : Nat :=
  r.st.code * 2 ^ 60 + ofBool r.bnd * 2 ^ 59 + ofBool r.ovf * 2 ^ 58 + r.phase * 2 ^ 48 + r.cnt

/-- The word for no region's status (R330). -/
def noRegion : Nat := 7 * 2 ^ 60

/-- A region's name word without a length (Table 09.1). -/
def State.regionName (s : State) (k i : Nat) : Nat := s.ctlName k * 4096 + i

/-! ## Faults (R344) -/

/-- A region fault of a command, raised by a controller of this package. -/
def State.regFault (s : State) (k : Nat) (c : RegCmd) (cause rst adr : Nat) : State :=
  s.sendRecord
    { kind := 0x0C, engine := 4, place := s.ctlName k, skind := 1, asid := c.asid, entry := c.entry, priv := c.priv
      pc := c.pc, wid := c.wid, cseq := c.seq, va := adr
      detail := detail [(36, 1, cause), (37, 1, c.fn + if c.window then 8 else 0), (38, 1, rst),
        (40, 8, if c.window then c.v1 % 2 ^ 32 else c.v1), (48, 3, c.place), (56, 8, adr)] }

/-- The controller that raises what no named controller can raise (R332). -/
def proxyCtl (place : Nat) : Nat := 2 * dieOf place

/-- The target place and the address of a binding (Table 09.12). -/
def Binding.target : Binding → Nat × Nat
  | .none => (0, 0)
  | .barrier _ va => (0, va)
  | .launch _ name va => (name, va)
  | .wake _ place _ va => (place, va)
  | .gen place _ => (place, 0)
  | .notify _ => (0, 0)

/-- A region fault of an action. -/
def State.actionFault (s : State) (k i cause : Nat) : State :=
  let r := s.region k i
  let (from_, adr) := r.binding.target
  s.sendRecord
    { kind := 0x0C, engine := 4, place := s.ctlName k, skind := 1, asid := r.owner.getD 0, entry := 31, va := adr
      detail := detail [(36, 1, cause), (37, 1, 16), (38, 1, r.st.code), (40, 8, s.regionName k i), (48, 3, from_),
        (52, 4, r.phase), (56, 8, adr)] }

/-! ## Conversations (R271, R333) -/

def State.dropConn (s : State) (k : Nat) (n : Nat) : State :=
  let c := s.ctl k
  s.setCtl k { c with conns := c.conns.filter (fun x => x.num != n) }

def State.modConn (s : State) (k n : Nat) (f : Conn → Conn) : State :=
  let c := s.ctl k
  s.setCtl k { c with conns := c.conns.map (fun y => if y.num = n then f y else y) }

def State.setConn (s : State) (k : Nat) (x : Conn) : State := s.modConn k x.num (fun _ => x)

/-- A message of a controller to the core's endpoint of a connection. -/
def State.connSend (s : State) (k : Nat) (x : Conn) (m : ChanMsg) : State :=
  let s := s.setConn k { x with sseq := (x.sseq + 1) % 65536 }
  s.send (s.ctlName k) 1 x.place 0 x.asid
    (.chan { m with src := s.ctlName k, skind := 1, sep := 0, dst := x.place, dkind := 0, dep := x.ep, asid := x.asid, seq := x.sseq
                    conn := x.num })

/-- A request that faults or fails ends the conversation. -/
def State.connFail (s : State) (k : Nat) (x : Conn) : State :=
  (s.connSend k x { chanMsg .errorNotice with code := 18 }).dropConn k x.num

/-! ## Actions (R326 to R329) -/

/-- One attempt of a region's action, by the binding that stands now (Table 09.4). -/
def State.attempt (s : State) (k i : Nat) : State :=
  let r := s.region k i
  if r.flight then s
  else
    let s := s.setRegion k i { r with flight := true, rebound := false }
    let asid := r.owner.getD 0
    let answer (s : State) (a : ActAns) : State := s.post (.actionAttemptAnswer k i a)
    match r.binding with
    | .none => answer s .accepted
    | .barrier arg va =>
      match s.globalWrite asid va (leBytes 8 arg) with
      | (s, ok) => answer s (if ok then .accepted else .refused)
    | .launch h name _ =>
      if !fitSpawn h then answer s .refused
      else s.send (s.ctlName k) 1 name 3 asid (.handoff (dieOf name) (recOf h asid) (.region (s.ctlName k) i))
    | .wake ent place arg _ => s.send (s.ctlName k) 1 place 0 asid (.action place (.wake ent arg (s.ctlName k) i))
    | .gen place spa => s.send (s.ctlName k) 1 place 0 asid (.genAdv place spa (s.ctlName k) i)
    | .notify n =>
      match (s.ctl k).conns.find? (fun c => c.num == n) with
      | none => answer s .accepted
      | some c =>
        let m : ChanMsg := { sub := .data, src := s.ctlName k, skind := 1, sep := 0, dst := c.place, dep := c.ep, asid := c.asid
                             ty := 7, seq := c.sseq, payload := leBytes 16 r.word, cmd := i + 1, conn := c.num }
        let x := s.ctl k
        let s := s.setCtl k { x with conns := x.conns.map (fun y =>
          if y.num = n then { y with sseq := (y.sseq + 1) % 65536 } else y) }
        s.send (s.ctlName k) 1 c.place 0 c.asid (.chan m)

/-- An Armed region whose count has reached its total fires (R326). With kind 0 the action is accepted at once, so that a
region that arms itself again fires as often as the count holds the total. -/
def State.fireCheck (s : State) (k i : Nat) : State :=
  let r := s.region k i
  if r.st = .armed ∧ r.total ≤ r.cnt ∧ 0 < r.total then
    let n := if r.rearm = true ∧ r.bnd = true ∧ r.binding = .none then r.cnt / r.total else 1
    let r' := { r with phase := (r.phase + n) % 1024, cnt := if r.rearm then r.cnt - n * r.total else r.cnt, tries := 0
                       noted := false }
    if !r.bnd then s.setRegion k i { r' with st := .pending }
    else if r.binding = .none then s.setRegion k i { r' with st := if r.rearm then .armed else .fired }
    else (s.setRegion k i { r' with st := .performing }).attempt k i
  else s

/-- Bytes are counted at the home (R326). -/
def State.countAt (s : State) (k i n : Nat) : State :=
  let r := s.region k i
  if r.st = .free then s
  else
    let c := r.cnt + n
    (s.setRegion k i { r with cnt := min (2 ^ 48 - 1) c, ovf := r.ovf || decide (2 ^ 48 ≤ c) }).fireCheck k i

/-- An `rg.bind` of a core is acknowledged. -/
def State.tellBound (s : State) (k : Nat) (x : Nat × Nat × Nat × Nat) : State :=
  s.send (s.ctlName k) 1 x.1 0 x.2.2.2 (.regAck x.1 x.2.1 x.2.2.1 none)

/-- A core's `rg.bind` that waited for the first attempt's answer is acknowledged (R332). -/
def State.ackBind (s : State) (k i : Nat) : State :=
  let r := s.region k i
  match r.ack with
  | none => s
  | some x => (s.setRegion k i { r with ack := none }).tellBound k x

/-- The attempt that was in flight when its region was disarmed has been answered: so are the `rg.bind` that waited for it, and the
conversation that it was to notify, which is closed behind it, ends with an error notice (R332, R333). -/
def State.settleFreed (s : State) (k i : Nat) : State :=
  let r := s.region k i
  let s := r.owed.foldl (fun s x => s.tellBound k x) (s.setRegion k i { r with owed := [] })
  ((s.ctl k).conns.filter (fun x => x.ending && x.region == some i)).foldl (fun s x => s.connFail k x) s

/-- The action of this phase has failed (R328). -/
def State.actionFailed (s : State) (k i : Nat) : State :=
  let s := s.actionFault k i 8
  s.setRegion k i { s.region k i with st := .failed }

/-- The target answers an attempt (R327 to R329). A binding that was replaced while the attempt was in flight is tried next
unless the attempt was accepted; one that has been disarmed makes no further attempt. -/
def execActionAttemptAnswer (ctl idx : Nat) (a : ActAns) (s : State) : Host.Outcome State Fault Refusal :=
  let r := s.region ctl idx
  if !r.flight then .next s
  else
    let s := s.setRegion ctl idx { r with flight := false, stale := false }
    if r.stale then
      let s := s.settleFreed ctl idx
      .next (if r.st = .performing then s.attempt ctl idx else s)
    else if r.st ≠ .performing then .next s
    else
      let s := s.ackBind ctl idx
      let r := s.region ctl idx
      let again (s : State) : State := s.after us (.actionRetry ctl idx)
      match a with
      | .accepted => .next ((s.setRegion ctl idx { r with st := if r.rearm then .armed else .fired }).fireCheck ctl idx)
      | .refused => .next (if r.rebound then s.attempt ctl idx else s.actionFailed ctl idx)
      | .retry =>
        if r.rebound then .next (again s)
        else if r.tries + 1 ≥ 1024 then .next (s.actionFailed ctl idx)
        else .next (again (s.setRegion ctl idx { r with tries := r.tries + 1 }))
      | .unmatched =>
        if r.rebound ∨ r.noted = true then .next (again s)
        else .next (again ((s.actionFault ctl idx 9).setRegion ctl idx { r with noted := true }))

/-- A new attempt is due (R328). -/
def execActionRetry (ctl idx : Nat) (s : State) : Host.Outcome State Fault Refusal :=
  if (s.region ctl idx).st = .performing then .next (s.attempt ctl idx) else .next s

/-- The bank of a synchronisation word applies a generation advance (Table 09.4, kind 4). -/
def advanceWord (m : Mem) (a : Nat) : Mem :=
  if m.load (a + 10) 1 % 2 = 0 then m
  else (m.store (a + 4) 4 0).store (a + 8) 2 ((m.load (a + 8) 2 + 1) % 65536)

def execGenerationAdvance (place spa ctl idx : Nat) (s : State) : Host.Outcome State Fault Refusal :=
  .next ((s.modCore place (fun c => { c with sp := advanceWord c.sp spa })).send place 0 ctl 1
    (s.core place).asid (.actionAns (ctl % 8) idx .accepted))

/-! ## Counting (R97, R322, R323) -/

/-- How many bytes of a write fall under the marks of a region. -/
def bytesUnder (ms : List Mark) (home idx pa n : Nat) : Nat :=
  ((upto pa n).filter (fun b => ms.any (fun m => m.home == home && m.idx == idx && m.lo ≤ b && b < m.hi))).length

/-- The regions with a mark that covers a byte of a write. -/
def regionsUnder (ms : List Mark) (pa n : Nat) : List (Nat × Nat) :=
  ((ms.filter (fun m => m.lo < pa + n && pa < m.hi)).map (fun m => (m.home, m.idx))).eraseDups

/-- What a controller has counted for a region and not reported. -/
def Ctl.agg (c : Ctl) (home idx : Nat) : Nat :=
  match c.aggs.find? (fun a => a.1 == home && a.2.1 == idx) with
  | some a => a.2.2
  | none => 0

def Ctl.setAgg (c : Ctl) (home idx n : Nat) : Ctl :=
  let r := c.aggs.filter (fun a => !(a.1 == home && a.2.1 == idx))
  { c with aggs := if n = 0 then r else r ++ [(home, idx, n)] }

/-- Bytes counted away from home join the region's aggregate; a full one is reported (R97). -/
def State.aggregate (s : State) (k home idx n : Nat) : State :=
  let c := s.ctl k
  let old := c.agg home idx
  let t := old + n
  let report (s : State) (m : Nat) : State :=
    s.send (s.ctlName k) 1 (s.ctlName home) 1 ((s.region home idx).owner.getD 0) (.report home idx m (s.region home idx).arm)
  let left := if t < 256 then t else t - 256
  let s := s.setCtl k (c.setAgg home idx left)
  let s := if t < 256 then s else report s 256
  if left ≠ 0 ∧ (old = 0 ∨ 256 ≤ t) then s.after (512 * fabricCycle) (.aggregateTimer k home idx) else s

/-- A controller counts a write that has been performed: under the marks that were installed then and still are, by the numbers of
their `rg.arm` (R323). -/
def execCountReport (ctl pa : Nat) (n : Counted) (s : State) : Host.Outcome State Fault Refusal :=
  let ms := (s.ctl ctl).marks.filter (fun m => n.arms.contains (m.home, m.arm))
  .next ((regionsUnder ms pa n.n).foldl (fun s r =>
    let b := bytesUnder ms r.1 r.2 pa n.n
    if r.1 = ctl then s.countAt ctl r.2 b else s.aggregate ctl r.1 r.2 b) s)

/-- Another controller's aggregate reaches the home; one of marks that have been replaced since counts nothing (R323). -/
def execArrivalReport (ctl idx : Nat) (n : Reported) (s : State) : Host.Outcome State Fault Refusal :=
  if (s.region ctl idx).arm = n.arm then .next (s.countAt ctl idx n.n) else .next s

/-- A partial aggregate is reported. -/
def execAggregateTimer (ctl home idx : Nat) (s : State) : Host.Outcome State Fault Refusal :=
  let c := s.ctl ctl
  let n := c.agg home idx
  if n = 0 then .next s
  else .next ((s.setCtl ctl (c.setAgg home idx 0)).send (s.ctlName ctl) 1 (s.ctlName home) 1
    ((s.region home idx).owner.getD 0) (.report home idx n (s.region home idx).arm))

/-! ## Arming (R322, R332) -/

/-- The physical pieces of a range, page by page as `xprobe` translates them; the address at which a walk fails. -/
def State.piecesOf (s : State) (asid hi : Nat) : Nat → Nat → Except Nat (List (Nat × Nat))
  | 0, _ => .ok []
  | f + 1, va =>
    if hi ≤ va then .ok []
    else
      match s.probe (homeSlice asid va) asid va with
      | .data w =>
        if bits w 63 61 ≠ 0 then .error va
        else
          let sz := 2 ^ pageLog (bits w 3 2)
          let e := min hi ((va / sz + 1) * sz)
          let pa := entPa (w % 2 ^ 52) + va % sz
          match s.piecesOf asid hi f e with
          | .ok l => .ok ((pa, pa + (e - va)) :: l)
          | .error a => .error a
      | _ => .error va

/-- Removes every mark of a region, and the aggregates that have not been reported (R323, R332). -/
def State.unmark (s : State) (k i : Nat) : State :=
  (List.range 8).foldl (fun s j =>
    let c := s.ctl j
    let c := { c with marks := c.marks.filter (fun m => !(m.home == k && m.idx == i)) }
    s.setCtl j (c.setAgg k i 0)) s

/-- The cause for which the pieces of a range cannot be marked: a byte under another mark, or no room. -/
def State.markCause (s : State) (k i : Nat) (ps : List (Nat × Nat)) : Option Nat :=
  let others (j : Nat) : List Mark := (s.ctl j).marks.filter (fun m => !(m.home == k && m.idx == i))
  let meets (a b : Nat × Nat) : Bool := a.1 < b.2 && b.1 < a.2
  if ps.any (fun p => (others (stackOf p.1)).any (fun m => meets p (m.lo, m.hi))) ∨
      ps.zipIdx.any (fun p => (ps.drop (p.2 + 1)).any (meets p.1)) = true then some 4
  else if (List.range 8).any (fun j =>
      16384 < (others j).length + (ps.filter (fun p => stackOf p.1 == j)).length) then some 6
  else none

/-- `rg.arm` at the home, its operands being within their limits: the cause and address of its fault, or the region armed. -/
def State.armRegion (s : State) (k i asid va len t : Nat) : Except (Nat × Nat) State :=
  let r := s.region k i
  let notify : Bool := match r.binding with | .notify _ => r.bnd | _ => false
  if !(r.st = .free ∨ r.st = .fired) ∨ notify = true then .error (3, 0)
  else
    let hi := va + 64 * len
    match s.piecesOf asid hi (ceilDiv (64 * len) 65536 + 1) va with
    | .error a => .error (5, a)
    | .ok ps =>
      match s.markCause k i ps with
      | some c => .error (c, va)
      | none =>
        let s := s.unmark k i
        let n := (s.ctl k).armNo + 1
        let s := s.setCtl k { s.ctl k with armNo := n }
        let s := ps.foldl (fun (s : State) p =>
          let j := stackOf p.1
          s.setCtl j { s.ctl j with marks := (s.ctl j).marks ++ [{ lo := p.1, hi := p.2, home := k, idx := i, arm := n }] }) s
        .ok (s.setRegion k i { r with owner := some asid, va := va, len := len, total := t % 2 ^ 48, rearm := bit t 63, cnt := 0
                                      ovf := false, phase := 0, st := .armed, arm := n })

/-- A region is freed (R330, R332, R333): its marks and unreported aggregates go; an attempt in flight is let be answered, and the
`rg.bind` that waits for it with it; a notified conversation is closed with an error notice, behind a notification in flight. -/
def State.freeRegion (s : State) (k i : Nat) : State :=
  let r := s.region k i
  let s := (s.unmark k i).setRegion k i { flight := r.flight, stale := r.flight, owed := r.owed ++ r.ack.toList }
  let s := match r.binding with
    | .notify n => s.modConn k n (fun x => { x with ending := true, region := some i })
    | _ => s
  if r.flight then s else s.settleFreed k i

/-! ## Binding (R325, R329, R332) -/

/-- The binding in a record, with the task record's address for kind 2; none where the record is malformed. -/
def bindingOf (b : List Byte) (task : List Byte) : Option Binding :=
  let kind := field b 0 1
  let ent := field b 1 1
  let plc := field b 2 3
  let spa := field b 5 3
  let arg := field b 8 8
  let va := field b 16 8
  let unused (l : List Nat) : Bool := l.all (· == 0)
  if field b 24 8 ≠ 0 ∨ 2 ^ 20 ≤ plc then none
  else
    match kind with
    | 0 => if unused [ent, plc, spa, arg, va] then some .none else none
    | 1 => if unused [ent, plc, spa] ∧ va % 8 = 0 ∧ va < 2 ^ 52 then some (.barrier arg va) else none
    | 2 =>
      let h := launchOf task
      if unused [ent, spa, arg] ∧ plc % 1024 = 0 ∧ va % 64 = 0 ∧ va < 2 ^ 52 ∧ launchMalformed h = false ∧
          h.die = bits plc 11 10 then some (.launch h plc va) else none
    | 3 => if unused [spa, va] ∧ ent ≤ 19 ∧ coreOf plc < 192 then some (.wake ent plc arg va) else none
    | 4 => if unused [ent, arg, va] ∧ coreOf plc < 192 ∧ spa % 16 = 0 ∧ spa < 0x18000 then some (.gen plc spa) else none
    | _ => none

/-- The binding record at an address is read, and for kind 2 its task record. -/
def State.readBinding (s : State) (asid va : Nat) : State × Option Binding :=
  match s.globalRead asid va 32 with
  | (s, none) => (s, none)
  | (s, some b) =>
    let ta := field b 16 8
    if field b 0 1 = 2 then
      if 2 ^ 52 ≤ ta ∨ ta % 64 ≠ 0 then (s, none)
      else
        match s.globalRead asid ta 64 with
        | (s, none) => (s, none)
        | (s, some t) => (s, bindingOf b t)
    else (s, bindingOf b [])

/-- `rg.bind` at the home; whether it is acknowledged at once. -/
def State.bindRegion (s : State) (k i : Nat) (c : RegCmd) : State × Bool :=
  let r := s.region k i
  let notify : Bool := match r.binding with | .notify _ => r.bnd | _ => false
  if notify then (s.regFault k c 3 r.st.code 0, true)
  else
    match s.readBinding c.asid c.v2 with
    | (s, none) => (s.regFault k c 7 r.st.code c.v2, true)
    | (s, some b) =>
      let r' := { r with binding := b, bnd := true, owner := some c.asid, tries := 0, noted := false, rebound := r.flight }
      if r.st = .pending ∨ r.st = .failed then
        ((s.setRegion k i { r' with st := .performing, ack := some (c.place, c.act, c.seq, c.asid) }).attempt k i, false)
      else (s.setRegion k i r', true)

/-! ## Region commands at their home (R321, R332) -/

/-- An operand breaks a limit of Table 09.1 or 09.7. -/
def regionLimits (c : RegCmd) : Bool :=
  let len := bits c.v1 63 40
  bits c.v1 39 23 != 0 || (c.fn != 0 && len != 0) ||
    match c.fn with
    | 0 => len == 0 || decide (2 ^ 52 ≤ c.v2) || c.v2 % 64 != 0 || decide (2 ^ 52 < c.v2 + 64 * len) ||
        bits c.v3 62 48 != 0 || c.v3 % 2 ^ 48 == 0
    | 2 => decide (2 ^ 48 ≤ c.v2)
    | 4 => decide (2 ^ 52 ≤ c.v2) || c.v2 % 32 != 0
    | _ => false

/-- A region command is performed: the state, the value for `rd`, and whether it is acknowledged at once. -/
def State.regionCommand (s : State) (k : Nat) (c : RegCmd) : State × Option Nat × Bool :=
  let i := c.v1 % 4096
  let r := s.region k i
  let none7 : Option Nat := if c.fn = 3 then some noRegion else none
  if regionLimits c then (s.regFault k c 1 r.st.code 0, none7, true)
  else if r.owner.isSome ∧ r.owner ≠ some c.asid ∧ !(c.priv ∧ (c.fn = 1 ∨ c.fn = 3)) then
    (s.regFault k c 2 r.st.code 0, none7, true)
  else
    match c.fn with
    | 0 =>
      match s.armRegion k i c.asid c.v2 (bits c.v1 63 40) c.v3 with
      | .ok s => (s, none, true)
      | .error (cause, adr) => (s.regFault k c cause r.st.code adr, none, true)
    | 1 => (if r.owner.isNone then s else s.freeRegion k i, none, true)
    | 2 =>
      if c.v2 = 0 then (s, none, true)
      else if r.st = .free then (s.regFault k c 3 0 0, none, true)
      else (s.countAt k i c.v2, none, true)
    | 3 => (s, some r.word, true)
    | _ => let (s, now) := s.bindRegion k i c; (s, none, now)

/-! ## Registered windows (R334, R335) -/

/-- Operands of a `wn.reg` (Table 09.9). -/
structure WinOps where
  sp : Bool
  base : Nat
  echo : Bool
  host : Bool
  gasid : Nat
  stk : Nat
  units : Nat

def winOps (a b : Nat) : WinOps :=
  { sp := bits a 63 62 == 1, base := a % 2 ^ 52, echo := bit b 63, host := bit b 62, gasid := bits b 60 48
    stk := bits b 47 45, units := b % 2 ^ 32 }

def winMalformed (a b wcn : Nat) : Bool :=
  let w := winOps a b
  bits a 63 62 ≥ 2 || bits a 61 52 != 0 || w.base % 64 != 0 || bit b 61 || bits b 44 32 != 0 || w.units == 0 ||
    (!w.echo && wcn != 0) ||
    if w.sp then bits a 51 17 != 0 || w.stk != 0 || w.host || decide (0x18000 < w.base + 64 * w.units)
    else decide (2 ^ 52 < w.base + 64 * w.units)

/-- The word that `wn.reg` writes. -/
def winWord (st tag hk hs hi : Nat) : Nat :=
  if st ≠ 0 then st * 2 ^ 60 else tag * 2 ^ 16 + hk * 2 ^ 15 + hs * 2 ^ 12 + hi

/-- The next registration tag. -/
def nextTag (t : Nat) : Nat := if t % 65536 = 65535 then 1 else t % 65536 + 1

/-- The slices at which a global window has filter entries, one for each. -/
def winSlices (owner gasid base units : Nat) : List Nat :=
  (upto (base / 65536) ((base + 64 * units - 1) / 65536 - base / 65536 + 1)).flatMap (fun q =>
    homeSlice gasid (65536 * q) :: if gasid = owner then [] else [homeSlice owner (65536 * q)])

/-- The global windows registered at the controllers. -/
def State.allWins (s : State) : List Win := (List.range 8).flatMap (fun k => (s.ctl k).wins)

/-- The filter entries of a slice. -/
def State.filterCount (s : State) (h : Nat) : Nat :=
  (s.allWins.map (fun w => (winSlices w.owner w.gasid w.base w.units).count h)).sum

/-- The lowest number below a bound that is not in use. -/
def lowestFree (n : Nat) (used : List Nat) : Option Nat := (List.range n).find? (fun i => !used.contains i)

/-- `wn.reg` of a global window at its home. -/
def State.regWindow (s : State) (k : Nat) (c : RegCmd) : State × Nat :=
  let w := winOps c.v1 c.v2
  let x := s.ctl k
  let mine := winSlices c.asid w.gasid w.base w.units
  if s.allWins.any (fun y => y.owner == c.asid && y.base < w.base + 64 * w.units && w.base < y.base + 64 * y.units) then
    (s, winWord 3 0 0 0 0)
  else if mine.eraseDups.any (fun h => 2048 < s.filterCount h + mine.count h) then (s, winWord 2 0 0 0 0)
  else
    match lowestFree 1024 (x.wins.map (·.idx)) with
    | none => (s, winWord 2 0 0 0 0)
    | some i =>
      let t := nextTag x.tag
      let y : Win := { idx := i, base := w.base, units := w.units, gasid := w.gasid, echo := w.echo, host := w.host
                       wcn := c.wcn, tag := t, owner := c.asid, place := c.place }
      (s.setCtl k { x with tag := t, wins := x.wins ++ [y] }, winWord 0 t 0 k i)

/-- `wn.unreg` of a global window at its home: of the one whose key is bits 31:0 of the operand (R340). -/
def State.unregWindow (s : State) (k : Nat) (c : RegCmd) : State :=
  let x := s.ctl k
  match x.wins.find? (fun w => winWord 0 w.tag 0 k w.idx == c.v1 % 2 ^ 32 && w.owner == c.asid) with
  | some w => s.setCtl k { x with wins := x.wins.filter (· != w) }
  | none => s.regFault k c 11 0 0

/-- A region or window command reaches its home controller, which performs it and acknowledges it. -/
def State.ctlCommand (s : State) (k : Nat) (c : RegCmd) : State :=
  let ack (s : State) (v : Option Nat) : State :=
    s.send (s.ctlName k) 1 c.place 0 c.asid (.regAck c.place c.act c.seq v)
  if c.window then
    if c.fn = 0 then let (s, v) := s.regWindow k c; ack s (some v) else ack (s.unregWindow k c) none
  else
    let (s, v, now) := s.regionCommand k c
    if now then ack s v else s

/-- A command leaves the queue once its controller has performed it. -/
def execRegionCommandAcknowledgement (place act seq : Nat) (val : Option Nat) (s : State) :
    Host.Outcome State Fault Refusal :=
  match (s.core place).lsq.find? (fun x => x.cmd.seq == seq && x.cmd.act == act && x.sent) with
  | none => .next s
  | some x =>
    .next ((s.modCore place (fun c => c.dropEntry seq)).deliver place act x.cmd.tag (BitVec.ofNat 64 (val.getD 0)))

/-! ## Windows of SP, and the window counters (R338 to R340) -/

/-- `wn.reg` of an SP window. -/
def Core.regSp (c : Core) (x : RegCmd) : Core × Nat :=
  let w := winOps x.v1 x.v2
  if c.wins.any (fun y => y.base < w.base + 64 * w.units && w.base < y.base + 64 * y.units) then (c, winWord 3 0 0 0 0)
  else
    match lowestFree 16 (c.wins.map (·.idx)) with
    | none => (c, winWord 2 0 0 0 0)
    | some i =>
      let t := nextTag c.winTag
      let y : SpWin := { idx := i, base := w.base, units := w.units, gasid := w.gasid, echo := w.echo, wcn := x.wcn, tag := t
                         owner := x.asid }
      ({ c with winTag := t, wins := c.wins ++ [y] }, winWord 0 t 1 0 i)

/-- Whether a key names a global window. -/
def keyGlobal (v : Nat) : Bool := !bit v 15

/-- A window command performed within the core: the state and the value for `rd`. -/
def State.coreWindow (s : State) (p : Nat) (x : RegCmd) : State × Nat :=
  let c := s.core p
  if x.fn = 0 then
    if winMalformed x.v1 x.v2 x.wcn then (s, winWord 1 0 0 0 0)
    else
      let (c, v) := c.regSp x
      (s.setCore p c, v)
  else
    match c.wins.find? (fun w => winWord 0 w.tag 1 0 w.idx == x.v1 % 2 ^ 32 && w.owner == x.asid) with
    | some w => (s.setCore p { c with wins := c.wins.filter (· != w) }, 0)
    | none => (s.regFault (proxyCtl p) x 11 0 0, 0)

/-- Whether a target of `wn.wait` has been reached. -/
def counterReached (c t : Nat) : Bool := decide ((c + 2 ^ 48 - t % 2 ^ 48) % 2 ^ 48 < 2 ^ 47)

/-- A window counter rises (R338). -/
def Core.raiseWc (c : Core) (k n : Nat) : Core :=
  match Nat.decLt k 8 with
  | .isTrue h => { c with wc := c.wc.set k ((c.wc[k] + n) % 2 ^ 48) }
  | .isFalse _ => c

/-- A raise reaches a core: repeated after 1 µs while it is being evicted, and discarded by a sealed or vacant one. -/
def State.raise (s : State) (p k n tries : Nat) : State :=
  let c := s.core p
  match c.life with
  | .evicting => if tries + 1 < 1024 then s.after us (.windowCounterRetry p k n (tries + 1)) else s
  | .sealed | .vacant => s
  | _ => s.setCore p (c.raiseWc k n)

/-- A window put's bytes have been performed at their destination (R100, R336). -/
def execPutAckArrival (place wcn n : Nat) (s : State) : Host.Outcome State Fault Refusal := .next (s.raise place wcn n 0)

/-- The echo of a window reaches its owner (R336, R339). -/
def execEchoRaise (place wcn n : Nat) (s : State) : Host.Outcome State Fault Refusal := .next (s.raise place wcn n 0)

/-- A raise that met a core being evicted is repeated (R338, R459). -/
def execWindowCounterRetry (place wcn n tries : Nat) (s : State) : Host.Outcome State Fault Refusal :=
  .next (s.raise place wcn n tries)

/-! ## The check of a window put (R336, R345) -/

/-- A unit that passes goes on with its window's owner and echo: to the owner's home slice where that is another, else to
its destination. -/
def State.windowPass (s : State) (u : CopyUnit) (owner place wcn : Nat) (echo : Bool) : State :=
  let u' := { u with checked := true, asidX := owner, echo := if echo then some (place, wcn) else none }
  match u.dst with
  | .glob va =>
    let h := homeSlice owner va
    if owner = u.asid then s.post (.copyUnitArrival u')
    else s.send (s.sliceName (homeSlice u.asid va)) 2 (s.sliceName h) 2 u.asid (.copyUnit u')
  | _ => s.post (.copyUnitArrival u')

/-- A slice or a target core's router checks a unit of a window put. -/
def execWindowPutCheck (u : CopyUnit) (s : State) : Host.Outcome State Fault Refusal :=
  let (src, kind) := s.farName u.asid u.dst
  let n := u.bytes.length
  let refuse (va : Nat) : State :=
    s.refuseCopy src kind u.place u.asid
      { place := u.place, ctx := u.ctx, off := u.off, cls := 2, cause := 1, window := true, far := va, by_ := u.by_ }
  match u.dst with
  | .glob va =>
    match s.windowFor u.asid va n with
    | some (w, _) => .next (s.windowPass u w.owner w.place w.wcn w.echo)
    | none => .next (refuse va)
  | .core q a =>
    match (s.core q).wins.find? (fun w => w.gasid == u.asid && w.base ≤ a && a + n ≤ w.base + 64 * w.units) with
    | some w => .next (s.windowPass u w.owner q w.wcn w.echo)
    | none => .next (refuse a)
  | _ => .next s

/-! ## Instructions (R331, R340) -/

/-- A region or window command enters the load-store queue. -/
def regionEnter (s : State) (i : Issued) (op : Instr) (window : Bool) (fn ctl wcn : Nat) (tagged : Bool) : State :=
  let rc : RegCmd :=
    { place := s.who, act := i.act.id, seq := i.core.lsSeq + 1, asid := i.core.asid, priv := i.act.priv, entry := i.act.ent
      pc := i.pc, wid := i.act.wid.toNat, window := window, fn := fn, ctl := ctl, v1 := (v1 i.vals).toNat
      v2 := (v2 i.vals).toNat, v3 := (v3 i.vals).toNat, wcn := wcn }
  lsEnter s i { cmd := i.cmd op 0 tagged, op := .region, rc := some rc }

/-- A region command; the home's name stands in the region name word. -/
def regionWord (s : State) (op : Instr) (fn : Nat) (srcs : List Reg) (d : Option Reg) : Host.Outcome State Fault Refusal :=
  issue s { st := .a, srcs := srcs, dst := (match d with | some r => .later r false | none => .none), enters := some .lsu }
    (fun i => regionEnter s i op false fn (bits (v1 i.vals).toNat 22 12) 0 d.isSome)

def execRgArm (a b c : Reg) (s : State) : Host.Outcome State Fault Refusal := regionWord s (.rgArm a b c) 0 [a, b, c] none

def execRgDisarm (a : Reg) (s : State) : Host.Outcome State Fault Refusal := regionWord s (.rgDisarm a) 1 [a] none

def execRgAdd (a b : Reg) (s : State) : Host.Outcome State Fault Refusal := regionWord s (.rgAdd a b) 2 [a, b] none

def execRgRd (d a : Reg) (s : State) : Host.Outcome State Fault Refusal := regionWord s (.rgRd d a) 3 [a] (some d)

def execRgBind (a b : Reg) (s : State) : Host.Outcome State Fault Refusal := regionWord s (.rgBind a b) 4 [a, b] none

/-- The home of a global window is a controller of the issuing chip (Table 09.9). -/
def execWnReg (d a b : Reg) (w : Fin 8) (s : State) : Host.Outcome State Fault Refusal :=
  issue s { st := .a, srcs := [a, b], dst := .later d false, enters := some .lsu } (fun i =>
    regionEnter s i (.wnReg d a b w) true 0 (s.ctlName (bits (v2 i.vals).toNat 47 45)) w.val true)

def execWnUnreg (a : Reg) (s : State) : Host.Outcome State Fault Refusal :=
  issue s { st := .a, srcs := [a], enters := some .lsu } (fun i =>
    regionEnter s i (.wnUnreg a) true 1 (s.ctlName (bits (v1 i.vals).toNat 14 12)) 0 false)

def execWnCc (d : Reg) (w : Fin 8) (s : State) : Host.Outcome State Fault Refusal :=
  issue s { st := .a, dst := .later d false, enters := some .lsu } (fun i =>
    lsEnter s i { cmd := i.cmd (.wnCc d w) 0 true, op := .winCc, n := w.val })

def execWnWait (a : Reg) (w : Fin 8) (s : State) : Host.Outcome State Fault Refusal :=
  issue s { st := .a, srcs := [a], enters := some .lsu, hold := some true } (fun i =>
    lsEnter s i { cmd := i.cmd (.wnWait a w) 0 true, op := .winWait, n := w.val, data := (v1 i.vals).toNat })

/-! ## The load-store unit's side -/

/-- Whether a command is performed within the core. -/
def inCore (x : RegCmd) : Bool :=
  x.window && (if x.fn = 0 then winMalformed x.v1 x.v2 x.wcn || (winOps x.v1 x.v2).sp else !keyGlobal x.v1)

/-- A region or window command leaves the queue (R332, R340): after the activation's earlier loads and stores have been
performed at `sys` scope, and after the core's earlier commands to the same home. One to a controller that does not exist
counts as performed, and its fault is raised on the core's behalf. -/
def State.regionTurn (s : State) (p : Nat) (x : LsEntry) (rc : RegCmd) : State :=
  let c := s.core p
  let same (y : LsEntry) : Bool :=
    match y.rc with | some z => inCore z == inCore rc && (inCore rc || z.ctl == rc.ctl) | none => false
  if x.sent || !c.inTurn x || !c.released x.cmd.act (x.cmd.seq - 1) .sys || c.lsq.any (fun y => y.cmd.seq < x.cmd.seq && same y) then s
  else
    let finish (s : State) (v : Nat) : State :=
      (s.modCore p (fun c => c.dropEntry x.cmd.seq)).deliver p x.cmd.act x.cmd.tag (BitVec.ofNat 64 v)
    if inCore rc then
      let (s, v) := s.coreWindow p rc
      finish s v
    else (s.setCore p (c.setEntry { x with sent := true })).send p 0 rc.ctl 1 c.asid (.region rc)

/-- One step of an entry of the load-store queue. -/
def State.lsuTurn (s : State) (p seq : Nat) : State :=
  let c := s.core p
  match c.lsq.find? (fun x => x.cmd.seq == seq) with
  | none => s
  | some x =>
    let blocked := c.recs.any (fun e => e.1 == 1)
    let finish (v : Nat) : State :=
      (s.setCore p (c.dropEntry seq)).deliver p x.cmd.act x.cmd.tag (BitVec.ofNat 64 v)
    match x.op with
    | .region => if blocked then s else match x.rc with | some rc => s.regionTurn p x rc | none => s
    | .winCc =>
      if blocked || (c.lsq.head?).map (·.cmd.seq) != some seq then s else finish (c.wc.toList.getD x.n 0)
    | .winWait => if !blocked && counterReached (c.wc.toList.getD x.n 0) x.data then finish 0 else s
    | _ => s.lsAccess p x

end Sys2Proof.Machine
end

