-- ==== Sys2Proof/Machine/Channel.lean ====
section
/-! DEFINITION. The channel endpoint engine (07): automata, connection, conversation, delegation, shared endpoints, and region
controllers as peers. -/

namespace Sys2Proof.Machine

open Sys2Proof

/-! ## Automata (R237 to R239, Table 04.16) -/

def edgeFrom (w : Nat) : Nat := bits w 31 28

def edgeTo (w : Nat) : Nat := bits w 27 24

/-- Direction: true to receive. -/
def edgeRecv (w : Nat) : Bool := bit w 23

def edgeKind (w : Nat) : Nat := bits w 22 21

def edgeType (w : Nat) : Nat := bits w 20 15

def edgeSzc (w : Nat) : Nat := bits w 14 11

def edgeLabel (w : Nat) : Nat := bits w 10 7

/-- The transitions that leave a state. -/
def edgesAt (a : Automaton) (q : Nat) : List Nat := a.edges.filter (fun w => edgeFrom w == q)

/-- One round of the look-ahead of every state in a direction. -/
def lookStep (es : List Nat) (dir : Bool) (l : List Nat) : List Nat :=
  (List.range 16).map (fun q =>
    ((es.filter (fun w => edgeFrom w == q && edgeRecv w == dir)).map (fun w => 1 + l.getD (edgeTo w) 0)).foldl max 0)

def lookRounds (es : List Nat) (dir : Bool) : Nat → List Nat
  | 0 => List.replicate 16 0
  | n + 1 => lookStep es dir (lookRounds es dir n)

/-- The look-ahead in a direction (R238); 16 where a cycle has only that direction. -/
def lookAhead (es : List Nat) (dir : Bool) : Nat := (lookRounds es dir 16).foldl max 0

/-- The largest size class in a direction. -/
def maxSzc (es : List Nat) (dir : Bool) : Nat := ((es.filter (fun w => edgeRecv w == dir)).map edgeSzc).foldl max 0

/-- The size of a slot, and the buffer that a linear endpoint reserves (R238). -/
def slotSize (a : Automaton) : Nat := 16 * 2 ^ maxSzc a.edges true

def needOf (a : Automaton) : Nat := if a.edges.any edgeRecv then lookAhead a.edges true * slotSize a else 0

/-- A word put in its place among rising ones. -/
def putSorted (w : Nat) : List Nat → List Nat
  | [] => [w]
  | x :: r => if w ≤ x then w :: x :: r else x :: putSorted w r

def sortWords (l : List Nat) : List Nat := l.foldr putSorted []

/-- The mirror of a canonical form (R239). -/
def mirror (a : Automaton) : Automaton := { a with edges := sortWords (a.edges.map (fun w => w ^^^ 2 ^ 23)) }

/-- Reserved and unused bits of a transition (Table 07.3, code 2). -/
def edgeBad (nst w : Nat) : Bool :=
  w % 128 != 0 || nst ≤ edgeFrom w || nst ≤ edgeTo w || 8 < edgeSzc w || (edgeLabel w != 0 && edgeKind w != 1) ||
    (edgeKind w != 0 && edgeSzc w != 0) || (edgeKind w == 1 && edgeType w != 0)

/-- The shape of a shared automaton (code 5). -/
def sharedBad (nst : Nat) (es : List Nat) : Bool :=
  nst != 1 || es.isEmpty || 16 < es.length || es.any (fun w => edgeTo w != 0 || !edgeRecv w || edgeKind w != 0 || 2 < edgeSzc w) ||
    (es.map edgeType).eraseDups.length != es.length

/-- The shape of one state of a linear automaton (code 3). -/
def stateBad (o : List Nat) : Bool :=
  match o with
  | [] => false
  | w :: r =>
    if r.isEmpty ∧ edgeKind w ≠ 1 then false
    else 16 < o.length || o.any (fun x => edgeKind x != 1 || edgeRecv x != edgeRecv w) ||
      (o.map edgeLabel).eraseDups.length != o.length

/-- The rules of Table 07.3 on an image, in order: the code of the first that fails, or the canonical form. -/
def validate (sp : Mem) (a : Nat) (life : EpLife) : Except Nat Automaton :=
  let b (i : Nat) : Nat := (sp.read (a + i)).toNat
  let nst := b 0
  let ned := b 1
  if a % 4 ≠ 0 ∨ 0x18000 < a + 4 ∨ 0x18000 < a + 4 + 4 * ned then .error 7
  else if life ≠ .idle ∧ life ≠ .closed then .error 6
  else if nst = 0 ∨ 16 < nst ∨ 32 < ned ∨ b 2 ≠ 0 then .error 1
  else
    let es := (List.range ned).map (fun i => sp.load (a + 4 + 4 * i) 4)
    if 2 ≤ b 3 ∨ es.any (edgeBad nst) = true then .error 2
    else if b 3 = 1 then
      if sharedBad nst es then .error 5 else .ok { nst := nst, shared := true, edges := sortWords es }
    else if (List.range nst).any (fun q => stateBad (es.filter (fun w => edgeFrom w == q))) then .error 3
    else if nst ≤ lookAhead es false ∨ nst ≤ lookAhead es true then .error 4
    else .ok { nst := nst, shared := false, edges := sortWords es }

/-! ## Endpoints (R236, R240, R246) -/

def EpLife.code : EpLife → Nat
  | .idle => 0 | .listening => 1 | .connecting => 2 | .connected => 3 | .closed => 4 | .moving => 5 | .shared => 6
  | .violated => 7 | .adopting => 8

/-- The endpoint state word (Table 07.2). -/
def Ep.word (e : Ep) : Nat :=
  e.life.code * 2 ^ 60 + ofBool e.aut.isSome * 2 ^ 59 +
    ofBool (match e.aut with | some a => a.shared | none => false) * 2 ^ 58 +
    (if e.life = .closed ∨ e.life = .violated then e.code else 0) * 2 ^ 53 + e.cur * 2 ^ 49 + e.lref * 2 ^ 45 +
    (e.buf.length % 128) * 2 ^ 38 + e.pep * 2 ^ 34 + e.pkind * 2 ^ 32 + e.laout * 2 ^ 24 + e.lain * 2 ^ 20 + e.peer % 2 ^ 20

def Core.setEp (c : Core) (k : Fin 16) (e : Ep) : Core := { c with eps := c.eps.set k e }

def State.modEp (s : State) (p : Nat) (k : Fin 16) (f : Ep → Ep) : State :=
  s.modCore p (fun c => c.setEp k (f c.eps[k]))

/-- An endpoint number from a packet. -/
def epOf (n : Nat) : Fin 16 := Fin.ofNat 16 n

/-- The life against which an instruction is checked at issue (R247). -/
def Ep.atIssue (e : Ep) : EpLife := e.exp.getD e.life

/-- The transitions that leave the issue state. -/
def Ep.outs (e : Ep) : List Nat :=
  match e.aut, e.ist with
  | some a, some q => edgesAt a q
  | _, _ => []

/-- An endpoint that has become `idle` holds no reservation and no message. -/
def Ep.toIdle (e : Ep) : Ep := { e with life := .idle, resv := none, buf := [], notice := none, mslots := 0 }

/-- An endpoint whose channel has ended. -/
def Ep.toClosed (e : Ep) (code : Nat) (conf err : Bool) : Ep :=
  { e with life := .closed, code := code, notice := some { code := code, conf := conf, err := err } }

/-- A channel has been made (R243). -/
def Ep.toConnected (e : Ep) : Ep :=
  { e with life := .connected, code := 0, cur := 0, lref := 0, buf := [], notice := none, sseq := 0, rseq := 0, held := []
           fwd := none, stub := none, pass := [], passing := false, ring := 0, conn := 0, old := [] }

/-- A span of SP lies clear of every other endpoint's reservation or mailbox (R240). -/
def Core.clear (c : Core) (k : Fin 16) (base n : Nat) : Bool :=
  n == 0 || (List.finRange 16).all (fun j =>
    j == k || match c.eps[j].resv with | some (b, m) => m == 0 || !(b < base + n && base < b + m) | none => true)

/-- The canonical form in bytes: what a connection request carries (R239, R272). -/
def formBytes (a : Automaton) : List Byte :=
  leBytes 1 a.nst ++ leBytes 1 a.edges.length ++ leBytes 1 0 ++ leBytes 1 (ofBool a.shared) ++ a.edges.flatMap (leBytes 4)

/-- The fields of R265 in bytes. DESIGN CHOICE: the spec gives their order and sizes nowhere. -/
def endpBytes (m : EndpMsg) : List Byte :=
  formBytes m.aut ++ layout 16 [(0, 1, m.cur), (1, 1, m.pep * 16 + m.stubEp), (2, 3, m.peer), (5, 1, m.pkind), (6, 3, m.stub),
    (10, 2, m.sseq), (12, 2, m.rseq)]

/-- The place in SP of a slot of an endpoint's buffer or mailbox, and the size of a slot (R240, R268). -/
def Ep.slotAt (e : Ep) (i : Nat) : Nat × Nat :=
  match e.resv with
  | none => (0, 0)
  | some (b, n) =>
    let size := if e.life = .shared then e.msize else n / e.lain
    (b + i * size, size)

/-- A message is placed in its slot. What the engine writes there is not promised to be readable by loads, so that the bytes are a free
value (R240). -/
def State.placeMsg (s : State) (p : Nat) (k : Fin 16) (i n : Nat) : State :=
  let (a, size) := (s.core p).eps[k].slotAt i
  let (f, s) := s.takeFresh
  if min n size = 0 then s else s.modCore p (fun c => c.put .sp a ((List.range (min n size)).map (Config.slotByte f)))

/-- Checks 1 and 2 of Table 07.5: the reservation, or the code. -/
def Core.ready (c : Core) (k : Fin 16) : Except Nat (Nat × Nat) :=
  let e := c.eps[k]
  if e.life ≠ .idle ∧ e.life ≠ .closed then .error 10
  else
    match e.aut, e.range with
    | some a, some (base, limit) =>
      if a.shared then .error 10
      else if base + needOf a ≤ limit ∧ c.clear k base (needOf a) = true then .ok (base, needOf a)
      else .error 5
    | _, _ => .error 10

/-- The path scope between a core and another agent (R94). -/
def State.pathScope (s : State) (p name kind : Nat) : Scope :=
  if kind = 1 then
    if name / 8 ≠ s.chip then .sys else if name % 8 / 2 = dieOf p then .die else .pkg
  else if chipOf name ≠ s.chip then .sys
  else if dieOf name ≠ dieOf p then .pkg
  else if clusOf name ≠ clusOf p then .die
  else if groupOf name ≠ groupOf p then .clus
  else if name = p then .core else .group

/-! ## Issue (R247, R248, R252 to R254) -/

/-- The spans and checks at issue failed: a fault record, or a refusal with a cause. -/
inductive Refused where
  | span (addr : Nat)
  | cause (n : Nat)

/-- A span of SP beyond its end: the first address beyond that it reaches (R254, R279). -/
def spBeyond (a n : Nat) : Option Nat := if 0 < n ∧ 0x18000 < a + n then some (max a 0x18000) else none

/-- A refusal at issue (R252, Table 07.18). DESIGN CHOICE: where the issue state is unknown, which the table does not provide for, bytes 38
and 44 to 47 are 0. -/
def State.refuse (s : State) (i : Issued) (k : Fin 16) (cause : Nat) : State :=
  let p := s.who
  let e := i.core.eps[k]
  let w := (e.outs.head?).getD 0
  let r := handlerRecord i.core p i.old .a 0x05
    [(36, 1, cause), (37, 1, k.val), (38, 1, e.ist.getD 0), (39, 1, e.life.code), (40, 4, (i.core.wordAt i.pc).toNat), (44, 4, w)]
  (s.modCore p (fun c => { c with closing := c.closing ++ [(k.val, 16)] })).freeze { r with engine := 2 }

/-- What a refused or faulting channel instruction does; it pops nothing. -/
def State.chanRefused (s : State) (i : Issued) (k : Fin 16) : Refused → State
  | .span a => s.rangeFault s.who i.old .a 2 0 1 a
  | .cause n => s.refuse i k n

/-- A channel command enters its queue, with what its checks found and the endpoint as issue leaves it. -/
def chanEnter (s : State) (i : Issued) (k : Fin 16) (op : Instr) (tagged : Bool) (f : Ep → Ep) (pre conf : Bool)
    (to_ : Option Nat) : State :=
  let x := { i.cmd op (i.core.nSeq + 1) tagged with pre := pre, conf := conf, to_ := to_ }
  s.withAct { i.core.setEp k (f i.core.eps[k]) with nq := i.core.nq ++ [x], nSeq := i.core.nSeq + 1 } i.act

/-- The check of an instruction that sends or receives by the automaton: the transition, or the cause (Table 07.8). -/
def matchEdge (o : List Nat) (recv : Bool) (kinds : List Nat) (t : Option Nat) : Except Nat Nat :=
  match o with
  | [] => .error 1
  | w :: _ =>
    if edgeRecv w ≠ recv then .error 1
    else if !kinds.contains (edgeKind w) then .error 2
    else
      match t with
      | some t => if edgeType w ≠ t then .error 3 else .ok w
      | none => .ok w

/-- The checks by life that the conversational instructions share: whether the automaton decides (some), nothing is
checked (none), or the cause. -/
def Ep.lifeCheck (e : Ep) : Except Nat Bool :=
  match e.atIssue with
  | .listening | .connecting | .connected => .ok true
  | .closed | .violated => .ok false
  | .shared => .error 9
  | _ => .error 6

/-- A conversational instruction at issue: `f` gives the endpoint's issue state after it, the state it reaches and whether a
close conforms, or refuses it. -/
def converse (s : State) (k : Fin 16) (op : Instr) (srcs : List Reg) (d : Option (Reg × Bool)) (epx : Option (Fin 16) := none)
    (f : Ep → List Word → Except Refused (Option (Option Nat) × Option Nat × Bool)) : Host.Outcome State Fault Refusal :=
  issue s { st := .a, srcs := srcs, dst := (match d with | some (r, e) => .later r e | none => .none), enters := some .channel
            ep := some k, epx := epx } (fun i =>
    let e := i.core.eps[k]
    match f e i.vals with
    | .error r => s.chanRefused i k r
    | .ok (ist, to_, conf) =>
      let pre := e.atIssue = .listening ∨ e.atIssue = .connecting
      chanEnter s i k op d.isSome (fun e => match ist with | some q => { e with ist := q } | none => e) (decide pre) conf to_)

/-- The transition of a `send` (R248, R255). -/
def sendCheck (t : Nat) (e : Ep) (v : List Word) : Except Refused (Option (Option Nat) × Option Nat × Bool) :=
  let a := (v1 v).toNat
  let n := (v2 v).toNat
  match spBeyond a n with
  | some b => .error (.span b)
  | none =>
    match e.lifeCheck with
    | .error c => .error (.cause c)
    | .ok false => .ok (none, none, false)
    | .ok true =>
      match matchEdge e.outs false [0] (some t) with
      | .error c => .error (.cause c)
      | .ok w => if 16 * 2 ^ edgeSzc w < n then .error (.cause 5) else .ok (some (some (edgeTo w)), some (edgeTo w), false)

def execSend (e : Fin 16) (a b : Reg) (t : BitVec 6) (s : State) : Host.Outcome State Fault Refusal :=
  converse s e (.send e a b t) [a, b] none (f := sendCheck t.toNat)

/-- The transition of a `recv`, and its span (R248, R254, R256). DESIGN CHOICE: a receive close carries no payload, and R254 does not say
what its span is; 16 bytes are checked, those of its `szc` 0. -/
def recvCheck (t : Nat) (e : Ep) (v : List Word) : Except Refused (Option (Option Nat) × Option Nat × Bool) :=
  let a := (v1 v).toNat
  let span (w : Nat) : Option Nat := spBeyond a (16 * 2 ^ edgeSzc w)
  if e.atIssue = .shared then
    match (e.aut.map (fun x => x.edges)).bind (fun es => es.find? (fun w => edgeType w == t)) with
    | none => .error (.cause 3)
    | some w => match span w with | some b => .error (.span b) | none => .ok (none, none, false)
  else
    match matchEdge e.outs true [0, 3] (some t) with
    | .ok w =>
      match span w with
      | some b => .error (.span b)
      | none =>
        match e.lifeCheck with
        | .error c => .error (.cause c)
        | .ok false => .ok (none, none, false)
        | .ok true => .ok (some (some (edgeTo w)), some (edgeTo w), false)
    | .error c =>
      match e.lifeCheck with
      | .error k => .error (.cause k)
      | .ok false => .ok (none, none, false)
      | .ok true => .error (.cause c)

def execRecv (e : Fin 16) (d a : Reg) (t : BitVec 6) (s : State) : Host.Outcome State Fault Refusal :=
  converse s e (.recv e d a t) [a] (some (d, true)) (f := recvCheck t.toNat)

/-- `offer` leaves the issue state unknown (R247); `to_` keeps the state at issue, which becomes known again if no label comes. -/
def offerCheck (e : Ep) (_ : List Word) : Except Refused (Option (Option Nat) × Option Nat × Bool) :=
  match e.lifeCheck with
  | .error c => .error (.cause c)
  | .ok false => .ok (none, e.ist, false)
  | .ok true =>
    match matchEdge e.outs true [1, 3] none with
    | .error c => .error (.cause c)
    | .ok _ => .ok (some none, e.ist, false)

def execOffer (e : Fin 16) (d : Reg) (s : State) : Host.Outcome State Fault Refusal :=
  converse s e (.offer e d) [] (some (d, true)) (f := offerCheck)

def selectCheck (l : Nat) (e : Ep) (_ : List Word) : Except Refused (Option (Option Nat) × Option Nat × Bool) :=
  match e.lifeCheck with
  | .error c => .error (.cause c)
  | .ok false => .ok (none, none, false)
  | .ok true =>
    match matchEdge e.outs false [1] none with
    | .error c => .error (.cause c)
    | .ok _ =>
      match e.outs.find? (fun w => edgeLabel w == l) with
      | none => .error (.cause 4)
      | some w => .ok (some (some (edgeTo w)), some (edgeTo w), false)

def execSelect (e : Fin 16) (l : BitVec 4) (s : State) : Host.Outcome State Fault Refusal :=
  converse s e (.select e l) [] none (f := selectCheck l.toNat)

/-- `close` (R258): conforming at a send close whose to-state it names. -/
def closeCheck (q : Nat) (e : Ep) (_ : List Word) : Except Refused (Option (Option Nat) × Option Nat × Bool) :=
  match e.atIssue with
  | .idle | .moving | .adopting => .error (.cause 6)
  | .listening | .connecting | .connected =>
    match e.outs with
    | [w] => if !edgeRecv w ∧ edgeKind w = 3 ∧ edgeTo w = q then .ok (some (some q), some q, true) else .ok (none, none, false)
    | _ => .ok (none, none, false)
  | _ => .ok (none, none, false)

def execClose (e : Fin 16) (q : BitVec 4) (s : State) : Host.Outcome State Fault Refusal :=
  converse s e (.close e q) [] none (f := closeCheck q.toNat)

/-- Whether an endpoint may be delegated (R265). -/
def Ep.mayMove (e : Ep) : Bool :=
  e.atIssue == .connected && e.ist.isSome && match e.aut with | some a => !a.shared | none => false

def delegCheck (same fit : Bool) (e : Ep) (_ : List Word) : Except Refused (Option (Option Nat) × Option Nat × Bool) :=
  match e.lifeCheck with
  | .error c => .error (.cause c)
  | .ok false => .ok (none, none, false)
  | .ok true =>
    match matchEdge e.outs false [2] none with
    | .error c => .error (.cause c)
    | .ok w => if same ∨ !fit then .error (.cause 7) else .ok (some (some (edgeTo w)), some (edgeTo w), false)

def execDeleg (e x : Fin 16) (s : State) : Host.Outcome State Fault Refusal :=
  converse s e (.deleg e x) [] none (epx := some x) (f := delegCheck (e == x) ((s.core s.who).eps[x].mayMove))

def adoptCheck (same fit : Bool) (e : Ep) (_ : List Word) : Except Refused (Option (Option Nat) × Option Nat × Bool) :=
  match e.lifeCheck with
  | .error c => .error (.cause c)
  | .ok false => .ok (none, none, false)
  | .ok true =>
    match matchEdge e.outs true [2] none with
    | .error c => .error (.cause c)
    | .ok w => if same ∨ !fit then .error (.cause 7) else .ok (some (some (edgeTo w)), some (edgeTo w), false)

/-- Whether an endpoint may be the target of an `adopt` (R267). -/
def Ep.mayAdopt (e : Ep) : Bool := (e.atIssue == .idle || e.atIssue == .closed) && e.range.isSome

/-- `adopt`: a target that may be one is `adopting` from its issue, and its issue state unknown (R246, R247, R267). -/
def execAdopt (e x : Fin 16) (s : State) : Host.Outcome State Fault Refusal :=
  issue s { st := .a, enters := some .channel, ep := some e, epx := some x } (fun i =>
    let ep := i.core.eps[e]
    let fit := i.core.eps[x].mayAdopt
    match adoptCheck (e == x) fit ep [] with
    | .error r => s.chanRefused i e r
    | .ok (ist, to_, _) =>
      let pre := ep.atIssue = .listening ∨ ep.atIssue = .connecting
      let s := chanEnter s i e (.adopt e x) false (fun e => match ist with | some q => { e with ist := q } | none => e)
        (decide pre) (e != x && fit) to_
      if e != x && fit then s.modEp s.who x (fun y => { y with life := .adopting, prev := y.life, ist := none }) else s)

/-- The range word of `ep.bind` (R261). -/
def rangeOk (w : Nat) : Bool :=
  w == 0 || (bits w 31 17 == 0 && bits w 63 49 == 0 && w % 16 == 0 && bits w 16 0 ≤ bits w 48 32 && bits w 48 32 ≤ 0x18000)

/-- `ep.bind`. DESIGN CHOICE: behind a queued `ep.conn` or `ep.acc` it is judged against the life that this one gives, as R247 says of the
checks of R248, and refused with cause 8. -/
def execEpBind (e : Fin 16) (a : Reg) (s : State) : Host.Outcome State Fault Refusal :=
  issue s { st := .a, srcs := [a], enters := some .channel } (fun i =>
    let ep := i.core.eps[e]
    if rangeOk (v1 i.vals).toNat ∧ (ep.atIssue = .idle ∨ ep.atIssue = .closed) then
      chanEnter s i e (.epBind e a) false id false false none
    else s.refuse i e 8)

/-- A set-up command without checks at issue. -/
def setUp (s : State) (k : Fin 16) (op : Instr) (srcs : List Reg) (d : Reg) (f : Ep → Ep) : Host.Outcome State Fault Refusal :=
  issue s { st := .a, srcs := srcs, dst := .later d false, enters := some .channel } (fun i =>
    chanEnter s i k op true f false false none)

def execEpConn (e : Fin 16) (d a b : Reg) (s : State) : Host.Outcome State Fault Refusal :=
  setUp s e (.epConn e d a b) [a, b] d (fun y => { y with ist := some 0, exp := some .connecting })

def execEpAcc (e : Fin 16) (d a : Reg) (s : State) : Host.Outcome State Fault Refusal :=
  setUp s e (.epAcc e d a) [a] d (fun y => { y with ist := some 0, exp := some .listening })

def execEpSt (e : Fin 16) (d : Reg) (s : State) : Host.Outcome State Fault Refusal := setUp s e (.epSt e d) [] d id

def execAtLoad (e : Fin 16) (d a : Reg) (s : State) : Host.Outcome State Fault Refusal := setUp s e (.atLoad e d a) [a] d id

def execEpShr (e : Fin 16) (d a : Reg) (s : State) : Host.Outcome State Fault Refusal := setUp s e (.epShr e d a) [a] d id

/-- `post` (R269): its span is checked at issue. -/
def execPost (d a b : Reg) (s : State) : Host.Outcome State Fault Refusal :=
  issue s { st := .a, srcs := [a, b], dst := .later d false, enters := some .channel } (fun i =>
    match spBeyond (v2 i.vals).toNat (bits (v1 i.vals).toNat 38 32) with
    | some x => s.rangeFault s.who i.old .a 2 0 1 x
    | none => chanEnter s i 0 (.post d a b) true id false false none)

/-! ## Performing -/

/-- The command at the head of the queue has been performed, and writes its result. -/
def State.chanDone (s : State) (p : Nat) (x : Cmd) (v : Nat) : State :=
  (s.modCore p (fun c => if c.life = .sealed then c else { c with nq := c.nq.filter (fun y => y.seq != x.seq), nSent := false })).deliver
    p x.act x.tag (BitVec.ofNat 64 v)

/-- The state that a command reaches becomes the endpoint's (R247). -/
def Ep.reach (e : Ep) (x : Cmd) : Ep := match x.to_ with | some q => { e with cur := q } | none => e

/-- A command whose message has been answered is performed: its endpoint has reached the command's state, whatever its life is by now (R247,
R255, R259). -/
def State.chanSentDone (s : State) (p : Nat) (k : Fin 16) (x : Cmd) : State := (s.modEp p k (fun e => e.reach x)).chanDone p x 0

/-- The result word of a closed endpoint (Table 07.9). -/
def Ep.closedWord (e : Ep) : Nat :=
  match e.notice with
  | some n => (if n.err then 2 else 1) * 2 ^ 62 + ofBool n.conf * 2 ^ 40 + n.code * 2 ^ 32
  | none => 2 ^ 62 + e.code * 2 ^ 32

/-- The result word of a command whose connection attempt has failed (R249). -/
def failedWord : Nat := 2 ^ 62 + 19 * 2 ^ 32

/-- The endpoint that a conversational instruction names first. -/
def spokenOn : Instr → Option (Fin 16)
  | .send k .. | .recv k .. | .offer k _ | .select k _ | .close k _ | .deleg k _ | .adopt k _ => some k
  | _ => none

/-- The endpoint that an instruction tries to connect. -/
def attemptOn : Instr → Option (Fin 16)
  | .epConn k .. | .epAcc k .. => some k
  | _ => none

/-- The commands that waited for a connection of an endpoint and come before its next attempt (R249). -/
def loseCmds (k : Fin 16) : List Cmd → List Cmd
  | [] => []
  | x :: r =>
    if attemptOn x.op = some k then x :: r
    else (if x.pre ∧ spokenOn x.op = some k then { x with lost := true } else x) :: loseCmds k r

/-- A connection attempt, whose command is at the head of the queue, has ended without a connection. -/
def State.chanLose (s : State) (p : Nat) (k : Fin 16) : State :=
  s.modCore p (fun c => { c with nq := match c.nq with | [] => [] | h :: t => h :: loseCmds k t })

/-- The transition that a message takes at an endpoint's state. -/
def Ep.edgeOf (e : Ep) (m : BufMsg) : Option Nat :=
  let kind := match m.sub with | .label => 1 | .endp => 2 | _ => 0
  (match e.aut with | some a => edgesAt a e.cur | none => []).find? (fun w =>
    edgeRecv w && edgeKind w == kind && (if kind = 0 then edgeType w == m.ty else kind == 2 || edgeLabel w == m.ty))

/-- The state to which a command that takes a message brings its endpoint: that of its check, or, where it was not checked, that of the
message's transition (R248, R255). -/
def Ep.taken (e : Ep) (x : Cmd) (m : BufMsg) : Ep :=
  match x.to_ with
  | some q => { e with cur := q }
  | none => { e with cur := ((e.edgeOf m).map edgeTo).getD e.cur }

/-- The result word of a message (Table 07.9). -/
def BufMsg.word (m : BufMsg) (label : Bool) : Nat :=
  match m.sub with
  | .data => m.ty * 2 ^ 16 + (if label then 0 else m.payload.length)
  | .label => if label then m.ty else 0
  | _ => 0

/-- A message of a channel leaves, as the release that it is; the command is performed once it has been accepted. -/
def State.chanOut (s : State) (p : Nat) (k : Fin 16) (x : Cmd) (m : ChanMsg) : State :=
  (s.modCore p (fun c => { c with nSent := true })).chanSend p k { m with cmd := x.seq, rel := some (p, x.act, x.mark) }

/-- `n` bytes of SP read for a message; none where an uncorrectable error stops the engine (R278). DESIGN CHOICE: the spec gives this
engine's record of kind 0x0F no cause; byte 36 is 1. -/
def State.chanRead (s : State) (p : Nat) (x : Cmd) (a n : Nat) : Except State (List Byte) :=
  let c := s.core p
  if c.isBad .sp a n then
    .error ((s.coreError p 2 a x.finder).consume p 2 x.ent x.wid.toNat x.seq x.pc 0 a 1 a x.priv)
  else .ok (c.sp.readN a n)

/-- A send, `select`, `deleg` or `close` at the head: nothing on a closed endpoint; else it waits for its release, and its
message leaves. -/
def State.chanRelease (s : State) (p : Nat) (k : Fin 16) (x : Cmd) (f : State → State) : Option State :=
  let c := s.core p
  let e := c.eps[k]
  if x.lost then some (s.chanDone p x 0)
  else match e.life with
  | .listening | .connecting => if c.life = .frozen then some (s.chanDone p x 0) else none
  | .connected =>
    if c.released x.act x.mark (s.pathScope p e.peer e.pkind) && c.spDone x.act x.mark then some (f s) else none
  | _ => some (s.chanDone p x 0)

/-- A message is taken by `recv`, `offer` or `adopt`, or the closed status is; none while it waits (R250, R255 to R257). At a listening
endpoint of a frozen core, where no request is accepted any more, it ends as after a failed attempt (R249). DESIGN CHOICE: the spec does not
say what a command does that issued behind the `deleg` of its own endpoint and finds it moving: a `recv`, `offer` or `adopt` takes a message
that is still buffered there or returns the closed status, and a send or `close` has no effect. -/
def State.chanTake (s : State) (p : Nat) (k : Fin 16) (x : Cmd) (take : State → BufMsg → State) (gone : State → Nat → State) :
    Option State :=
  let c := s.core p
  let e := c.eps[k]
  if x.lost then some (gone s failedWord)
  else if e.life = .listening ∨ e.life = .connecting then
    if c.life = .frozen ∧ e.life = .listening then some (gone s failedWord) else none
  else if !c.released x.act x.mark .core then none
  else
    match e.buf with
    | m :: r => some (take (s.setCore p (c.setEp k { e with buf := r })) m)
    | [] =>
      match e.life with
      | .connected =>
        if c.life = .frozen then
          let code := if c.closing.any (fun y => y.1 == k.val) then 16 else 17
          some (gone s (2 ^ 62 + code * 2 ^ 32))
        else none
      | _ => some (gone s e.closedWord)

/-- `recv` from a mailbox: the oldest post of the type (R255). -/
def State.takePost (s : State) (p : Nat) (k : Fin 16) (x : Cmd) (a t : Nat) : Option State :=
  let c := s.core p
  let e := c.eps[k]
  if !c.released x.act x.mark .core then none
  else
    match e.buf.find? (fun m => m.ty == t) with
    | none => none
    | some m =>
      let c := (c.setEp k { e with buf := e.buf.filter (fun y => y.slot != m.slot) }).put .sp a (m.payload.take (0x18000 - a))
      some ((s.setCore p c).chanDone p x (t * 2 ^ 16 + m.payload.length))

/-- Messages to a core's endpoint that carry its name. -/
def State.toPeer (s : State) (p : Nat) (k : Fin 16) (dst dep : Nat) (m : ChanMsg) : State :=
  let asid := (s.core p).asid
  s.toCore p dst asid (.chan { m with src := p, sep := k.val, dst := dst, dep := dep, asid := asid, cno := (s.core p).eps[k].cno })

/-- The endpoint message of `deleg` (R265): the endpoint that moves forwards what it has buffered. -/
def State.delegate (s : State) (p : Nat) (k j : Fin 16) (x : Cmd) : State :=
  let e := (s.core p).eps[j]
  let m : EndpMsg := { aut := e.aut.getD { nst := 1, shared := false, edges := [] }, cur := e.cur, peer := e.peer, pkind := e.pkind
                       pep := e.pep, stub := p, stubEp := j.val, sseq := e.sseq, rseq := (e.rseq + 65536 - e.buf.length) % 65536
                       conn := e.conn }
  let s := if e.life = .connected then s.modEp p j (fun y => { y with life := .moving, fwd := none }) else s
  s.chanOut p k x { chanMsg .endp with endp := some m, payload := endpBytes m }

/-- The endpoint message is taken by `adopt` (R267): the state it carries is installed, and the stub is told the new name. -/
def State.install (s : State) (p : Nat) (j : Fin 16) (m : EndpMsg) : State :=
  let c := s.core p
  let e := c.eps[j]
  let n := needOf m.aut
  let e' := { e with aut := some m.aut, laout := lookAhead m.aut.edges false, lain := lookAhead m.aut.edges true, cur := m.cur
                     ist := some m.cur, peer := m.peer, pkind := m.pkind, pep := m.pep, lref := 0, sseq := m.sseq, rseq := m.rseq
                     prev := .adopting, buf := [], notice := none, held := [], fwd := none, pass := [], passing := false, ring := 0
                     cno := c.chanNo + 1, conn := m.conn, old := [] }
  let c := { c with chanNo := c.chanNo + 1 }
  let fits : Bool := match e.range with | some (b, l) => b + n ≤ l && c.clear j b n | none => false
  if fits then
    let base := (e.range.map (·.1)).getD 0
    let s := s.setCore p (c.setEp j { e' with life := .connected, code := 0, resv := some (base, n), stub := some (m.stub, m.stubEp) })
    s.toPeer p j m.stub m.stubEp (chanMsg .adopterName)
  else
    let s := s.setCore p (c.setEp j { e'.toClosed 19 false false with stub := none })
    s.chanSend p j (closeMsg .close 19 false)

/-- `ep.conn` at the head (R242, R243): checks 1 to 3, then the request leaves. DESIGN CHOICE: Table 07.4 gives bits 27:26 of a name of kind 0
no meaning; a word that sets one is malformed, as one that sets a reserved bit. -/
def State.connect (s : State) (p : Nat) (k : Fin 16) (x : Cmd) (more : Bool) : State :=
  let c := s.core p
  let e := { c.eps[k] with exp := if more then c.eps[k].exp else none }
  let w := (v1 x.vals).toNat
  let kind := bits w 25 24
  let name := w % 2 ^ 20
  let fail (code : Nat) : State := ((s.setCore p (c.setEp k { e with lref := code })).chanLose p k).chanDone p x code
  let nameOk : Bool := w < 2 ^ 28 && (if kind = 0 then bits w 27 26 == 0 && coreOf name < 192
    else kind == 1 && bits w 27 26 != 3 && bits w 23 11 == 0)
  match c.ready k, e.aut with
  | .error code, _ => fail code
  | .ok _, none => fail 10
  | .ok r, some a =>
    if !nameOk then fail 1
    else
      let e := { e with life := .connecting, prev := e.life, peer := name, pep := bits w 23 20, pkind := kind, key := v2 x.vals
                        resv := some r }
      let m : ChanMsg := { sub := .request, src := p, sep := k.val, dst := name, dkind := kind, dep := e.pep, asid := c.asid
                           bia := bits w 27 26, key := (v2 x.vals).toNat, aut := some a, payload := formBytes a
                           cmd := x.seq }
      (s.setCore p { c.setEp k e with nSent := true }).send p 0 name kind c.asid (.chan m)

/-- `ep.shr` (R268): the code. -/
def Core.share (c : Core) (k : Fin 16) (w : Nat) : Except Nat Ep :=
  let e := c.eps[k]
  let base := bits w 16 0
  let n := bits w 38 32
  match e.aut with
  | none => .error 10
  | some a =>
    if (e.life ≠ .idle ∧ e.life ≠ .closed) ∨ a.shared = false then .error 10
    else if bits w 31 17 ≠ 0 ∨ bits w 63 39 ≠ 0 ∨ base % 16 ≠ 0 ∨ n = 0 ∨ 64 < n then .error 11
    else if 0x18000 < base + n * slotSize a ∨ c.clear k base (n * slotSize a) = false then .error 5
    else .ok { e with life := .shared, resv := some (base, n * slotSize a), mslots := n, msize := slotSize a, msealed := false
                      buf := [], notice := none }

/-- `post` at the head (R269). -/
def State.postOut (s : State) (p : Nat) (x : Cmd) : Option State :=
  let c := s.core p
  let w := (v1 x.vals).toNat
  let plc := w % 2 ^ 20
  let n := bits w 38 32
  if bits w 63 39 ≠ 0 ∨ bits w 31 30 ≠ 0 ∨ 64 < n then some (s.chanDone p x 3)
  else if 192 ≤ coreOf plc then some (s.chanDone p x 8)
  else if !(c.released x.act x.mark (s.pathScope p plc 0) && c.spDone x.act x.mark) then none
  else
    match s.chanRead p x (v2 x.vals).toNat n with
    | .error s => some s
    | .ok b =>
      let m : PostMsg := { src := p, dst := plc, dep := bits w 23 20, asid := c.asid, ty := bits w 29 24, payload := b, act := x.act
                           tag := x.tag, seq := x.seq }
      some ((s.setCore p { c with nSent := true }).toCore p plc c.asid (.post m))

/-- What the command at the head of the queue does; none while it waits. DESIGN CHOICE: `lref` records the results of `ep.conn` and `ep.acc`
and not that of `ep.shr`, whose codes Table 07.6 also lists: R244 speaks of connections. -/
def State.chanPerform (s : State) (p : Nat) (x : Cmd) : Option State :=
  let c := s.core p
  let more (k : Fin 16) : Bool := (c.nq.drop 1).any (fun y => attemptOn y.op == some k)
  match x.op with
  | .send k _ _ t =>
    s.chanRelease p k x (fun s =>
      match s.chanRead p x (v1 x.vals).toNat (v2 x.vals).toNat with
      | .error s => s
      | .ok b => s.chanOut p k x { chanMsg .data with ty := t.toNat, payload := b })
  | .select k l => s.chanRelease p k x (fun s => s.chanOut p k x { chanMsg .label with ty := l.toNat })
  | .deleg k j => s.chanRelease p k x (fun s => s.delegate p k j x)
  | .close k q =>
    let e := c.eps[k]
    if x.lost then some (s.chanDone p x 0)
    else match e.life with
    | .connected =>
      if c.released x.act x.mark (s.pathScope p e.peer e.pkind) then
        let s := s.setCore p (c.setEp k ((e.toClosed q.toNat x.conf false).reach x))
        some (s.chanOut p k x { chanMsg .close with code := q.toNat, conf := x.conf })
      else none
    | .listening => some (((s.setCore p (c.setEp k e.toIdle)).chanLose p k).chanDone p x 0)
    | .shared => some ((s.setCore p (c.setEp k e.toIdle)).chanDone p x 0)
    | _ => some (s.chanDone p x 0)
  | .recv k _ _ t =>
    let a := (v1 x.vals).toNat
    if c.eps[k].life = .shared then s.takePost p k x a t.toNat
    else
      s.chanTake p k x
        (fun s m =>
          let b := if m.sub = .data then m.payload.take (0x18000 - a) else []
          (s.modCore p (fun c => (c.put .sp a b).setEp k (c.eps[k].taken x m))).chanDone p x (m.word false))
        (fun s v => s.chanDone p x v)
  | .offer k _ =>
    s.chanTake p k x
      (fun s m =>
        let e := (s.core p).eps[k]
        let q := ((e.edgeOf m).map edgeTo).getD e.cur
        (s.modEp p k (fun e => { e with cur := q, ist := if e.ist.isNone then some q else e.ist })).chanDone p x (m.word true))
      (fun s v => (s.modEp p k (fun e => { e with ist := if e.ist.isNone then x.to_ else e.ist })).chanDone p x v)
  | .adopt k j =>
    let back (s : State) : State :=
      (if x.conf then s.modEp p j (fun y => { y with life := y.prev, ist := some y.cur }) else s).chanDone p x 0
    s.chanTake p k x
      (fun t m =>
        match m.endp with
        | some d => if x.conf then ((t.modEp p k (fun e => e.taken x m)).install p j d).chanDone p x 0 else back s
        | none => back s)
      (fun s _ => back s)
  | .epBind k _ =>
    let w := (v1 x.vals).toNat
    let e := c.eps[k]
    if e.life = .idle ∨ e.life = .closed then
      some ((s.setCore p (c.setEp k { e.toIdle with range := if w = 0 then none else some (bits w 16 0, bits w 48 32) })).chanDone p x 0)
    else some (s.chanDone p x 0)
  | .epConn k .. => some (s.connect p k x (more k))
  | .epAcc k .. =>
    let e := { c.eps[k] with exp := if more k then c.eps[k].exp else none }
    match c.ready k with
    | .error code => some (((s.setCore p (c.setEp k { e with lref := code })).chanLose p k).chanDone p x code)
    | .ok r =>
      let e := { e with life := .listening, prev := e.life, lref := 0, key := v1 x.vals, resv := some r }
      some ((s.setCore p (c.setEp k e)).chanDone p x 0)
  | .epSt k _ => some (s.chanDone p x c.eps[k].word)
  | .atLoad k _ _ =>
    let a := (v1 x.vals).toNat
    let e := c.eps[k]
    let n := if a % 4 = 0 ∧ a + 4 ≤ 0x18000 then 4 + 4 * (c.sp.read (a + 1)).toNat else 0
    match s.chanRead p x a (if a + n ≤ 0x18000 then n else 0) with
    | .error s => some s
    | .ok _ =>
      match validate c.sp a e.life with
      | .error code => some (s.chanDone p x code)
      | .ok t =>
        let e := { e.toIdle with aut := some t, laout := if t.shared then 0 else lookAhead t.edges false
                                 lain := if t.shared then 0 else lookAhead t.edges true }
        some ((s.setCore p (c.setEp k e)).chanDone p x 0)
  | .epShr k _ _ =>
    match c.share k (v1 x.vals).toNat with
    | .error code => some (s.chanDone p x code)
    | .ok e => some ((s.setCore p (c.setEp k e)).chanDone p x 0)
  | .post .. => s.postOut p x
  | _ => some (s.chanDone p x 0)

/-- The channels of a frozen core close once its queue is empty (R37, R252): the refused endpoint is `violated`, the others
`closed` with code 17, and their peers get notices. -/
def State.closeFrozen (s : State) (p : Nat) : State :=
  let viol (k : Fin 16) : Bool := (s.core p).closing.any (fun y => y.1 == k.val)
  let s := ((s.core p).epsIn [.listening, .connecting, .connected]).foldl (fun (s : State) (k : Fin 16) =>
    let e := (s.core p).eps[k]
    let code := if viol k then 16 else 17
    let s := s.modEp p k (fun e => { e.toClosed code false false with life := if viol k then .violated else .closed })
    if e.life = .listening then s else s.chanSend p k (closeMsg .close code false)) s
  s.modCore p (fun c => { c with closing := [] })

/-! ## Forwarding (R266) -/

/-- The code of a message that a stub passes on (R266, Table 07.16). -/
def forwardCode : ChanSub → Nat
  | .data => 2 | .label => 3 | .endp => 4 | .close => 5 | .redirect => 6 | .errorNotice => 10 | .forwarded o => o | _ => 0

/-- Whether what a message releases has been performed at the path scope between the core that sent it and another, its acquirer (R94,
R95). A core of another chip is not of this machine. -/
def State.releasedTo (s : State) (q : Nat) (m : ChanMsg) : Bool :=
  match m.rel with
  | some (p, act, mark) => !s.isCore p || (s.core p).released act mark (s.pathScope p q 0)
  | none => true

/-- A stub passes on the next of what it holds, unless one that it has passed on is still to be taken, or what it releases is yet to be
performed at the scope that holds the new holder too. With the stub-end mark it becomes `idle` (R266). -/
def State.pump (s : State) (p : Nat) (k : Fin 16) : State :=
  let e := (s.core p).eps[k]
  match e.life, e.fwd, e.pass with
  | .moving, some (q, n), m :: r =>
    if e.passing ∨ s.releasedTo q m = false then s
    else if m.sub = .stubEnd then
      (s.toPeer p k q n { chanMsg .stubEnd with seq := m.seq }).modEp p k (fun e =>
        { e.toIdle with aut := none, fwd := none, laout := 0, lain := 0, ist := some 0, pass := r })
    else
      (s.modEp p k (fun e => { e with pass := r, passing := true })).toPeer p k q n
        { m with sub := .forwarded (forwardCode m.sub), skind := 0, dkind := 0, cmd := 0, tries := 0
                 bia := if m.bia = 1 ∨ m.bia = 3 then 3 else 0 }
  | _, _, _ => s

/-- A stub of a core that can pass something on does. -/
def State.pumpStubs (s : State) (p : Nat) : State :=
  match (List.finRange 16).find? (fun k =>
    let e := (s.core p).eps[k]
    e.life == .moving && e.fwd.isSome && !e.passing && !e.pass.isEmpty) with
  | some k => s.pump p k
  | none => s

/-- One step of the channel queue: the head command, unless its message is on its way or a record of the engine is (R34); else what a stub
passes on. -/
def State.drainChannel (s : State) (p : Nat) : State :=
  let c := s.core p
  if c.recs.any (fun e => e.1 == 2) then s
  else
    match c.nq with
    | [] =>
      if c.life = .frozen ∧ (c.epsIn [.listening, .connecting, .connected]).isEmpty = false then s.closeFrozen p else s.pumpStubs p
    | x :: _ =>
      if c.nSent then s.pumpStubs p
      else
        match s.chanPerform p x with
        | some t => t
        | none => s.pumpStubs p

/-! ## Arrivals at a core -/

/-- What a stub has passed on has been taken. -/
def State.passed (s : State) (m : ChanMsg) : State :=
  s.onBoth m.src (fun s p =>
    if (s.core p).eps[epOf m.sep].passing then (s.modEp p (epOf m.sep) (fun e => { e with passing := false })).pump p (epOf m.sep)
    else s)

/-- The sender's command is performed: its message has been accepted, or has met a closed endpoint (R255, R259). A message of a
region controller answers the region that it notifies (Table 09.4), and one that a stub passed on lets the next go. What a router sent
performs no command. -/
def State.chanPerformed (s : State) (m : ChanMsg) : State :=
  if m.bia = 1 then s
  else match m.sub with
  | .forwarded _ => s.passed m
  | _ =>
    if m.cmd = 0 then s
    else if m.skind = 1 then s.post (.actionAttemptAnswer (m.src % 8) (m.cmd - 1) .accepted)
    else
      s.onBoth m.src (fun s p =>
        let c := s.core p
        match c.nq with
        | x :: _ =>
          if c.nSent = true ∧ x.seq = m.cmd then s.chanSentDone p (epOf m.sep) x else s
        | [] => s)

/-- Whether a message comes from an endpoint's peer: by name, or by the channel's numbering where the other end has been
adopted and the redirect has not come (R266). -/
def Ep.fromPeer (e : Ep) (m : ChanMsg) : Bool :=
  (e.peer == m.src && e.pkind == m.skind && (e.pkind == 1 || e.pep == m.sep)) || m.bia == 2

/-- Whether a message comes from the stub of an adopted endpoint. -/
def Ep.fromStub (e : Ep) (m : ChanMsg) : Bool := e.stub == some (m.src, m.sep)

/-- Whether a router tells of the peer, of the stub, or of an end that the peer has left behind and that may have had something to forward
(R266, R282). -/
def Ep.toldOf (e : Ep) (m : ChanMsg) : Bool := m.bia == 1 && (e.peer == m.src || e.fromStub m || e.old.contains (m.src, m.sep))

/-- A redirect, as it comes or as a stub forwards it. -/
def isRedirect (m : ChanMsg) : Bool := m.sub == .redirect || m.sub == .forwarded 6

/-- Whether a message has a number of the channel's direction: what a router sends has none. -/
def numbered (m : ChanMsg) : Bool := m.bia != 1 && m.bia != 3 && !isRedirect m

/-- Whether a packet is in sequence at an end that expects a number (R273). DESIGN CHOICE: the acknowledgement of a redirect takes a number of
its direction, and the stub-end mark, which stands for it at the new holder, the same; what a stub forwards keeps its own. A redirect takes none, for the new holder numbers on at once
from where the stub has ended: it carries the stub's next number, and is in sequence once all that the stub had sent has come. -/
def inSeq (rseq : Nat) (m : ChanMsg) : Bool :=
  if numbered m then m.seq == rseq else if isRedirect m then decide ((rseq + 65536 - m.seq) % 65536 < 32768) else true

/-- The number that is expected after a packet. -/
def nextSeq (rseq : Nat) (m : ChanMsg) : Nat := if numbered m then (rseq + 1) % 65536 else rseq

/-- Whether the handler entry of an endpoint can take another mark (R145). -/
def Core.entryFull (c : Core) (k : Fin 16) : Bool := c.markAns (.endpoint k.val) == .retry

/-- A connection request has not been answered for want of a link or a core that can (R244): the connector's attempt ends. -/
def State.requestOver (s : State) (p : Nat) (k : Fin 16) (cmd code : Nat) (conn : Nat := 0) : State :=
  let c := s.core p
  let e := c.eps[k]
  match c.nq with
  | x :: _ =>
    if e.life ≠ .connecting ∨ c.nSent = false ∨ x.seq ≠ cmd then s
    else
      let c := if code = 0 then { c with chanNo := c.chanNo + 1 } else c
      let e := if code = 0 then { e.toConnected with cno := c.chanNo, conn := conn }
        else { e with life := e.prev, lref := code, resv := if e.prev = .idle then none else e.resv }
      let s := s.setCore p (c.setEp k e)
      (if code = 0 then s else s.chanLose p k).chanDone p x code
  | [] => s

/-- A stub gives up: the new holder and the peer learn that forwarding state was lost (Table 07.10). -/
def State.stubLost (s : State) (p : Nat) (k : Fin 16) : State :=
  let c := s.core p
  let e := c.eps[k]
  match e.life, e.fwd with
  | .moving, some (q, n) =>
    let m : ChanMsg := { closeMsg .errorNotice 18 false with src := p, sep := k.val, asid := c.asid, bia := 1, conn := e.conn }
    let s := s.send p 0 e.peer e.pkind c.asid (.chan { m with dst := e.peer, dkind := e.pkind, dep := e.pep })
    let s := s.toCore p q c.asid (.chan { m with dst := q, dep := n })
    s.modEp p k (fun e => { e.toIdle with aut := none, fwd := none, laout := 0, lain := 0, ist := some 0, pass := [], passing := false })
  | _, _ => s

/-- The retry limit of a message has run out (R274): its command is performed without delivery, and the sending endpoint closes
with code 19, without notice. DESIGN CHOICE: a connection request, which R274 does not name, ends with code 8 (the peer may be asked
again), and a stub that cannot forward has lost its state. A message of no command, the notice of a frozen core or a stub-end mark, closes
nothing but the channel that it belongs to. -/
def State.retriesOut (s : State) (m : ChanMsg) : State :=
  let k := epOf m.sep
  match m.sub with
  | .request => s.onBoth m.src (fun s p => s.requestOver p k m.cmd 8)
  | .forwarded _ => s.onBoth m.src (fun s p => s.stubLost p k)
  | _ =>
    (s.onBoth m.src (fun s p =>
      s.modEp p k (fun e =>
        if e.cno = m.cno ∧ (e.life = .connected ∨ (e.life = .closed ∧ m.sub = .close)) then e.toClosed 19 false false else e))).chanPerformed m

/-- A retry reply reaches the sender (R274, R459): the message is sent again after 1 µs, until the limit. A notice of a router is then
given up. A region controller makes its next attempt with the binding that stands then (R328, R329), and gives up a conversation. -/
def State.chanRetry (s : State) (m : ChanMsg) : State :=
  let again : State := s.after us (.channelRetryResend { m with tries := m.tries + 1 })
  if m.bia = 1 ∧ m.sub ≠ .request then if m.tries + 1 < 1024 then again else s
  else if m.skind = 1 then
    let c := s.ctl (m.src % 8)
    let mine (x : Conn) : Bool := x.num == m.conn
    if m.cmd ≠ 0 then
      (s.setCtl (m.src % 8) { c with conns := c.conns.map (fun x => if mine x then { x with sseq := m.seq } else x) }).post
        (.actionAttemptAnswer (m.src % 8) (m.cmd - 1) .retry)
    else if m.tries + 1 < 1024 then again
    else s.setCtl (m.src % 8) { c with conns := c.conns.filter (fun x => !mine x) }
  else if m.tries + 1 < 1024 then again
  else s.retriesOut m

/-- A buffered form of a message. -/
def bufOf (m : ChanMsg) (slot : Nat) : BufMsg :=
  { sub := m.sub, ty := m.ty, payload := m.payload, endp := m.endp, slot := slot, seq := m.seq, rel := m.rel }

/-- A message reaches a moving endpoint: in sequence, it is passed on in its turn. A direct message to an endpoint that was itself adopted
waits for that stub's end (R266, R273). -/
def State.stubTakes (s : State) (p : Nat) (k : Fin 16) (m : ChanMsg) : State :=
  let e := (s.core p).eps[k]
  let forwarded : Bool := match m.sub with | .forwarded _ => true | _ => false
  if e.stub.isSome ∧ forwarded = false ∧ e.fromStub m = false then s.modEp p k (fun e => { e with held := e.held ++ [m] })
  else if !inSeq e.rseq m then s.fabricError (dieOf p)
  else ((s.modEp p k (fun e => { e with pass := e.pass ++ [m], rseq := nextSeq e.rseq m })).pump p k).chanPerformed m

/-- A data, label or endpoint message is taken into the next slot of its endpoint, in sequence, and marks an entry (R240, R260,
R273); `m` is what it is and `whole` the packet that brought it. -/
def State.chanAccept (s : State) (p : Nat) (k : Fin 16) (m whole : ChanMsg) : State :=
  let c := s.core p
  let e := c.eps[k]
  if m.seq ≠ e.rseq then s.fabricError (dieOf p)
  else if c.entryFull k then s.chanRetry whole
  else
    let c := c.setEp k { e with buf := e.buf ++ [bufOf m e.ring], rseq := (e.rseq + 1) % 65536, ring := (e.ring + 1) % max 1 e.lain }
    ((s.setCore p (c.tryMark (.endpoint k.val) s.now)).placeMsg p k e.ring m.payload.length).chanPerformed whole

/-- A message of a conversation reaches its endpoint. -/
def chanArrival (m : ChanMsg) (s : State) : Host.Outcome State Fault Refusal :=
  let p := m.dst
  let k := epOf m.dep
  let c := s.core p
  let e := c.eps[k]
  match e.life with
  | .connected =>
    if !e.fromPeer m then .next (s.chanPerformed m)
    else if e.stub.isSome then .next (s.modEp p k (fun e => { e with held := e.held ++ [m] }))
    else .next (s.chanAccept p k m m)
  | .moving => if e.fromPeer m then .next (s.stubTakes p k m) else .next (s.chanPerformed m)
  | _ => .next (s.chanPerformed m)

def execChannelMessageArrival (m : ChanMsg) (s : State) : Host.Outcome State Fault Refusal := chanArrival m s

def execEndpointMessageArrival (m : ChanMsg) (s : State) : Host.Outcome State Fault Refusal :=
  if m.endp.isSome then chanArrival m s else .next s

/-- A command of an endpoint whose message a notice has answered counts as performed. -/
def State.answeredBy (s : State) (p : Nat) (k : Fin 16) : State :=
  match (s.core p).nq with
  | x :: _ =>
    let mine : Bool := match x.op with
      | .send j .. => j == k | .select j _ => j == k | .deleg j _ => j == k | .close j _ => j == k | _ => false
    if (s.core p).nSent && mine then s.chanSentDone p k x else s
  | [] => s

/-- An endpoint learns that its channel has ended (R259, R260): the notice stands behind what it has buffered. A close notice marks the
endpoint's entry, or meets a retry reply where that can take no mark (R145); Table 05.2 names no error notice. A command of the endpoint
whose message is on its way counts as performed. -/
def State.chanEnds (s : State) (p : Nat) (k : Fin 16) (m : ChanMsg) (err : Bool) : State :=
  let c := s.core p
  let e := c.eps[k]
  if c.entryFull k ∧ err = false then s.chanRetry m
  else
    let c := c.setEp k { e.toClosed m.code m.conf err with rseq := nextSeq e.rseq m, stub := none, held := [] }
    let c := if err then c else c.tryMark (.endpoint k.val) s.now
    ((s.setCore p c).chanPerformed m).answeredBy p k

/-- A router's answer to a command whose endpoint has closed meanwhile. -/
def State.lateAnswer (s : State) (p : Nat) (m : ChanMsg) : State :=
  match (s.core p).nq with
  | x :: _ => if m.bia = 1 ∧ (s.core p).nSent ∧ x.seq = m.cmd then s.chanSentDone p (epOf m.dep) x else s.chanPerformed m
  | [] => s.chanPerformed m

/-- A close notice (R259). One that a router sends in a core's stead has no number of the channel's. One that meets an endpoint that has
closed itself marks its entry all the same (R260). -/
def execCloseNoticeArrival (m : ChanMsg) (s : State) : Host.Outcome State Fault Refusal :=
  let p := m.dst
  let k := epOf m.dep
  let c := s.core p
  let e := c.eps[k]
  match e.life with
  | .connected =>
    if e.toldOf m then .next (s.chanEnds p k m false)
    else if !e.fromPeer m then .next (s.chanPerformed m)
    else if e.stub.isSome then .next (s.modEp p k (fun e => { e with held := e.held ++ [m] }))
    else if m.seq ≠ e.rseq then .next (s.fabricError (dieOf p))
    else .next (s.chanEnds p k m false)
  | .moving => if e.fromPeer m then .next (s.stubTakes p k m) else .next (s.chanPerformed m)
  | .closed =>
    if e.fromPeer m ∨ (m.bia = 1 ∧ e.peer = m.src) then
      if c.entryFull k then .next (s.chanRetry m)
      else .next ((s.setCore p (c.tryMark (.endpoint k.val) s.now)).lateAnswer p m)
    else .next (s.lateAnswer p m)
  | _ => .next (s.chanPerformed m)

/-- An error notice: the peer's core was sealed, or forwarding state was lost (R266, R282). One that the peer itself has sent has its
number (R273). -/
def execErrorNoticeArrival (m : ChanMsg) (s : State) : Host.Outcome State Fault Refusal :=
  let p := m.dst
  let k := epOf m.dep
  let e := (s.core p).eps[k]
  match e.life with
  | .connected =>
    if e.toldOf m then .next (s.chanEnds p k m true)
    else if !e.fromPeer m then .next (s.chanPerformed m)
    else if e.stub.isSome then .next (s.modEp p k (fun e => { e with held := e.held ++ [m] }))
    else if m.seq ≠ e.rseq then .next (s.fabricError (dieOf p))
    else .next (s.chanEnds p k m true)
  | .connecting => if e.peer = m.src then .next (match (s.core p).nq with | x :: _ => s.requestOver p k x.seq 7 | [] => s) else .next s
  | .moving =>
    if e.fromPeer m ∨ e.toldOf m = true then .next (s.stubTakes p k m)
    else .next (s.chanPerformed m)
  | .closed => .next (s.lateAnswer p m)
  | _ => .next (s.chanPerformed m)

/-- The acceptor's checks 5 to 8 (Table 07.5): the code, and the acceptor after it. -/
def Core.acceptor (c : Core) (k : Fin 16) (m : ChanMsg) : Nat × Ep :=
  let e := c.eps[k]
  if e.life ≠ .listening then (2, e)
  else if m.asid ≠ c.asid then (9, { e with lref := 9 })
  else if e.key.toNat ≠ m.key then (3, { e with lref := 3 })
  else
    match e.aut, m.aut with
    | some a, some b =>
      if a = mirror b then (0, { e.toConnected with peer := m.src, pep := m.sep, pkind := m.skind }) else (4, { e with lref := 4 })
    | _, _ => (4, { e with lref := 4 })

/-- A connection request reaches the acceptor, which answers it at once. -/
def execConnectionRequestArrival (m : ChanMsg) (s : State) : Host.Outcome State Fault Refusal :=
  let p := m.dst
  let k := epOf m.dep
  let c := s.core p
  let (code, e) := c.acceptor k m
  let c := if code = 0 then { c.setEp k { e with cno := c.chanNo + 1 } with chanNo := c.chanNo + 1 } else c.setEp k e
  .next ((s.setCore p c).toPeer p k m.src m.sep { chanMsg .answer with code := code, cmd := m.cmd })

/-- The answer reaches the connector (R243, R244). -/
def execConnectionAnswerArrival (m : ChanMsg) (s : State) : Host.Outcome State Fault Refusal :=
  .next (s.requestOver m.dst (epOf m.dep) m.cmd m.code m.conn)

/-! ## Delegation (R266) -/

/-- The redirect that tells a stub's peer the new name. A stub that was itself adopted sends it once that stub's end has come, so that
its peer knows it. -/
def State.sendRedirect (s : State) (p : Nat) (k : Fin 16) : State :=
  let e := (s.core p).eps[k]
  match e.fwd with
  | none => s
  | some (q, n) =>
    let r : ChanMsg := { sub := .redirect, src := p, sep := k.val, dst := e.peer, dkind := e.pkind, dep := e.pep
                         asid := (s.core p).asid, key := q + n * 2 ^ 20, seq := e.sseq, cno := e.cno, conn := e.conn }
    s.send p 0 e.peer e.pkind (s.core p).asid (.chan r)

/-- The new holder's name reaches the stub: what is buffered is forwarded in order, and the peer redirected. -/
def execAdopterNameArrival (m : ChanMsg) (s : State) : Host.Outcome State Fault Refusal :=
  let p := m.dst
  let k := epOf m.dep
  let e := (s.core p).eps[k]
  if e.life ≠ .moving then .next (s.toPeer p k m.src m.sep { chanMsg .errorNotice with code := 18, bia := 1 })
  else if e.fwd.isSome then .next s
  else
    let old := e.buf.map (fun b => { chanMsg b.sub with ty := b.ty, payload := b.payload, endp := b.endp, seq := b.seq, rel := b.rel })
    let s := (s.modEp p k (fun e => { e with fwd := some (m.src, m.sep), buf := [], pass := old ++ e.pass })).pump p k
    .next (if e.stub.isSome then s else s.sendRedirect p k)

/-- The channel message that a packet or a step carries. -/
def chanOf : Msg → Option ChanMsg
  | .chan m => some m
  | _ => none

def chanIn : Event → Option ChanMsg
  | .deliver k | .coreRouterAnswer k | .pairedInputCopy _ k => chanOf k.msg
  | .channelMessageArrival m | .closeNoticeArrival m | .errorNoticeArrival m | .endpointMessageArrival m | .forwardedMessageArrival m
  | .channelRetryResend m | .controllerConversation _ m => some m
  | _ => none

/-- Whether a message of an end, of those that take a number, has yet to be accepted: it is on its way, waits to be sent again, is held at
a pair's primary, or behind a stub-end mark. -/
def State.onWay (s : State) (f : ChanMsg → Bool) : Bool :=
  let g (m : ChanMsg) : Bool := numbered m && f m
  let held (l : List PairHash) : Bool := l.any (fun h => ((h.pkt.map (·.msg)).bind chanOf).any g)
  s.net.any (fun t => (chanOf t.pkt.msg).any g) || s.agenda.any (fun e => (chanIn e).any g) || s.timers.any (fun x => (chanIn x.2).any g) ||
    s.cores.any (fun c => c.2.eps.toList.any (fun e => e.held.any g) || c.2.pair.any (fun x => held x.mine))

/-- The messages of an endpoint of a core. -/
def sentBy (p : Nat) (k : Fin 16) (m : ChanMsg) : Bool := m.skind == 0 && m.src == p && epOf m.sep == k

/-- A redirect reaches the far end: the acknowledgement goes on the old path, after the messages that this end has sent, and the peer is the
new holder from then on. While one of them is yet to be accepted, or on a retry, it waits: none, to be looked at again (R266, R275). -/
def State.redirect (s : State) (p : Nat) (k : Fin 16) (name : Nat) : Option State :=
  if s.onWay (sentBy p k) then none
  else
    some ((s.chanSend p k (chanMsg .redirectAck)).modEp p k (fun e =>
      { e with peer := name % 2 ^ 20, pep := name / 2 ^ 20 % 16, pkind := 0, old := e.old ++ [(e.peer, e.pep)] }))

/-- An end whose channel is over acknowledges a redirect without a number. -/
def execRedirectArrival (m : ChanMsg) (s : State) : Host.Outcome State Fault Refusal :=
  let p := m.dst
  let k := epOf m.dep
  let e := (s.core p).eps[k]
  let later : State := s.after us (.redirectArrival m)
  match e.life with
  | .moving => if e.fromPeer m then .next (s.stubTakes p k m) else .next s
  | .connected =>
    if e.peer = m.src ∧ e.pep = m.sep then
      if inSeq e.rseq m then .next ((s.redirect p k m.key).getD later) else .next (s.fabricError (dieOf p))
    else .next s
  | .closed =>
    if s.onWay (sentBy p k) then .next later
    else .next (s.toPeer p k m.src m.sep { chanMsg .redirectAck with bia := 1 })
  | _ => .next s

/-- The acknowledgement reaches the stub, which sends the stub-end mark after all it has forwarded, and becomes `idle`. -/
def execRedirectAckArrival (m : ChanMsg) (s : State) : Host.Outcome State Fault Refusal :=
  let p := m.dst
  let k := epOf m.dep
  let e := (s.core p).eps[k]
  match e.life, e.fwd with
  | .moving, some _ =>
    if m.bia ≠ 1 ∧ e.fromPeer m = false then .next s
    else if !inSeq e.rseq m then .next (s.fabricError (dieOf p))
    else
      .next ((s.modEp p k (fun e =>
        { e with pass := e.pass ++ [{ chanMsg .stubEnd with seq := e.rseq }], rseq := nextSeq e.rseq m })).pump p k)
  | _, _ => .next s

/-- A forwarded message reaches the new holder, which passes it on if it has been delegated in its turn. -/
def execForwardedMessageArrival (m : ChanMsg) (s : State) : Host.Outcome State Fault Refusal :=
  let p := m.dst
  let k := epOf m.dep
  let e := (s.core p).eps[k]
  match e.life, m.sub with
  | .moving, .forwarded _ => .next (s.stubTakes p k m)
  | .connected, .forwarded o =>
    if !inSeq e.rseq m then .next (s.fabricError (dieOf p))
    else if o = 2 ∨ o = 3 ∨ o = 4 then
      let sub : ChanSub := if o = 2 then .data else if o = 3 then .label else .endp
      .next (s.chanAccept p k { m with sub := sub } m)
    else if o = 5 then .next (s.chanEnds p k m false)
    else if o = 10 then .next (s.chanEnds p k m true)
    else if o = 6 then
      match s.redirect p k m.key with
      | some t => .next (t.chanPerformed m)
      | none => .next (s.after us (.forwardedMessageArrival m))
    else .next (s.chanPerformed m)
  | _, _ => .next (s.chanPerformed m)

/-- The stub-end mark, in sequence: the direct messages held behind it are taken, or passed on, and a stub that was itself adopted redirects
its peer. -/
def execStubEndArrival (m : ChanMsg) (s : State) : Host.Outcome State Fault Refusal :=
  let p := m.dst
  let k := epOf m.dep
  let e := (s.core p).eps[k]
  if !e.fromStub m then .next s
  else if !inSeq e.rseq m then .next (s.fabricError (dieOf p))
  else
    let s := s.modEp p k (fun e => { e with stub := none, held := [], rseq := nextSeq e.rseq m })
    let s := if e.life = .moving ∧ e.fwd.isSome = true then s.sendRedirect p k else s
    .next { s with agenda := e.held.map (fun h =>
      match h.sub with
      | .close => .closeNoticeArrival h
      | .errorNotice => .errorNoticeArrival h
      | .endp => .endpointMessageArrival h
      | .redirect => .redirectArrival h
      | _ => .channelMessageArrival h) ++ s.agenda }

/-- The message is sent again, unless its command has been given up. A notice or a stub-end mark, which is of no command and whose receiver
waits for it, is sent again whatever has become of its endpoint or its core (R252, R266, R282). -/
def execChannelRetryResend (m : ChanMsg) (s : State) : Host.Outcome State Fault Refusal :=
  let again : State := s.resend m.src m.skind m.dst m.dkind m.asid (.chan m)
  if m.skind = 1 ∨ (m.bia = 1 ∧ m.sub ≠ .request) then .next again
  else
    let c := s.core m.src
    match m.sub with
    | .forwarded _ => .next (if c.life = .sealed ∨ c.life = .vacant then s else again)
    | _ =>
      if m.cmd = 0 then .next again
      else if c.life = .sealed ∨ c.life = .vacant then .next s
      else if c.nSent = true ∧ (c.nq.head?).map (·.seq) = some m.cmd then .next again
      else .next s

/-! ## Posts (R269, R270) -/

/-- The mailbox's answer to a post (Table 07.14), and the core after it. -/
def Core.takesPost (c : Core) (m : PostMsg) (now : Nat) : Nat × Core :=
  let k := epOf m.dep
  let e := c.eps[k]
  if e.life ≠ .shared then (6, c)
  else if e.msealed then (5, c)
  else
    match (e.aut.map (fun a => a.edges)).bind (fun es => es.find? (fun w => edgeType w == m.ty)) with
    | none => (3, c)
    | some _ =>
      if e.msize < m.payload.length then (3, c)
      else
        match lowestFree e.mslots (e.buf.map (·.slot)) with
        | none => (1, c)
        | some n =>
          if c.entryFull k then (2, c)
          else
            let b : BufMsg := { sub := .data, ty := m.ty, payload := m.payload, slot := n }
            (0, (c.setEp k { e with buf := e.buf ++ [b] }).tryMark (.endpoint k.val) now)

/-- A post reaches a mailbox, which answers it; an accepted one is placed in its slot (R268, R270). -/
def execPostArrival (m : PostMsg) (s : State) : Host.Outcome State Fault Refusal :=
  let (code, c) := (s.core m.dst).takesPost m s.now
  let k := epOf m.dep
  let s := s.setCore m.dst c
  let s := if code = 0 then s.placeMsg m.dst k ((c.eps[k].buf.getLast?.map (·.slot)).getD 0) m.payload.length else s
  .next (s.toCore m.dst m.src m.asid (.postAns m.src m.act m.tag m.seq code m.dep))

def execPostAnswerArrival (place act tag seq code : Nat) (s : State) : Host.Outcome State Fault Refusal :=
  match (s.core place).nq with
  | x :: _ => if x.seq = seq ∧ x.act = act ∧ x.tag = tag then .next (s.chanDone place x code) else .next s
  | [] => .next s

/-! ## Region controllers as peers (R271, R333, Table 07.15) -/

/-- A transition word. -/
def edge (from_ to_ : Nat) (recv : Bool) (kind ty szc label : Nat) : Nat :=
  from_ * 2 ^ 28 + to_ * 2 ^ 24 + ofBool recv * 2 ^ 23 + kind * 2 ^ 21 + ty * 2 ^ 15 + szc * 2 ^ 11 + label * 2 ^ 7

/-- The core's side of a built-in automaton. -/
def builtIn (n : Nat) : Automaton :=
  match n with
  | 0 => { nst := 5, shared := false, edges := sortWords [edge 0 1 false 1 0 0 0, edge 0 3 false 1 0 0 1, edge 1 2 false 0 1 0 0,
      edge 2 0 true 0 2 8 0, edge 3 4 false 3 0 0 0] }
  | 1 => { nst := 6, shared := false, edges := sortWords [edge 0 1 false 1 0 0 0, edge 0 4 false 1 0 0 1, edge 1 2 false 0 3 0 0,
      edge 2 3 false 0 4 8 0, edge 3 0 true 0 5 0 0, edge 4 5 false 3 0 0 0] }
  | _ => { nst := 4, shared := false, edges := sortWords [edge 0 1 false 0 6 1 0, edge 1 2 true 0 7 0 0, edge 2 3 false 3 0 0 0] }

/-- The request of the arm conversation (R333). -/
def State.connArm (s : State) (k : Nat) (x : Conn) (b : List Byte) : State :=
  let name : Nat := field b 0 8
  let i := name % 4096
  let c : RegCmd := { place := x.place, act := 0, seq := 0, asid := x.asid, priv := false, entry := 31, pc := 0, window := false, fn := 0
                      ctl := bits name 22 12, v1 := name, v2 := field b 8 8, v3 := field b 16 8 }
  let r := s.region k i
  if regionLimits c ∨ bits name 22 12 ≠ s.ctlName k then (s.regFault k c 1 r.st.code 0).connFail k x
  else if r.owner.isSome ∧ r.owner ≠ some x.asid then (s.regFault k c 2 r.st.code 0).connFail k x
  else
    match s.armRegion k i x.asid c.v2 (bits name 63 40) c.v3 with
    | .error (cause, adr) => (s.regFault k c cause r.st.code adr).connFail k x
    | .ok s =>
      let r := s.region k i
      (s.setRegion k i { r with bnd := true, binding := .notify x.num }).setConn k { x with st := 1, region := some i }

/-- A controller's side of a message of a conversation, in the connection's state. DESIGN CHOICE: Table 07.15 does not say what a length
outside 1 to 4,096 does, nor a data 4 that is shorter than the length asked for: the one ends the conversation with an error notice, and of
the other the bytes that it has are written and reported. -/
def State.connTake (s : State) (k : Nat) (x : Conn) (m : ChanMsg) : State :=
  let label := m.sub = .label
  let data (t : Nat) : Bool := m.sub == .data && m.ty == t
  let va := field m.payload 0 8
  let len := field m.payload 8 4
  let bad := len = 0 ∨ 4096 < len ∨ 2 ^ 52 < va + len
  match x.bia with
  | 2 => if x.st = 0 ∧ data 6 = true then s.connArm k x m.payload else s.connFail k x
  | 1 =>
    if x.st = 0 ∧ label then s.setConn k { x with st := if m.ty = 0 then 1 else 4 }
    else if x.st = 1 ∧ data 3 = true then
      if bad then s.connFail k x else s.setConn k { x with st := 2, va := va, len := len }
    else if x.st = 2 ∧ data 4 = true then
      let b := m.payload.take x.len
      match s.globalWrite x.asid x.va b with
      | (s, true) => s.connSend k { x with st := 0 } { chanMsg .data with ty := 5, payload := leBytes 16 b.length }
      | (s, false) => s.connFail k x
    else s.connFail k x
  | _ =>
    if x.st = 0 ∧ label then s.setConn k { x with st := if m.ty = 0 then 1 else 3 }
    else if x.st = 1 ∧ data 1 = true then
      if bad then s.connFail k x
      else
        match s.globalRead x.asid va len with
        | (s, some b) => s.connSend k { x with st := 0 } { chanMsg .data with ty := 2, payload := b }
        | (s, none) => s.connFail k x
    else s.connFail k x

/-- A request for a connection with a controller (R271): the code. -/
def Ctl.accepts (c : Ctl) (m : ChanMsg) : Nat :=
  if 256 ≤ c.conns.length then 8
  else if m.key ≠ 0 then 3
  else match m.aut with
    | some a => if a = builtIn m.bia then 0 else 4
    | none => 4

/-- A packet of class 6 reaches a region controller, which knows its connections by its own numbers of them, so that a new holder's messages
are taken before the stub's redirect has come (R266, R267). DESIGN CHOICE: the spec does not say how it knows them. -/
def execControllerConversation (ctl : Nat) (m : ChanMsg) (s : State) : Host.Outcome State Fault Refusal :=
  let c := s.ctl ctl
  match m.sub with
  | .request =>
    let code := c.accepts m
    let x : Conn := { num := c.connNo + 1, place := m.src, ep := m.sep, asid := m.asid, bia := m.bia }
    let s := if code = 0 then s.setCtl ctl { c with connNo := c.connNo + 1, conns := c.conns ++ [x] } else s
    .next (s.send (s.ctlName ctl) 1 m.src 0 m.asid
      (.chan { chanMsg .answer with src := s.ctlName ctl, skind := 1, dst := m.src, dep := m.sep, asid := m.asid, code := code, cmd := m.cmd
                                    conn := x.num }))
  | sub =>
    match c.conns.find? (fun x => x.num == m.conn) with
    | none => .next (if m.bia = 1 then s else s.chanPerformed m)
    | some x =>
      if m.bia = 1 then
        let s := s.dropConn ctl x.num
        .next (if m.cmd = 0 then s else s.post (.actionAttemptAnswer ctl (m.cmd - 1) .accepted))
      else if !inSeq x.rseq m then .next (s.fabricError (ctl / 2))
      else if sub = .redirect then
        if s.onWay (fun y => y.skind == 1 && y.src == s.ctlName ctl && y.conn == x.num) then .next (s.after us (.controllerConversation ctl m))
        else .next ((s.connSend ctl x (chanMsg .redirectAck)).modConn ctl x.num (fun y =>
          { y with place := m.key % 2 ^ 20, ep := m.key / 2 ^ 20 % 16 }))
      else
        let y := { x with rseq := nextSeq x.rseq m }
        let s := (s.setConn ctl y).chanPerformed m
        if sub = .close ∨ sub = .errorNotice then .next (s.dropConn ctl x.num)
        else .next (s.connTake ctl y m)

end Sys2Proof.Machine
end

