-- ==== Sys2Proof/Machine/Flags.lean ====
section
/-! DEFINITION. The arithmetic and the conditions of the handler core. The SV9 has no flags: comparisons write 0 or 1
into a register (R179), and branches compare registers (R185). -/

namespace Sys2Proof.Machine

open Sys2Proof

/-- A condition as a register value (R179). -/
def truth (b : Bool) : Word := if b then 1 else 0

/-- `slt`, `blt`: less as signed values. -/
def sLess (a b : Word) : Bool := a.toInt < b.toInt

/-- `sltu`, `bltu`: less as unsigned values. -/
def uLess (a b : Word) : Bool := a.toNat < b.toNat

/-- The count by which a shift moves (R179). -/
def shiftOf (b : Word) : Nat := b.toNat % 64

/-- Bits 127:64 of a signed product. -/
def mulHigh (a b : Word) : Word := BitVec.ofInt 64 (a.toInt * b.toInt / 2 ^ 64)

/-- Bits 127:64 of an unsigned product. -/
def mulHighU (a b : Word) : Word := BitVec.ofNat 64 (a.toNat * b.toNat / 2 ^ 64)

/-- `div` (R179, R180). -/
def divide (a b : Word) : Word := if b = 0 then BitVec.allOnes 64 else BitVec.ofInt 64 (a.toInt.tdiv b.toInt)

/-- `rem`: the remainder has the sign of the dividend (R179, R180). -/
def remainder (a b : Word) : Word := if b = 0 then a else BitVec.ofInt 64 (a.toInt.tmod b.toInt)

/-- `divu` (R179, R180). -/
def divideU (a b : Word) : Word := if b = 0 then BitVec.allOnes 64 else BitVec.ofNat 64 (a.toNat / b.toNat)

/-- `remu` (R179, R180). -/
def remainderU (a b : Word) : Word := if b = 0 then a else BitVec.ofNat 64 (a.toNat % b.toNat)

/-- Leading zero bits; 64 for 0. -/
def leading (a : Word) : Nat := ((List.range 64).find? (fun i => a.getLsbD (63 - i))).getD 64

/-- Trailing zero bits; 64 for 0. -/
def trailing (a : Word) : Nat := ((List.range 64).find? (fun i => a.getLsbD i)).getD 64

/-- One bits. -/
def ones (a : Word) : Nat := ((List.range 64).filter (fun i => a.getLsbD i)).length

/-- The bytes in reverse order. -/
def byteSwap (a : Word) : Word := BitVec.ofNat 64 (leNat (leBytes 8 a.toNat).reverse)

/-- The field of `len` bits at `pos` (R184). -/
def bitField (a : Word) (pos len : Nat) : Nat := a.toNat / 2 ^ pos % 2 ^ len

/-- `bfi`: the low `len` bits of `a` put into `d` at `pos` (R184). -/
def insertField (d a : Word) (pos len : Nat) : Word :=
  let m : Word := BitVec.ofNat 64 ((2 ^ len - 1) * 2 ^ pos)
  (d &&& ~~~m) ||| ((a <<< pos) &&& m)

end Sys2Proof.Machine
end

