-- ==== Sys2Proof/Machine/Handler.lean ====
section
/-! DEFINITION. The handler core (05): its instruction words, the two streams and fetch, the handler table, selection and
dispatch, parking and resumption, the watchdog and the service inbox. -/

namespace Sys2Proof.Machine

open Sys2Proof

/-! ## Hints (R120, R191) -/

/-- A hint becomes pending and stays so until an instruction that is not a hint issues; one of the same kind replaces an
earlier one. A hint other than `hint.imm` is an instruction without an extensible immediate. -/
def hint (s : State) (st : Stream) (imm : Bool) (f : Hints → Hints) : Host.Outcome State Fault Refusal :=
  let c := s.core s.who
  match c.act with
  | none => .fault .noActivation
  | some a =>
    let x := a.str st
    if c.life ≠ .running ∨ x.ended = true then .next s
    else
      match (if imm then none else x.hints.broken false st) with
      | some hw => .next (s.illegalHint s.who a st hw (c.wordAt x.pc))
      | none =>
        if x.hold.isSome then .next (s.block s.who a st .held)
        else
          .next (s.withAct c
            { a.setStr st { x with pc := x.pc + 4, last := x.pc, wait := none, hints := f x.hints } with idle := 0 })

/-- A second `hint.imm` is kept apart: it is a fault at the instruction to which it applies (R120). -/
def execHintImm (st : Stream) (n : BitVec 20) (s : State) : Host.Outcome State Fault Refusal :=
  hint s st true (fun h =>
    if h.imm.isNone then { h with imm := some n } else { h with second := some (h.second.getD n) })

def execHintRnd (st : Stream) (m : BitVec 1) (s : State) : Host.Outcome State Fault Refusal :=
  hint s st false (fun h => { h with rnd := m == 1 })

def execHintSat (st : Stream) (s : State) : Host.Outcome State Fault Refusal :=
  hint s st false (fun h => { h with sat := true })

def execHintSched (st : Stream) (k : BitVec 2) (s : State) : Host.Outcome State Fault Refusal :=
  hint s st false (fun h => { h with sched := k })

def execHintNt (st : Stream) (s : State) : Host.Outcome State Fault Refusal :=
  hint s st false (fun h => { h with nt := true })

/-! ## Register, immediate, shift and bit-field forms (R179 to R184) -/

def execAdd (st : Stream) (d a b : Reg) (s : State) : Host.Outcome State Fault Refusal :=
  alu s st d [a, b] (fun v => v1 v + v2 v)

def execSub (st : Stream) (d a b : Reg) (s : State) : Host.Outcome State Fault Refusal :=
  alu s st d [a, b] (fun v => v1 v - v2 v)

def execAnd (st : Stream) (d a b : Reg) (s : State) : Host.Outcome State Fault Refusal :=
  alu s st d [a, b] (fun v => v1 v &&& v2 v)

def execOr (st : Stream) (d a b : Reg) (s : State) : Host.Outcome State Fault Refusal :=
  alu s st d [a, b] (fun v => v1 v ||| v2 v)

def execXor (st : Stream) (d a b : Reg) (s : State) : Host.Outcome State Fault Refusal :=
  alu s st d [a, b] (fun v => v1 v ^^^ v2 v)

def execAndn (st : Stream) (d a b : Reg) (s : State) : Host.Outcome State Fault Refusal :=
  alu s st d [a, b] (fun v => v1 v &&& ~~~(v2 v))

def execOrn (st : Stream) (d a b : Reg) (s : State) : Host.Outcome State Fault Refusal :=
  alu s st d [a, b] (fun v => v1 v ||| ~~~(v2 v))

def execSll (st : Stream) (d a b : Reg) (s : State) : Host.Outcome State Fault Refusal :=
  alu s st d [a, b] (fun v => v1 v <<< shiftOf (v2 v))

def execSrl (st : Stream) (d a b : Reg) (s : State) : Host.Outcome State Fault Refusal :=
  alu s st d [a, b] (fun v => v1 v >>> shiftOf (v2 v))

def execSra (st : Stream) (d a b : Reg) (s : State) : Host.Outcome State Fault Refusal :=
  alu s st d [a, b] (fun v => (v1 v).sshiftRight (shiftOf (v2 v)))

def execRol (st : Stream) (d a b : Reg) (s : State) : Host.Outcome State Fault Refusal :=
  alu s st d [a, b] (fun v => (v1 v).rotateLeft (shiftOf (v2 v)))

def execSlt (st : Stream) (d a b : Reg) (s : State) : Host.Outcome State Fault Refusal :=
  alu s st d [a, b] (fun v => truth (sLess (v1 v) (v2 v)))

def execSltu (st : Stream) (d a b : Reg) (s : State) : Host.Outcome State Fault Refusal :=
  alu s st d [a, b] (fun v => truth (uLess (v1 v) (v2 v)))

def execSeq (st : Stream) (d a b : Reg) (s : State) : Host.Outcome State Fault Refusal :=
  alu s st d [a, b] (fun v => truth (v1 v == v2 v))

def execSne (st : Stream) (d a b : Reg) (s : State) : Host.Outcome State Fault Refusal :=
  alu s st d [a, b] (fun v => truth (v1 v != v2 v))

def execMin (st : Stream) (d a b : Reg) (s : State) : Host.Outcome State Fault Refusal :=
  alu s st d [a, b] (fun v => if sLess (v2 v) (v1 v) then v2 v else v1 v)

def execMax (st : Stream) (d a b : Reg) (s : State) : Host.Outcome State Fault Refusal :=
  alu s st d [a, b] (fun v => if sLess (v1 v) (v2 v) then v2 v else v1 v)

def execMinu (st : Stream) (d a b : Reg) (s : State) : Host.Outcome State Fault Refusal :=
  alu s st d [a, b] (fun v => if uLess (v2 v) (v1 v) then v2 v else v1 v)

def execMaxu (st : Stream) (d a b : Reg) (s : State) : Host.Outcome State Fault Refusal :=
  alu s st d [a, b] (fun v => if uLess (v1 v) (v2 v) then v2 v else v1 v)

def execSel (st : Stream) (d a b c : Reg) (s : State) : Host.Outcome State Fault Refusal :=
  alu s st d [a, b, c] (fun v => if v1 v ≠ 0 then v2 v else v3 v)

def execMul (st : Stream) (d a b : Reg) (s : State) : Host.Outcome State Fault Refusal :=
  alu s st d [a, b] (fun v => v1 v * v2 v)

def execMulh (st : Stream) (d a b : Reg) (s : State) : Host.Outcome State Fault Refusal :=
  alu s st d [a, b] (fun v => mulHigh (v1 v) (v2 v))

def execMulhu (st : Stream) (d a b : Reg) (s : State) : Host.Outcome State Fault Refusal :=
  alu s st d [a, b] (fun v => mulHighU (v1 v) (v2 v))

def execDiv (st : Stream) (d a b : Reg) (s : State) : Host.Outcome State Fault Refusal :=
  alu s st d [a, b] (fun v => divide (v1 v) (v2 v))

def execDivu (st : Stream) (d a b : Reg) (s : State) : Host.Outcome State Fault Refusal :=
  alu s st d [a, b] (fun v => divideU (v1 v) (v2 v))

def execRem (st : Stream) (d a b : Reg) (s : State) : Host.Outcome State Fault Refusal :=
  alu s st d [a, b] (fun v => remainder (v1 v) (v2 v))

def execRemu (st : Stream) (d a b : Reg) (s : State) : Host.Outcome State Fault Refusal :=
  alu s st d [a, b] (fun v => remainderU (v1 v) (v2 v))

def execClz (st : Stream) (d a : Reg) (s : State) : Host.Outcome State Fault Refusal :=
  alu s st d [a] (fun v => BitVec.ofNat 64 (leading (v1 v)))

def execCtz (st : Stream) (d a : Reg) (s : State) : Host.Outcome State Fault Refusal :=
  alu s st d [a] (fun v => BitVec.ofNat 64 (trailing (v1 v)))

def execPopc (st : Stream) (d a : Reg) (s : State) : Host.Outcome State Fault Refusal :=
  alu s st d [a] (fun v => BitVec.ofNat 64 (ones (v1 v)))

def execBswap (st : Stream) (d a : Reg) (s : State) : Host.Outcome State Fault Refusal :=
  alu s st d [a] (fun v => byteSwap (v1 v))

def execAddi (st : Stream) (d a : Reg) (i : BitVec 12) (s : State) : Host.Outcome State Fault Refusal :=
  aluImm s st d [a] 12 i.toNat (fun v m => v1 v + m)

def execAndi (st : Stream) (d a : Reg) (i : BitVec 12) (s : State) : Host.Outcome State Fault Refusal :=
  aluImm s st d [a] 12 i.toNat (fun v m => v1 v &&& m)

def execOri (st : Stream) (d a : Reg) (i : BitVec 12) (s : State) : Host.Outcome State Fault Refusal :=
  aluImm s st d [a] 12 i.toNat (fun v m => v1 v ||| m)

def execXori (st : Stream) (d a : Reg) (i : BitVec 12) (s : State) : Host.Outcome State Fault Refusal :=
  aluImm s st d [a] 12 i.toNat (fun v m => v1 v ^^^ m)

def execSlti (st : Stream) (d a : Reg) (i : BitVec 12) (s : State) : Host.Outcome State Fault Refusal :=
  aluImm s st d [a] 12 i.toNat (fun v m => truth (sLess (v1 v) m))

def execSltiu (st : Stream) (d a : Reg) (i : BitVec 12) (s : State) : Host.Outcome State Fault Refusal :=
  aluImm s st d [a] 12 i.toNat (fun v m => truth (uLess (v1 v) m))

def execSlli (st : Stream) (d a : Reg) (h : BitVec 6) (s : State) : Host.Outcome State Fault Refusal :=
  alu s st d [a] (fun v => v1 v <<< h.toNat)

def execSrli (st : Stream) (d a : Reg) (h : BitVec 6) (s : State) : Host.Outcome State Fault Refusal :=
  alu s st d [a] (fun v => v1 v >>> h.toNat)

def execSrai (st : Stream) (d a : Reg) (h : BitVec 6) (s : State) : Host.Outcome State Fault Refusal :=
  alu s st d [a] (fun v => (v1 v).sshiftRight h.toNat)

def execLim (st : Stream) (d : Reg) (i : BitVec 20) (s : State) : Host.Outcome State Fault Refusal :=
  aluImm s st d [] 20 i.toNat (fun _ m => m)

def execBfx (st : Stream) (d a : Reg) (p l : BitVec 6) (s : State) : Host.Outcome State Fault Refusal :=
  alu s st d [a] (fun v => sext (l.toNat + 1) (bitField (v1 v) p.toNat (l.toNat + 1)))

def execBfxu (st : Stream) (d a : Reg) (p l : BitVec 6) (s : State) : Host.Outcome State Fault Refusal :=
  alu s st d [a] (fun v => BitVec.ofNat 64 (bitField (v1 v) p.toNat (l.toNat + 1)))

/-- `bfi` also reads `rd` (R184). -/
def execBfi (st : Stream) (d a : Reg) (p l : BitVec 6) (s : State) : Host.Outcome State Fault Refusal :=
  alu s st d [d, a] (fun v => insertField (v1 v) (v2 v) p.toNat (l.toNat + 1))

/-! ## Branches and jumps (R160, R172, R185 to R187) -/

/-- A stream moves to an address. -/
def Act.jump (a : Act) (st : Stream) (pc : Nat) : Act := a.setStr st { a.str st with pc := pc }

/-- A branch of format B: the outcome is pushed, and the stream follows it; a taken target beyond the code region is a
fault. -/
def branch (s : State) (st : Stream) (a b : Reg) (o : BitVec 10) (cond : Word → Word → Bool) :
    Host.Outcome State Fault Refusal :=
  issue s { st := st, srcs := [a, b], decides := true } (fun i =>
    let t := cond (v1 i.vals) (v2 i.vals)
    let target := branchTarget i.pc o
    if t = true ∧ i.core.codeLim ≤ target then s.fetchFault s.who i.old st i.pc 2 target
    else
      let x := i.act.setBranches st (i.act.branches st ++ [.taken t])
      s.withAct i.core (if t then x.jump st target else x))

/-- `fh` steers fetch alone (R122). -/
def execBeq (st : Stream) (_h : Fh) (a b : Reg) (o : BitVec 10) (s : State) : Host.Outcome State Fault Refusal :=
  branch s st a b o (fun x y => x == y)

def execBne (st : Stream) (_h : Fh) (a b : Reg) (o : BitVec 10) (s : State) : Host.Outcome State Fault Refusal :=
  branch s st a b o (fun x y => x != y)

def execBlt (st : Stream) (_h : Fh) (a b : Reg) (o : BitVec 10) (s : State) : Host.Outcome State Fault Refusal :=
  branch s st a b o sLess

def execBge (st : Stream) (_h : Fh) (a b : Reg) (o : BitVec 10) (s : State) : Host.Outcome State Fault Refusal :=
  branch s st a b o (fun x y => !sLess x y)

def execBltu (st : Stream) (_h : Fh) (a b : Reg) (o : BitVec 10) (s : State) : Host.Outcome State Fault Refusal :=
  branch s st a b o uLess

def execBgeu (st : Stream) (_h : Fh) (a b : Reg) (o : BitVec 10) (s : State) : Host.Outcome State Fault Refusal :=
  branch s st a b o (fun x y => !uLess x y)

/-- A jump of format J in the stream that its S names (R186). -/
def jump (s : State) (st : Stream) (d : Dst) (t : BitVec 13) (link : Act → Nat → Act) : Host.Outcome State Fault Refusal :=
  issue s { st := st, dst := d } (fun i =>
    let target := 4 * t.toNat
    if i.core.codeLim ≤ target then s.fetchFault s.who i.old st i.pc 2 target
    else s.withAct i.core ((link i.act (i.pc + 4)).jump st target))

def execJ (st : Stream) (t : BitVec 13) (s : State) : Host.Outcome State Fault Refusal := jump s st .none t (fun a _ => a)

def execJal (st : Stream) (d : Reg) (t : BitVec 13) (s : State) : Host.Outcome State Fault Refusal :=
  jump s st (.now d) t (fun a l => a.write st d (BitVec.ofNat 64 l))

/-- A jump of format JR in the stream that its S names (R187). -/
def jumpReg (s : State) (st : Stream) (d : Dst) (a : Reg) (link : Act → Nat → Act) : Host.Outcome State Fault Refusal :=
  issue s { st := st, srcs := [a], dst := d, decides := true } (fun i =>
    let t := (v1 i.vals).toNat
    if t % 4 ≠ 0 ∨ i.core.codeLim ≤ t then s.fetchFault s.who i.old st i.pc 3 t
    else
      let x := i.act.setBranches st (i.act.branches st ++ [.target (t % 65536)])
      s.withAct i.core ((link x (i.pc + 4)).jump st t))

def execJr (st : Stream) (a : Reg) (s : State) : Host.Outcome State Fault Refusal := jumpReg s st .none a (fun x _ => x)

def execJalr (st : Stream) (d a : Reg) (s : State) : Host.Outcome State Fault Refusal :=
  jumpReg s st (.now d) a (fun x l => x.write st d (BitVec.ofNat 64 l))

/-! ## The end of an activation (R153, R188) -/

/-- Whether a message of the scheduler's instructions waits in the core, or a record of theirs is not accepted (R34): what comes after then
waits too, so that the messages leave in their order (R449). -/
def Core.schedBehind (c : Core) : Bool := c.schedOut.any (fun x => !x.sent) || c.recs.any (fun e => e.1 == 8)

/-- The task of an activation is reported finished, behind the messages that wait (R433, R449). -/
def State.taskFinished (s : State) (p : Nat) (a : Act) (rid : Nat) : State :=
  let c := s.core p
  if c.schedBehind then
    s.setCore p { c with schedOut := c.schedOut ++ [{ cmd := { op := .done .a, act := a.id, mark := c.lsSeq, asid := a.asid }, fin := some rid }] }
  else s.send p 0 (s.schedName (dieOf p)) 3 a.asid (.finished (dieOf p) rid)

/-- The activation has ended: what is left of it is discarded, a task is reported finished (R433), a child's count waits
for its release (R445), and its slots are examined (R413). -/
def State.endActivation (s : State) (p : Nat) (a : Act) : State :=
  let s := s.modCore p (fun c =>
    { c with act := none
             tasks := match a.rid with | some r => c.tasks.erase r | none => c.tasks
             doneOut := match a.child with
               | some w => if w.cont then c.doneOut else c.doneOut ++ [(a.id, w)]
               | none => c.doneOut })
  let s := match a.rid with
    | some r => s.taskFinished p a r
    | none => s
  (s.modCore p (fun c => { c with freeAt := s.now })).examineSlots p a.id

/-- A stream acts on `done` and stays at that word; the activation ends when both streams have (R193). -/
def State.endStream (s : State) (p : Nat) (a : Act) (st : Stream) (pc : Nat) : State :=
  let a := { a.ends st pc with idle := 0 }
  if a.a.ended && a.e.ended then s.endActivation p a
  else s.modCore p (fun c => { c with act := some a })

def execDone (st : Stream) (s : State) : Host.Outcome State Fault Refusal :=
  issue s { st := st } (fun i => s.endStream s.who i.act st i.pc)

/-! ## System registers (R175, R176, Tables 05.6, 05.7) -/

/-- The waiting time of an entry in µs (R139, R146). -/
def entryWait (x : Entry) (now : Nat) : Nat := if x.valid ∧ x.pend > 0 then min (2 ^ 32 - 1) ((x.waited + (now - x.since)) / us) else 0

/-- Effective priority (R147). -/
def effective (prio wait step : Nat) : Nat := if step = 0 then prio else min 7 (prio + wait / step)

def Core.hdEntry (c : Core) : Option Entry := c.hdl[c.hdSel]?

/-- Bytes 0 to 7 of the entry that `hd.sel` names, as Table 05.7. -/
def Core.readHdLo (c : Core) : Nat :=
  match c.hdEntry with
  | none => 0
  | some x => c.hdSel + ofBool x.priv * 2 ^ 10 + x.prio * 2 ^ 11 + ofBool x.enable * 2 ^ 14 + ofBool x.valid * 2 ^ 15 +
      x.src * 2 ^ 16 + x.srcno * 2 ^ 24 + x.pc * 2 ^ 32

def Core.readHdHi (c : Core) : Nat :=
  match c.hdEntry with
  | none => 0
  | some x => x.base + x.limit * 2 ^ 32

def Core.readHdSt (c : Core) (now : Nat) : Nat :=
  match c.hdEntry with
  | none => 0
  | some x =>
    let w := entryWait x now
    x.pend + effective x.prio w c.ageUs * 2 ^ 16 + ofBool (x.valid && x.pend > 0) * 2 ^ 19 + w * 2 ^ 32

/-- The value of a system register. -/
def State.csrRead (s : State) (p : Nat) (a : Act) (n : Nat) : Word :=
  let c := s.core p
  BitVec.ofNat 64 (match n with
    | 0x000 => a.src + a.info * 2 ^ 32
    | 0x001 => a.ent
    | 0x002 => a.wid.toNat
    | 0x003 => a.wfw.toNat
    | 0x008 => a.rgn.toNat
    | 0x009 => a.cyc
    | 0x00A => ofBool a.priv * 2 ^ 16 + a.asid
    | 0x010 => c.ageUs
    | 0x011 => c.parkNs
    | 0x012 => c.wdogLim
    | 0x013 => c.codeLim
    | 0x018 => match c.pair with | some x => if x.primary then p else x.other | none => p
    | 0x01A => (16 - c.ctxs.length) + (2 - (c.ctxs.filter (fun x => !x.tiles.isEmpty)).length) * 2 ^ 8 +
        c.ctxs.length * 2 ^ 16
    | 0x020 => c.hdSel
    | 0x021 => c.readHdLo
    | 0x022 => c.readHdHi
    | 0x023 => c.readHdSt s.now
    | 0x030 => s.now - c.born
    | _ =>
      if 4 ≤ n ∧ n ≤ 7 then (a.args.getD (n - 4) 0).toNat
      else if 0x40 ≤ n ∧ n ≤ 0x47 then (a.svc.getD (n - 0x40) 0).toNat
      else 0)

/-- Registers whose meaning names service privilege for writes. -/
def csrService (n : Nat) : Bool := 0x010 ≤ n && n ≤ 0x013

/-- A descriptor as `hd.lo` and `hd.hi` stage it (Table 04.15). -/
def descriptor (lo hi : Nat) : Entry :=
  { valid := bit lo 15, enable := bit lo 14, prio := bits lo 13 11, priv := bit lo 10, src := bits lo 23 16
    srcno := bits lo 31 24, pc := bits lo 47 32, base := bits hi 31 0, limit := bits hi 63 32 }

/-- The checks of a commit (R143): the cause of the first that fails. -/
def Core.commitCause (c : Core) (priv : Bool) (lo hi : Nat) : Option Nat :=
  let x := descriptor lo hi
  let e := bits lo 4 0
  let ok := e ≤ 19 && x.src ≤ 5 && (if x.src = 0 then x.srcno ≤ 15 else if x.src = 5 then x.srcno ≤ 3 else x.srcno == 0) &&
    x.pc % 4 == 0 && x.base ≤ x.limit && x.limit ≤ 0x18000 && bits lo 9 5 == 0 && bits lo 63 48 == 0
  if !ok then some 6
  else if !priv && (x.priv || ((c.hdl[e]?).map (·.priv)).getD false) then some 7
  else none

/-- A commit replaces the descriptor and keeps or clears the state fields (R144). -/
def Core.commit (c : Core) (lo hi : Nat) : Core :=
  match Nat.decLt (bits lo 4 0) 20 with
  | .isFalse _ => c
  | .isTrue h =>
    let x := c.hdl[bits lo 4 0]
    let y := descriptor lo hi
    let keep := (x.valid && y.valid && x.src == y.src && x.srcno == y.srcno) || (!y.valid && !x.valid)
    let y := if keep then { y with pend := x.pend, since := x.since, waited := x.waited, work := x.work } else y
    { c with hdl := c.hdl.set (bits lo 4 0) y }

/-- A write to `code.lim`: rounded down, capped, and the code tag set to 0 (R171, R175, R430). -/
def Core.setCodeLim (c : Core) (v : Nat) : Core :=
  { c with codeLim := min 32768 (v % 65536 / 4 * 4), codeTag := 0 }

/-- A write to another register (R175). -/
def Core.setSysreg (c : Core) (n v : Nat) : Core :=
  match n with
  | 0x010 => { c with ageUs := v % 65536 }
  | 0x011 => { c with parkNs := v % 2 ^ 20 }
  | 0x012 => { c with wdogLim := max 4096 (v % 2 ^ 40) }
  | 0x020 => { c with hdSel := v % 32 }
  | _ => c

/-- A write of a system register by an activation (R142, R175): the core and activation after it, or the cause of an
illegal encoding. `a` is the activation after issue. -/
def csrWrite (c : Core) (a : Act) (n : Nat) (v : Word) : Except Nat Core :=
  if csrService n && !a.priv then .error 7
  else
    match n with
    | 0x021 => .ok { c with act := some { a with hdLo := v } }
    | 0x022 =>
      match c.commitCause a.priv a.hdLo.toNat v.toNat with
      | some k => .error k
      | none => .ok { c.commit a.hdLo.toNat v.toNat with act := some a }
    | 0x013 => .ok { c.setCodeLim v.toNat with act := some a }
    | _ => .ok { c.setSysreg n v.toNat with act := some a }

def execCsrr (st : Stream) (d : Reg) (n : BitVec 12) (s : State) : Host.Outcome State Fault Refusal :=
  issue s { st := st, dst := .now d } (fun i =>
    s.withAct i.core (i.act.write st d (s.csrRead s.who i.old n.toNat)))

/-- A word that writes a system register: `f` combines the old value and the operand (R189). -/
def csrOp (s : State) (st : Stream) (a : Reg) (n : Nat) (f : Word → Word → Word) : Host.Outcome State Fault Refusal :=
  issue s { st := st, srcs := [a], priv := csrService n } (fun i =>
    match csrWrite i.core i.act n (f (s.csrRead s.who i.old n) (v1 i.vals)) with
    | .ok c => s.setCore s.who c
    | .error k => s.illegal s.who i.old st (i.core.wordAt i.pc) k)

def execCsrw (st : Stream) (a : Reg) (n : BitVec 12) (s : State) : Host.Outcome State Fault Refusal :=
  csrOp s st a n.toNat (fun _ v => v)

def execCsrs (st : Stream) (a : Reg) (n : BitVec 12) (s : State) : Host.Outcome State Fault Refusal :=
  csrOp s st a n.toNat (fun x v => x ||| v)

def execCsrc (st : Stream) (a : Reg) (n : BitVec 12) (s : State) : Host.Outcome State Fault Refusal :=
  csrOp s st a n.toNat (fun x v => x &&& ~~~v)

/-- A write as a step of its own: the register is written by the stream's current word, without issue. -/
def sysregStep (s : State) (st : Stream) (n : Nat) (v : Word) : Host.Outcome State Fault Refusal :=
  let c := s.core s.who
  match c.act with
  | none => .next s
  | some a =>
    match csrWrite c a n v with
    | .ok c => .next (s.setCore s.who c)
    | .error k => .next (s.illegal s.who a st (c.wordAt (a.str st).pc) k)

def execHdLoWrite (st : Stream) (v : Word) (s : State) : Host.Outcome State Fault Refusal := sysregStep s st 0x021 v

def execHdHiWrite (st : Stream) (v : Word) (s : State) : Host.Outcome State Fault Refusal := sysregStep s st 0x022 v

def execCodeLimWrite (st : Stream) (v : Word) (s : State) : Host.Outcome State Fault Refusal := sysregStep s st 0x013 v

/-- A write to a register other than `hd.lo`, `hd.hi` and `code.lim`. -/
def execSysregWrite (st : Stream) (n : BitVec 12) (v : Word) (s : State) : Host.Outcome State Fault Refusal :=
  if n = 0x010 ∨ n = 0x011 ∨ n = 0x012 ∨ n = 0x020 then sysregStep s st n.toNat v else .next s

/-! ## `nop`, `wfld`, `qcnt` (R190) -/

def execNop (st : Stream) (s : State) : Host.Outcome State Fault Refusal :=
  issue s { st := st } (fun i => s.withAct i.core i.act)

/-- Field n of a work identifier (R137, R177). -/
def workField (wid wfw n : Nat) : Nat :=
  let width (k : Nat) := bits wfw (6 * k + 5) (6 * k)
  let lo := ((List.range n).map width).sum
  wid / 2 ^ lo % 2 ^ width n

def execWfld (st : Stream) (d : Reg) (q : BitVec 4) (s : State) : Host.Outcome State Fault Refusal :=
  issue s { st := st, dst := .now d } (fun i =>
    s.withAct i.core (i.act.write st d (BitVec.ofNat 64 (workField i.old.wid.toNat i.old.wfw.toNat q.toNat))))

/-- The filled slots in the run that starts at the head. -/
def filled (l : List Slot) : Nat := (l.takeWhile (fun x => x.val.isSome)).length

/-- The occupancy of a queue (Table 04.8): of `fq` the values present, of the other queues that a result can fill later the values
that could be popped without waiting. -/
def occupancy (c : Core) (a : Act) (q : Nat) : Nat :=
  match q with
  | 0 => filled a.lq
  | 1 => filled a.sq
  | 2 => (a.fq.filter (fun x => x.val.isSome)).length
  | 3 => filled a.rq
  | 4 => a.bqa.length
  | 5 => a.bqe.length
  | 6 => c.lsq.length
  | 7 => c.cq.length + c.xfers.length
  | 8 => c.vq.length
  | 9 => c.mq.length
  | 10 => c.nq.length
  | 11 => c.kq.length
  | _ => 0

def execQcnt (st : Stream) (d : Reg) (q : BitVec 4) (s : State) : Host.Outcome State Fault Refusal :=
  issue s { st := st, dst := .now d } (fun i =>
    s.withAct i.core (i.act.write st d (BitVec.ofNat 64 (occupancy i.core i.old q.toNat))))

/-! ## Words that are not instructions -/

def execIllegalEncoding (st : Stream) (w : IWord) (cause : Nat) (s : State) : Host.Outcome State Fault Refusal :=
  match (s.core s.who).act with
  | none => .next s
  | some a => .next (s.illegal s.who a st w cause)

def execIllegalHintSequence (st : Stream) (hw w : IWord) (s : State) : Host.Outcome State Fault Refusal :=
  match (s.core s.who).act with
  | none => .next s
  | some a => .next (s.illegalHint s.who a st hw w)

/-! ## Fetch (R121, R161, R162, R172) -/

/-- What a stream finds at its program counter: nothing to issue, with the state after it; a word of its own; or a word of
its own that is not an instruction. -/
inductive Fetched where
  | idle (s : State)
  | word (i : Instr)
  | illegal (st : Stream) (w : IWord) (cause : Nat)

/-- A stream acts on a branch-group word that the other stream decides (Table 04.10), or waits for its outcome; a jump whose target lies
beyond the code region faults in the stream that decides it. -/
def State.follow (s : State) (p : Nat) (a : Act) (st : Stream) (w : IWord) : State :=
  if isDone w then s.endStream p a st (a.str st).pc
  else
    match (s.core p).follow a st w with
    | some b => s.modCore p (fun c => { c with act := some b })
    | none => if fld w 25 6 = 0x11 then s else s.block p a st .branchPop

/-- A stream fetches its next word and skips or follows the other stream's. DESIGN CHOICE: of the old and the new value that R174
allows, a word that was written after it was fetched ahead has the new one: the store is read when the word is acted on. -/
def State.fetch (s : State) (p : Nat) (st : Stream) : Fetched :=
  let c := s.core p
  match c.act with
  | none => .idle s
  | some a =>
    let x := a.str st
    if c.life ≠ .running ∨ x.ended = true then .idle s
    else if x.hold.isSome then .idle (s.block p a st .held)
    else if c.codeLim ≤ x.pc then .idle (s.fetchFault p a st x.last 1 c.codeLim)
    else if c.isBad .code x.pc 4 then
      .idle ((s.coreError p 0 x.pc { ent := a.ent, pc := x.pc, wid := a.wid.toNat }).consume p 0 a.ent a.wid.toNat 0 x.pc st.code x.pc 1 x.pc a.priv)
    else
      let w := c.wordAt x.pc
      if sBit w ≠ st then
        if branchGroup w then .idle (s.follow p a st w)
        else .idle (s.modCore p (fun c =>
          { c with act := some { a.setStr st { x with pc := x.pc + 4, wait := none } with idle := 0 } }))
      else
        match decode w with
        | .ok i => .word i
        | .error k => .illegal st w k.number

/-! ## Marking entries (R145) -/

/-- A word arrives for the handler table and the router answers it: a wake answers its region's controller; a fork's word
that is not taken goes back to its fork unit, a continuation after 1 µs (R446). -/
def execEntryMark (place : Nat) (w : MarkWord) (s : State) : Host.Outcome State Fault Refusal :=
  let c := s.core place
  let held := c.life = .evicting
  let other : Bool := match w with | .child x => x.asid != c.asid | _ => false
  let ans : MarkAns :=
    if held then .retry else if c.life = .running ∧ other = false then c.markAns w else .unmatched
  let t := if ans = .marked then s.setCore place (c.tryMark w s.now) else s
  match w with
  | .wake _ _ k idx =>
    .next (t.send place 0 k 1 c.asid (.actionAns (k % 8) idx
      (match ans with
        | .marked => .accepted
        | .retry => .retry
        | .unmatched => if c.life = .running then .unmatched else .refused)))
  | .child x =>
    if ans = .marked then .next t
    else if x.cont then .next (t.after us (.continuationResend place x))
    else
      let u := t.fork x.unit
      let cell := mget u.cells x.cell {}
      let y := { cell with busy := cell.busy.filter (fun b => b ≠ (place, x.chunk)), redo := cell.redo ++ [x.chunk] }
      if cell.gen ≠ x.gen ∨ cell.st ≠ 1 ∨ cell.busy.contains (place, x.chunk) = false then .next t else .next (t.setFork x.unit { u with cells := mset u.cells x.cell y })
  | _ => .next t

/-! ## Service messages (R33 to R36, R152) -/

/-- A record has been accepted: its engine may go on (R34). -/
def State.accepted (s : State) (m : SvcMsg) : State :=
  match m.rcd with
  | some r => if m.kind = 1 then s.recordTaken r else s
  | none => s

/-- A record or notice that the service core cannot take goes to the supervisor core, and then to error bank 65 (R35,
R36). -/
def State.fallback (s : State) (m : SvcMsg) : State :=
  match m.rcd with
  | none => s
  | some r =>
    if m.hop = 0 then
      let sup := s.supCore (s.svcCluster r.skind r.place / 4)
      s.send m.src r.skind sup 0 0 (.service { m with dst := sup, hop := 1 })
    else (s.accepted m).applyError { bank := 65, uncorrectable := true, rcd := r } 2

/-- The entry that a service message names (Table 05.2). -/
def Core.svcEntry (c : Core) (kind : Nat) : Option (Fin 20) :=
  match c.entryOf (fun x => x.src == 5 && x.priv && x.srcno == kind) with
  | some k => some k
  | none => c.entryOf (fun x => x.src == 5 && x.priv && x.srcno == 0)

/-- A service message reaches a core: it enters the inbox, is retried after 1 µs, or goes on to the next receiver. -/
def execServiceMessageArrival (m : SvcMsg) (s : State) : Host.Outcome State Fault Refusal :=
  let c := s.core m.dst
  if c.life = .frozen ∨ c.life = .sealed then .next (s.fallback m)
  else
    match c.svcEntry m.kind with
    | none => .next (s.fallback m)
    | some k =>
      if c.life = .evicting ∨ c.inbox.length ≥ 4 ∨ c.hdl[k].pend ≥ 65535 then .next (s.after us (.serviceMessageResend m))
      else
        .next ((s.setCore m.dst ({ c with inbox := c.inbox ++ [m] }.mark k none s.now)).accepted m)

/-- The source sends a retried service message again, without limit. -/
def execServiceMessageResend (m : SvcMsg) (s : State) : Host.Outcome State Fault Refusal :=
  let k := match m.rcd with | some r => r.skind | none => 3
  .next (s.send m.src k m.dst 0 0 (.service m))

/-! ## Selection and dispatch (R146 to R150) -/

/-- A candidate of a selection: effective priority, whether it is a context, waiting time in µs, entry, and the context's
index and parking order. -/
structure Candidate where
  prio : Nat
  wait : Nat
  ent : Fin 20
  ctx : Option (Nat × Nat)
  deriving DecidableEq, Repr

/-- Whether a candidate goes before another (R148). -/
def Candidate.before (x y : Candidate) : Bool :=
  if x.prio ≠ y.prio then x.prio > y.prio
  else if x.ctx.isSome ≠ y.ctx.isSome then x.ctx.isSome
  else if x.wait ≠ y.wait then x.wait > y.wait
  else if x.ent ≠ y.ent then x.ent < y.ent
  else match x.ctx, y.ctx with
    | some (_, o), some (_, q) => o < q
    | _, _ => false

/-- The selectable entries and the resumable contexts. -/
def Core.candidates (c : Core) (now : Nat) : List Candidate :=
  ((List.finRange 20).filterMap (fun k =>
    let x := c.hdl[k]
    if x.valid && x.enable && x.pend > 0 then
      let w := entryWait x now
      some { prio := effective x.prio w c.ageUs, wait := w, ent := k, ctx := none }
    else none)) ++
  (c.ctxs.zipIdx.filterMap (fun (x, i) =>
    match x.ready with
    | none => none
    | some t =>
      let k := Fin.ofNat 20 x.act.ent
      let w := (now - t) / us
      some { prio := effective c.hdl[k].prio w c.ageUs, wait := w, ent := k, ctx := some (i, x.order) }))

/-- Whether an entry's next word is the task of the core's pair; while a core is one of a pair, nothing else uses it
(R448). -/
def Core.pairAllows (c : Core) (x : Candidate) : Bool :=
  match c.pair with
  | none => true
  | some p => x.ctx.isNone && (match (c.hdl[x.ent]).work with | .task _ r :: _ => r.rid == p.rid | _ => false)

/-- The selected candidate. -/
def Core.select (c : Core) (now : Nat) : Option Candidate :=
  ((c.candidates now).filter c.pairAllows).foldl (fun best x =>
    match best with
    | none => some x
    | some y => if x.before y then some x else some y) none

/-- Whether what a dispatch waits for has come about: the vector queue is empty, and no instruction of an ended
activation that writes a register or a queue is outstanding (R150). -/
def Core.quiet (c : Core) : Bool :=
  let gone (x : Cmd) : Bool := x.tag == 0 || c.ctxs.any (fun y => y.act.id == x.act)
  c.vq.isEmpty && c.lsq.all (fun x => gone x.cmd) && c.nq.all gone && c.cq.all gone && c.mq.all gone && c.kq.all gone &&
    c.schedOut.all (fun x => gone x.cmd)

/-- Whether the core may select (R148, R149): nothing holds it, and it is running. DESIGN CHOICE: a resumption waits, as a dispatch
does under R150, until the core is quiet; and the selection is made when that wait is over, from the candidates of that moment: none is
kept through the wait, of which the spec says nothing. -/
def Core.mayDispatch (c : Core) (now : Nat) : Bool :=
  c.life == .running && c.act.isNone && (c.select now).isSome && c.quiet

/-- The service message that an entry takes (R152). -/
def Core.takeMsg (c : Core) (srcno : Nat) : Option (SvcMsg × Core) :=
  match c.inbox.findIdx? (fun m => srcno == 0 || m.kind == srcno) with
  | none => none
  | some i => (c.inbox[i]?).map (fun m => (m, { c with inbox := c.inbox.eraseIdx i }))

/-- The Waiting slot with the earliest landing that names an entry (R412). -/
def Core.waitingSlot (c : Core) (ent : Nat) : Option (Fin 2) :=
  let ok (k : Fin 2) : Bool :=
    c.slots[k].st == .waiting && (match c.slots[k].hdr with | some h => capEntry h == ent | none => false)
  match ok 0, ok 1 with
  | true, true => if c.slots[1].landed < c.slots[0].landed then some 1 else some 0
  | true, false => some 0
  | false, true => some 1
  | false, false => none

def zeroTiles : Vector Tile 8 := Vector.replicate 8 (Vector.replicate 512 0)

/-- Packet class of a service kind. -/
def svcClass (kind : Nat) : Nat := if kind = 1 then 12 else if kind = 2 then 13 else 11

/-- A fresh activation of an entry, its registers set by what woke it (R150, Table 05.3). DESIGN CHOICE: an entry of `src` 5 that finds no
message of its kind, because another entry took it, starts with its message registers zero and no class in `act.src`. -/
def Core.freshAct (c : Core) (k : Fin 20) : Core :=
  let x := c.hdl[k]
  let str : StreamSt := { pc := x.pc, last := x.pc }
  let a : Act := { id := c.actNo, ent := k, priv := x.priv, asid := c.asid, a := str, e := str, src := x.src
                   rgn := BitVec.ofNat 64 (x.base + x.limit * 2 ^ 32) }
  let c := { c with actNo := c.actNo + 1, tiles := zeroTiles, tileBad := [] }
  let args (l : List Nat) : List Word := l.map (BitVec.ofNat 64)
  let load (c : Core) (a : Act) : Core := { c with act := some a }
  match x.src with
  | 0 => load c { a with info := x.srcno }
  | 1 =>
    match c.waitingSlot k with
    | none => load c a
    | some n =>
      match c.slots[n].hdr with
      | none => load c a
      | some h =>
        load (c.setSlot n { c.slots[n] with st := .taken, owner := some a.id })
          { a with wid := BitVec.ofNat 64 h.cid, info := h.cur + 256 * n.val, slot := some n.val }
  | 5 =>
    match c.takeMsg x.srcno with
    | none => load c a
    | some (m, c) =>
      load c { a with info := svcClass m.kind, svc := (List.range 8).map (fun i => BitVec.ofNat 64 (field m.bytes (8 * i) 8)) }
  | _ =>
    match x.work with
    | .wake _ arg ctl _ :: _ => load c { a with wid := BitVec.ofNat 64 arg, info := ctl }
    | .child w :: _ =>
      load c { a with wid := BitVec.ofNat 64 w.wid, wfw := BitVec.ofNat 64 w.widths, args := args w.args, child := some w }
    | .task _ r :: _ =>
      load c { a with wid := BitVec.ofNat 64 r.wid, wfw := BitVec.ofNat 64 r.widths, args := args r.args, rid := some r.rid }
    | _ => load c a

/-- The entry of a dispatch: its count falls by 1 and its wait starts again. -/
def Core.takeEntry (c : Core) (k : Fin 20) (now : Nat) : Core :=
  let x := c.hdl[k]
  let y := { x with pend := x.pend - 1, since := now, waited := 0, work := x.work.drop 1 }
  { c with hdl := c.hdl.set k y }

/-- A parked activation takes the core again (R166): its contexts are restored and freed. -/
def Core.resume (c : Core) (i : Nat) : Core :=
  match c.ctxs[i]? with
  | none => c
  | some x =>
    let tiles := (List.finRange 8).foldl (fun (t : Vector Tile 8) (k : Fin 8) =>
      match x.tiles.find? (fun y => y.1 == k.val) with
      | some (_, v) => t.set k v
      | none => t) zeroTiles
    { c with act := some x.act, ctxs := c.ctxs.eraseIdx i, tiles := tiles, tileBad := x.tileBad }

/-- A core that nothing holds selects a candidate and dispatches or resumes it (R148, R150, R166). An entry beyond the
code region freezes the core (R172, cause 4). DESIGN CHOICE: the record of cause 4, which names no word of either stream, has the
stream number of the access stream, 0. -/
def execDispatch (place : Nat) (s : State) : Host.Outcome State Fault Refusal :=
  let c := s.core place
  if !c.mayDispatch s.now then .next s
  else
    match c.select s.now with
    | none => .next s
    | some x =>
      match x.ctx with
      | some (i, _) => .next (s.setCore place (c.resume i))
      | none =>
        let pc := c.hdl[x.ent].pc
        let c := (c.freshAct x.ent).takeEntry x.ent s.now
        let s := s.setCore place c
        match c.act with
        | some a => if c.codeLim ≤ pc then .next (s.fetchFault place a .a 0 4 pc) else .next s
        | none => .next s

/-! ## Parking (R163 to R168) -/

/-- A stream that has not ended and is blocked, with the reason. -/
def Core.blocked (c : Core) (a : Act) (st : Stream) : Option Wait :=
  match (a.str st).wait with
  | some w => if !(a.str st).ended && c.waits a st w then some w else none
  | none => none

def Core.blockedOut (c : Core) (a : Act) (st : Stream) : Bool :=
  match c.blocked a st with
  | some w => c.external a st w
  | none => false

/-- Core cycles of the parking threshold (R3, R165). -/
def Core.parkCycles (c : Core) : Nat := ceilDiv (c.parkNs * 33) 10

/-- The tile contexts in use. -/
def Core.tileCtxs (c : Core) : Nat := (c.ctxs.filter (fun x => !x.tiles.isEmpty)).length

/-- Whether the three conditions of R165 hold for an activation; one of a pair does not park (R448). -/
def Core.parkable (c : Core) (a : Act) : Bool :=
  let still (st : Stream) : Bool := (a.str st).ended || (c.blocked a st).isSome
  c.life == .running && c.pair.isNone && still .a && still .e && (c.blockedOut a .a || c.blockedOut a .e) &&
    c.ctxs.length < 16 && (a.tmask.isEmpty || c.tileCtxs < 2)

/-- Whether the three conditions of R165 hold and have held for `park.ns`, and the vector queue has drained. -/
def Core.mayPark (c : Core) : Bool :=
  match c.act with
  | none => false
  | some a => c.parkable a && c.vq.isEmpty && c.parkCycles ≤ a.idle

/-- A cycle in which an activation holds its core (R165, R169). -/
def Core.heldCycle (c : Core) (a : Act) : Act := { a with cyc := a.cyc + 1, idle := if c.parkable a then a.idle + 1 else 0 }

def execPark (place : Nat) (s : State) : Host.Outcome State Fault Refusal :=
  let c := s.core place
  if !c.mayPark then .next s
  else
    match c.act with
    | none => .next s
    | some a =>
      let tiles := a.tmask.filterMap (fun k => if h : k < 8 then some (k, c.tiles[k]) else none)
      let x : Ctx := { act := { a with idle := 0 }, extA := c.blockedOut a .a, extE := c.blockedOut a .e, tiles := tiles
                       tileBad := c.tileBad.filter (fun u => a.tmask.contains (u / 32)), order := c.actNo }
      .next (s.setCore place { c with act := none, ctxs := c.ctxs ++ [x], actNo := c.actNo + 1 })

/-- Whether a parked activation's external waits have been satisfied (R166). -/
def Core.mayResume (c : Core) (x : Ctx) : Bool :=
  let done (ext : Bool) (st : Stream) : Bool :=
    !ext || (match (x.act.str st).wait with | some w => !c.waits x.act st w | none => true)
  x.ready.isNone && done x.extA .a && done x.extE .e

def execResumable (place k : Nat) (s : State) : Host.Outcome State Fault Refusal :=
  let c := s.core place
  match c.ctxs[k]? with
  | none => .next s
  | some x =>
    if c.mayResume x then .next (s.setCore place { c with ctxs := c.ctxs.set k { x with ready := some s.now } })
    else .next s

/-! ## Watchdog (R169, R193) -/

/-- The watchdog freezes the core; both streams stop as R194 gives. -/
def execWatchdogExpiry (place : Nat) (s : State) : Host.Outcome State Fault Refusal :=
  let c := s.core place
  match c.act with
  | none => .next s
  | some a =>
    if c.life ≠ .running ∨ a.cyc ≤ c.wdogLim then .next s
    else
      let t := s.stopStreams place [.a, .e]
      let b := (t.core place).act.getD a
      .next (t.freeze { handlerRecord c place a .a 0x04 [(36, 4, c.nextWord b .e), (48, 8, a.cyc)] with pc := c.nextWord b .a })

end Sys2Proof.Machine
end

