-- ==== Sys2Proof/Machine/Sched.lean ====
section
/-! DEFINITION. The task schedulers (13): records and their order, `spawn`, dispatch, code-image loads, stealing, restart; and
the instructions of major 0x3C. -/

namespace Sys2Proof.Machine

open Sys2Proof

/-! ## Records (R427 to R429) -/

/-- A scheduler's records changed. -/
def State.modRecs (s : State) (d : Nat) (f : List TaskRec → List TaskRec) : State :=
  let x := s.sched d
  s.setSched d { x with recs := f x.recs }

def State.modRec (s : State) (d rid : Nat) (f : TaskRec → TaskRec) : State :=
  s.modRecs d (fun l => l.map (fun r => if r.rid = rid then f r else r))

def State.recOf? (s : State) (d rid : Nat) : Option TaskRec := (s.sched d).recs.find? (fun r => r.rid == rid)

/-- The first number from `k` on, modulo 2^24, that is not in use. -/
def freeRid (used : List Nat) : Nat → Nat → Nat
  | 0, k => k % 2 ^ 24
  | n + 1, k => if used.contains (k % 2 ^ 24) then freeRid used n (k + 1) else k % 2 ^ 24

/-- Records that a die's queue memory holds. -/
def queueRoom : Nat := 4194304

/-- Where a die's queue memory begins: at the top 256 MiB of stack 2d (R428). -/
def queueBase (d : Nat) : Nat := 2 * d * 2 ^ 36 + 2 ^ 36 - 2 ^ 28

/-- The die whose queue memory holds a physical address. -/
def queueDie (pa : Nat) : Option Nat := (List.range 4).find? (fun d => queueBase d ≤ pa && pa < queueBase d + 2 ^ 28)

/-- The 64 bytes of a record in queue memory (Table 13.1). -/
def recordBytes (r : TaskRec) : List Byte :=
  layout 64 ([(0, 6, r.code), (6, 2, r.csize), (8, 1, r.prio % 8 * 32 + ofBool r.hard * 16 + ofBool r.paired * 8 + r.die % 4),
    (9, 5, r.widths), (14, 2, r.rst % 8 * 2 ^ 13 + r.asid % 2 ^ 13), (16, 8, r.wid), (24, 2, r.tag), (26, 1, r.rcnt % 4 * 64 + r.peer % 4),
    (27, 3, r.rid), (30, 2, r.gang)] ++ r.args.zipIdx.map (fun x => (32 + 8 * x.2, 8, x.1)))

/-- The record that 64 bytes of queue memory hold. When it became Ready, and on which core it runs, stand in no byte. -/
def recordFrom (slot now : Nat) (b : List Byte) : TaskRec :=
  { code := field b 0 6, csize := field b 6 2, prio := bits (field b 8 1) 7 5, hard := bit (field b 8 1) 4, paired := bit (field b 8 1) 3
    die := field b 8 1 % 4, widths := field b 9 5, wid := field b 16 8, args := (List.range 4).map (fun i => field b (32 + 8 * i) 8)
    gang := field b 30 2, asid := field b 14 2 % 2 ^ 13, rst := field b 14 2 / 2 ^ 13, tag := field b 24 2, rcnt := field b 26 1 / 64
    peer := field b 26 1 % 4, rid := field b 27 3, ready := now, slot := slot }

/-- Records in the order of their slots. -/
def bySlot (l : List TaskRec) : List TaskRec :=
  l.foldr (fun r l => l.takeWhile (fun y => y.slot < r.slot) ++ r :: l.dropWhile (fun y => y.slot < r.slot)) []

/-- What a die's queue memory holds: each record in its slot. -/
def State.queueCells (s : State) (d : Nat) : Mem :=
  (bySlot (s.sched d).recs).flatMap (fun r => Mem.cells (queueBase d + 64 * r.slot) (recordBytes r))

/-- The records that bytes of a die's queue memory hold: a slot of zeros holds none. -/
def recordsIn (d now : Nat) (m : Mem) : List TaskRec :=
  let mine : Mem := m.filter (fun x => queueDie x.1 == some d)
  ((mine.map (fun x => (x.1 - queueBase d) / 64)).eraseDups).map (fun k => recordFrom k now (mine.readN (queueBase d + 64 * k) 64))

/-- The ids of the members of the pending gangs, which have theirs from the gang's creation (R478). -/
def State.gangRids (s : State) : List Nat := s.gangs.flatMap (fun g => g.members.map (·.rid))

/-- A record with its id enters a scheduler in a state. DESIGN CHOICE: it takes the lowest free slot of queue memory. -/
def State.putRec (s : State) (d : Nat) (r : TaskRec) : State :=
  let x := s.sched d
  let k := ((List.range (x.recs.length + 1)).find? (fun k => !x.recs.any (fun y => y.slot == k))).getD 0
  s.setSched d { x with recs := x.recs ++ [{ r with ready := s.now, slot := k }] }

/-- A record enters a scheduler in a state, under an id that no other record and no member of a gang has. -/
def State.addRec (s : State) (d : Nat) (r : TaskRec) : State × Nat :=
  let x := s.sched d
  let used := x.recs.map (·.rid) ++ s.gangRids
  let n := freeRid used (used.length + 1) (x.rid + 1)
  ((s.setSched d { x with rid := n }).putRec d { r with rid := n }, n)

/-- How many members a die's queue memory keeps room for (R428): those of pending gangs that are bound to the die, and those for which a
core of the die is reserved or asked for. -/
def State.pendingOn (s : State) (d : Nat) : Nat :=
  (s.gangs.map (fun g =>
    match g.members.head? with
    | none => 0
    | some r =>
      if r.hard then (if r.die = d then g.members.length else 0)
      else ((g.resv ++ g.asked.toList).filter (fun p => dieOf p == d)).length)).sum

/-- Records for which a die's queue memory has room (R428). -/
def State.roomOn (s : State) (d : Nat) : Nat := queueRoom - ((s.sched d).recs.length + s.pendingOn d)

/-- The settings of an ASID. -/
def Sched.settings (x : Sched) (asid : Nat) : SchedCfg := mget x.cfg asid {}

/-- Ready records of an ASID. -/
def Sched.readyCount (x : Sched) (asid : Nat) : Nat := (x.recs.filter (fun r => r.asid = asid ∧ r.rst = 0)).length

/-! ## Throttling (R436) -/

/-- Whether an ASID's records go first: a spawn has been refused, and the count is above the low watermark. -/
def Sched.throttled (x : Sched) (asid : Nat) : Bool :=
  x.marks.any (fun m => m.1 == asid) && (x.settings asid).low < x.readyCount asid

/-- Sets `enable` of an entry. -/
def Core.setEnable (c : Core) (k : Nat) (b : Bool) : Core :=
  match Nat.decLt k 20 with
  | .isTrue h => { c with hdl := c.hdl.set k { c.hdl[k] with enable := b } }
  | .isFalse _ => c

/-- When the count has fallen below the low watermark, every marked entry is enabled and the marks go. A mark of entry 31
stands for one that nothing enables. -/
def State.settleMarks (s : State) (d asid : Nat) : State :=
  let x := s.sched d
  if (x.settings asid).low ≤ x.readyCount asid then s
  else
    let mine := x.marks.filter (fun m => m.1 == asid)
    let s := s.setSched d { x with marks := x.marks.filter (fun m => m.1 != asid) }
    mine.foldl (fun s m => s.modCore m.2.1 (fun c => c.setEnable m.2.2 true)) s

/-- A spawn (R427, R436, Table 13.8): its code and the record's id. `mark` is the spawning core and entry. -/
def State.enqueue (s : State) (d : Nat) (r : TaskRec) (mark : Option (Nat × Nat)) : State × Nat × Nat :=
  let x := s.sched d
  if s.roomOn d = 0 then (s, 5, 0)
  else if (x.settings r.asid).high < x.readyCount r.asid + 1 then
    match mark with
    | some (p, e) =>
      let t := s.setSched d { x with marks := ((r.asid, p, e) :: x.marks).eraseDups }
      (t.modCore p (fun c => c.setEnable e false), 2, 0)
    | none => (s.setSched d { x with marks := ((r.asid, 0, 31) :: x.marks).eraseDups }, 2, 0)
  else
    let (t, n) := s.addRec d r
    (t, 0, n)

/-! ## Eligible cores and dispatch order (R430, R432) -/

/-- The listed cores of a die, lowest place first. Cores that are not listed are vacant. -/
def State.diePlaces (s : State) (d : Nat) : List Nat :=
  (s.cores.map (·.1)).filter (fun p => s.isCore p && dieOf p == d)

/-- Whether a core is reserved for a gang (R441). -/
def State.reserved (s : State) (p : Nat) : Bool := (s.sched (dieOf p)).resv.contains p

/-- A free core: no activation, no context, no selectable entry. -/
def Core.idle (c : Core) : Bool :=
  c.life == .running && c.act.isNone && c.ctxs.isEmpty &&
    c.hdl.toList.all (fun x => !(x.valid && x.enable && x.pend > 0))

/-- A free core to which nothing has been offered, that is neither reserved nor one of a pair nor of a cluster being reset
(R495), and into which no image is being loaded. -/
def State.freeCore (s : State) (p : Nat) : Bool :=
  let c := s.core p
  let x := s.sched (dieOf p)
  c.idle && c.pair.isNone && !s.reserved p && !s.resetting.contains (clusOf p) && !x.recs.any (fun r => r.rst == 1 && r.core == p) &&
    !x.loads.any (fun l => l.place == p)

/-- The entry that a dispatch names. -/
def Core.taskEntry (c : Core) : Option (Fin 20) := c.entryOf (fun x => x.src == 4)

/-- Whether a core is eligible for a record, free or not (R430, R451). -/
def State.fits (s : State) (r : TaskRec) (p : Nat) : Bool :=
  let c := s.core p
  c.asid == r.asid && c.codeTag == r.code && c.taskEntry.isSome && !s.reserved p && c.pair.isNone && !r.avoid.contains p

/-- A free eligible core for a record. -/
def State.eligible (s : State) (r : TaskRec) (p : Nat) : Bool := s.freeCore p && s.fits r p

/-- The distance of two cores in their mesh. -/
def meshDistance (p q : Nat) : Nat :=
  (max (rowOf p) (rowOf q) - min (rowOf p) (rowOf q)) + (max (colOf p) (colOf q) - min (colOf p) (colOf q))

/-- Nothing that a core's engines were given is still to be performed. -/
def Core.settled (c : Core) : Bool :=
  c.lsq.isEmpty && c.nq.isEmpty && c.cq.isEmpty && c.xfers.isEmpty && c.filling.isEmpty && c.vq.isEmpty && c.mq.isEmpty &&
    c.kq.isEmpty && c.egress.isEmpty && c.schedOut.isEmpty && c.doneOut.isEmpty && c.recs.isEmpty

/-- The element that comes first under an order. -/
def firstBy {α : Type} (before : α → α → Bool) : List α → Option α
  | [] => none
  | x :: r =>
    match firstBy before r with
    | none => some x
    | some y => if before y x then some y else some x

/-- The shadow for a primary: the nearest eligible core at a distance of at least 2, then the lower number (R448). -/
def State.shadowFor (s : State) (r : TaskRec) (p : Nat) : Option Nat :=
  let l := (s.diePlaces (dieOf p)).filter (fun q => clusOf q == clusOf p && 2 ≤ meshDistance p q && s.eligible r q)
  firstBy (fun a b => meshDistance p a < meshDistance p b || (meshDistance p a == meshDistance p b && a < b)) l

/-- The two cores of a paired record: the first eligible core that has a shadow, and its shadow (R448). -/
def State.pairFor (s : State) (d : Nat) (r : TaskRec) : Option (Nat × Nat) :=
  (s.diePlaces d).findSome? (fun p => if s.eligible r p then (s.shadowFor r p).map (fun q => (p, q)) else none)

/-- Where a record would be offered: a core, and its shadow for a paired record. DESIGN CHOICE: a paired record waits until both its
cores' engines have performed what they were given, so that both start from the same state (R450). -/
def State.placeFor (s : State) (d : Nat) (r : TaskRec) : Option (Nat × Option Nat) :=
  if r.paired then
    match s.pairFor d r with
    | some (p, q) => if (s.core p).settled && (s.core q).settled then some (p, some q) else none
    | none => none
  else ((s.diePlaces d).find? (s.eligible r)).map (fun p => (p, none))

/-- Whether a Ready record goes before another (R432, R436). -/
def Sched.before (x : Sched) (now : Nat) (a b : TaskRec) : Bool :=
  let eff (r : TaskRec) : Nat := effective r.prio ((now - r.ready) / us) (x.settings r.asid).qage
  let ta := x.throttled a.asid
  let tb := x.throttled b.asid
  if ta != tb then ta
  else if eff a ≠ eff b then eff b < eff a
  else if a.ready ≠ b.ready then a.ready < b.ready
  else a.rid < b.rid

/-- The first Ready record in dispatch order that has a property. -/
def State.firstReady (s : State) (d : Nat) (f : TaskRec → Bool) : Option TaskRec :=
  let x := s.sched d
  firstBy (x.before s.now) (x.recs.filter (fun r => r.rst == 0 && f r))

/-! ## Pairs at their dispatch (R448, R450) -/

/-- The two cores become a pair. Their command numbers are made equal, so that they act from one state. -/
def State.makePair (s : State) (d rid p q : Nat) : State :=
  let c := s.core p
  let x := s.core q
  let s := s.setCore p { c with pair := some { primary := true, other := q, rid := rid, die := d } }
  s.setCore q { x with pair := some { primary := false, other := p, rid := rid, die := d }, actNo := c.actNo, lsSeq := c.lsSeq
                       nSeq := c.nSeq, cSeq := c.cSeq, ctxNo := c.ctxNo, vSeq := c.vSeq, mSeq := c.mSeq, kSeq := c.kSeq
                       scSeq := c.scSeq, landNo := c.landNo }

/-- The cores of a record's pair. -/
def State.pairOf (s : State) (d rid : Nat) : List Nat :=
  (s.cores.filter (fun x => match x.2.pair with | some y => y.rid == rid && y.die == d | none => false)).map (·.1)

/-- A timer of the comparison of a core's packets, or of its freeze. -/
def pairTimer (p : Nat) : Event → Bool
  | .pairedHashTimeout q .. => q == p
  | .pairedFreezeTimeout q => q == p
  | _ => false

/-- A core is no longer one of a pair; what timed it is gone. -/
def State.unpair (s : State) (p : Nat) : State :=
  ({ s with timers := s.timers.filter (fun t => !pairTimer p t.2) }).modCore p (fun c => { c with pair := none })

def State.endPair (s : State) (d rid : Nat) : State := (s.pairOf d rid).foldl (fun s p => s.unpair p) s

/-! ## Dispatch (R431 to R433) -/

/-- A record is offered to a core: the dispatch word leaves. -/
def State.offer (s : State) (d : Nat) (r : TaskRec) (p : Nat) (q : Option Nat) : State :=
  let s := s.modRec d r.rid (fun y => { y with rst := 1, core := p })
  let s := match q with
    | some q => s.makePair d r.rid p q
    | none => s
  let s := s.settleMarks d r.asid
  let ent := match (s.core p).taskEntry with | some k => k.val | none => 31
  s.send (s.schedName d) 3 p 0 r.asid (.dispatch p ent { r with rst := 1, core := p })

/-- A scheduler offers the first record in dispatch order that has a free eligible core. -/
def execDispatchOffer (die : Nat) (s : State) : Host.Outcome State Fault Refusal :=
  if (s.sched die).down then .next s
  else
    match s.firstReady die (fun r => (s.placeFor die r).isSome) with
    | none => .next s
    | some r =>
      match s.placeFor die r with
      | none => .next s
      | some (p, q) => .next (s.offer die r p q)

/-- A dispatch word reaches its core, which accepts it and keeps the record's id, or does not. A shadow answers nothing
(R450). -/
def execDispatchArrival (place ent : Nat) (rcd : TaskRec) (s : State) : Host.Outcome State Fault Refusal :=
  let c := s.core place
  let w : MarkWord := .task ent rcd
  let ok := c.life = .running ∧ c.asid = rcd.asid ∧ c.tasks.length < 16 ∧ c.markAns w = .marked
  let s := if ok then s.setCore place { c.tryMark w s.now with tasks := c.tasks ++ [rcd.rid] } else s
  .next (s.send place 0 (s.schedName (dieOf place)) 3 rcd.asid (.dispatchAns (dieOf place) rcd.rid (decide ok)))

/-- A record returns to Ready. -/
def State.backToReady (s : State) (d rid : Nat) : State :=
  (s.modRec d rid (fun r => { r with rst := 0, tag := 0, peer := 0, core := 0, ready := s.now })).endPair d rid

/-- The core's answer to a dispatch. -/
def execDispatchAnswerArrival (die rid : Nat) (ok : Bool) (s : State) : Host.Outcome State Fault Refusal :=
  match s.recOf? die rid with
  | none => .next s
  | some r =>
    if r.rst ≠ 1 then .next s
    else if ok then .next (s.modRec die rid (fun r => { r with rst := 2 }))
    else .next (s.backToReady die rid)

/-- The activation of a task has ended: its record is deleted. A pair lasts until both cores have performed what they were
given. -/
def execTaskFinishedArrival (die rid : Nat) (s : State) : Host.Outcome State Fault Refusal :=
  let s := match s.recOf? die rid with
    | some r => if r.rst = 1 ∨ r.rst = 2 then s.dropRecord die rid else s
    | none => s
  let finished (p : Nat) : Bool :=
    let c := s.core p
    c.act.isNone && c.settled && (match c.pair with | some x => x.mine.isEmpty && x.theirs.isEmpty | none => true)
  let l := s.pairOf die rid
  if l.isEmpty then .next s
  else if l.all finished then .next (s.endPair die rid)
  else .next (s.after fabricCycle (.taskFinishedArrival die rid))

/-! ### Code images (R431) -/

/-- A core into which an image may be loaded for an ASID. -/
def State.loadable (s : State) (asid p : Nat) : Bool :=
  let c := s.core p
  s.freeCore p && c.asid == asid && c.hdl.toList.all (fun x => x.pend == 0) && (c.hdl.toList.take 19).all (fun x => !x.valid)

/-- Bytes of an image, line by line, written into a core's code store up to the first error. -/
def State.loadCode (s : State) (p asid va n : Nat) : State × Option (Nat × Nat) :=
  (lineSpans va n).foldl (fun x l =>
    match x with
    | (s, some e) => (s, some e)
    | (s, none) =>
      match s.fetchLine asid l.1 l.2 with
      | (s, .ok b) => (s.modCore p (fun c => c.put .code (l.1 - va) b), none)
      | (s, .error e) => (s, some e)) (s, none)

/-- The image of the record at the head of dispatch order, for which no free eligible core exists, is loaded into the
loadable core with the lowest place. -/
def execCodeImageLoad (die place rid : Nat) (s : State) : Host.Outcome State Fault Refusal :=
  let x := s.sched die
  match s.firstReady die (fun _ => true) with
  | none => .next s
  | some r =>
    if x.down ∨ r.rid ≠ rid ∨ (s.diePlaces die).any (s.eligible r) = true ∨
        (s.diePlaces die).find? (s.loadable r.asid) ≠ some place then .next s
    else
      let s := s.setSched die { x with loads := x.loads ++ [{ place := place, rid := rid }] }
      let (s, e) := (s.modCore place (fun c => { c with codeTag := 0 })).loadCode place r.asid (64 * r.code) r.csize
      let (cls, cause) := e.getD (0, 0)
      .next (s.post (.codeImageLoadDone die place rid cls cause))

/-- The load has ended: the core holds the image and `h19` is committed, or a scheduler fault is sent. -/
def execCodeImageLoadDone (die place rid cls cause : Nat) (s : State) : Host.Outcome State Fault Refusal :=
  let x := s.sched die
  if !x.loads.any (fun l => l.place == place && l.rid == rid) then .next s
  else
    let s := s.setSched die { x with loads := x.loads.filter (fun l => !(l.place == place && l.rid == rid)) }
    if cls ≠ 0 ∨ cause ≠ 0 then .next (s.schedFault die 4 (s.recOf? die rid) cls cause)
    else
      match s.recOf? die rid with
      | none => .next s
      | some r =>
        let c := s.core place
        if c.life ≠ .running ∨ c.asid ≠ r.asid then .next s
        else
          let h : Entry := { valid := true, enable := true, src := 4 }
          .next (s.setCore place { c with codeLim := r.csize, codeTag := r.code, hdl := c.hdl.set 19 h })

/-! ## Launch hand-off (R327, R478) -/

/-- A record from a region's action is enqueued as a spawn, and the region has its answer; so is one that the directory hands over for a
LAUNCH, which sets no throttle mark. -/
def execTaskLaunchHandoff (die : Nat) (rcd : TaskRec) (src : LaunchFrom) (s : State) : Host.Outcome State Fault Refusal :=
  match src with
  | .region k idx =>
    let (s, code, _) := s.enqueue die rcd none
    .next (s.send (s.schedName die) 3 k 1 rcd.asid (.actionAns (k % 8) idx (if code = 0 then .accepted else .refused)))
  | .host f =>
    let x := s.sched die
    let (s, code, rid) :=
      if s.roomOn die ≠ 0 ∧ (x.settings rcd.asid).high < x.readyCount rcd.asid + 1 then (s, 2, 0) else s.enqueue die rcd none
    .next (s.send (s.schedName die) 3 s.dirName 3 rcd.asid (.launched f code rid))

/-! ## Stealing (R437 to R439) -/

def State.toSched (s : State) (d e : Nat) (m : StealMsg) : State :=
  s.send (s.schedName d) 3 (s.schedName e) 3 0 (.steal e d m)

/-- Whether a Ready record could be dispatched to a core: the core is eligible for it, and where it is paired two cores are there for it. -/
def State.dispatchable (s : State) (d : Nat) (r : TaskRec) (p : Nat) : Bool :=
  s.fits r p && (!r.paired || (s.pairFor d r).isSome)

/-- Up to four pairs of ASID and code tag, of the free cores for which the scheduler holds no record that could be dispatched (R430, R437);
a core of a cluster that is being reset is not free. -/
def State.stealPairs (s : State) (d : Nat) : List (Nat × Nat) :=
  let ready := (s.sched d).recs.filter (fun r => r.rst == 0)
  (((s.diePlaces d).filter (fun p =>
    (s.core p).idle && !s.resetting.contains (clusOf p) && !ready.any (fun r => s.dispatchable d r p))).map (fun p =>
      ((s.core p).asid, (s.core p).codeTag))).eraseDups.take 4

/-- Every 2 µs, an idle scheduler asks its neighbours on the ring. -/
def execStealRequest (die : Nat) (s : State) : Host.Outcome State Fault Refusal :=
  let t := s.after (2 * us) (.stealRequest die)
  let l := s.stealPairs die
  if (s.sched die).down ∨ l.isEmpty = true then .next t
  else .next ((t.toSched die ((die + 1) % 4) (.request l)).toSched die ((die + 3) % 4) (.request l))

/-- The victim lends the first record that matches, or answers "none". -/
def execStealRequestArrival (die src : Nat) (pairs : List (Nat × Nat)) (s : State) : Host.Outcome State Fault Refusal :=
  match s.firstReady die (fun r => !r.hard && !r.paired && r.gang == 0 && pairs.contains (r.asid, r.code)) with
  | none => .next (s.toSched die src .none)
  | some r =>
    let x := s.sched die
    let tag := (x.tag + 1) % 65536
    let s := s.setSched die { x with tag := tag }
    let s := (s.modRec die r.rid (fun y => { y with rst := 3, tag := tag, peer := src })).settleMarks die r.asid
    .next ((s.after (65536 * fabricCycle) (.lendTimerExpiry die tag)).toSched die src (.record { r with tag := tag }))

/-- The thief writes the record as Held and acknowledges it. One of a tenant that has been torn down is discarded, and so
is one for which there is no room. -/
def execStolenRecordArrival (die src : Nat) (rcd : TaskRec) (s : State) : Host.Outcome State Fault Refusal :=
  if s.tornDown rcd.asid ∨ s.roomOn die = 0 then .next s
  else
    let (s, _) := s.addRec die { rcd with rst := 4, peer := src, core := 0 }
    .next (s.toSched die src (.ack rcd.tag))

/-- The record of a scheduler in a state, under a tag that it shares with another die. -/
def State.tagged (s : State) (d rst peer tag : Nat) : Option TaskRec :=
  (s.sched d).recs.find? (fun r => r.rst == rst && r.peer == peer && r.tag == tag)

/-- A Lent record is confirmed; a Gone one is confirmed again; for any other tag the copy is revoked (Table 13.3). -/
def State.confirmLent (s : State) (d src tag : Nat) : State :=
  match s.tagged d 3 src tag with
  | some r => (s.modRec d r.rid (fun y => { y with rst := 5 })).toSched d src (.confirm tag)
  | none => if (s.tagged d 5 src tag).isSome then s.toSched d src (.confirm tag) else s.toSched d src (.revoke tag)

def execStealAckArrival (die src tag : Nat) (s : State) : Host.Outcome State Fault Refusal := .next (s.confirmLent die src tag)

def execHeldQueryArrival (die src tag : Nat) (s : State) : Host.Outcome State Fault Refusal := .next (s.confirmLent die src tag)

def execLendTimerExpiry (die tag : Nat) (s : State) : Host.Outcome State Fault Refusal :=
  match (s.sched die).recs.find? (fun r => r.rst == 3 && r.tag == tag) with
  | none => .next s
  | some r => .next (s.backToReady die r.rid)

/-- The thief's copy becomes its record. A repeated confirmation is answered again. -/
def execConfirmationArrival (die src tag : Nat) (s : State) : Host.Outcome State Fault Refusal :=
  let s := match s.tagged die 4 src tag with
    | some r => s.backToReady die r.rid
    | none => s
  .next (s.toSched die src (.taken tag))

def execRevocationArrival (die src tag : Nat) (s : State) : Host.Outcome State Fault Refusal :=
  match s.tagged die 4 src tag with
  | some r => .next (s.dropRecord die r.rid)
  | none => .next s

def execTakenArrival (die src tag : Nat) (s : State) : Host.Outcome State Fault Refusal :=
  match s.tagged die 5 src tag with
  | some r => .next (s.dropRecord die r.rid)
  | none => .next s

def execLentQueryArrival (die src tag : Nat) (s : State) : Host.Outcome State Fault Refusal :=
  .next (s.toSched die src (if (s.tagged die 4 src tag).isSome then .held tag else .unknown tag))

def execHeldAnswerArrival (die src tag : Nat) (s : State) : Host.Outcome State Fault Refusal :=
  match s.tagged die 3 src tag with
  | some r => .next ((s.modRec die r.rid (fun y => { y with rst := 5 })).toSched die src (.confirm tag))
  | none => .next s

def execUnknownAnswerArrival (die src tag : Nat) (s : State) : Host.Outcome State Fault Refusal :=
  match s.tagged die 3 src tag with
  | some r => .next (s.backToReady die r.rid)
  | none => .next s

/-! ## Reset and restart (R435) -/

/-- A scheduler goes down; its lending timers go with it, and its queue memory stays. It is back within 200 µs, at a moment
that is a free value. -/
def execSchedulerResetOrPowerGating (die : Nat) (s : State) : Host.Outcome State Fault Refusal :=
  let (n, s) := s.takeFresh
  let mine (e : Event) : Bool :=
    match e with
    | .lendTimerExpiry d _ => d == die
    | .schedulerRestart d => d == die
    | _ => false
  let s := { s with timers := s.timers.filter (fun t => !mine t.2)
                    serials := mset s.serials (3 * 2 ^ 20 + s.schedName die) 0 }
  .next ((s.setSched die { s.sched die with down := true }).after (1 + Config.choice n % (200 * us)) (.schedulerRestart die))

/-- A scheduler returns and asks about every record that is not Ready. -/
def execSchedulerRestart (die : Nat) (s : State) : Host.Outcome State Fault Refusal :=
  let x := s.sched die
  .next (x.recs.foldl (fun (s : State) r =>
    match r.rst with
    | 1 | 2 => s.send (s.schedName die) 3 r.core 0 r.asid (.tableQuery r.core die r.rid)
    | 3 => s.toSched die r.peer (.lentQuery r.tag)
    | 4 => s.toSched die r.peer (.heldQuery r.tag)
    | 5 => s.toSched die r.peer (.confirm r.tag)
    | _ => s) (s.setSched die { x with down := false }))

/-- A core answers whether a record's id is in its task table. -/
def execTaskTableQuery (place die rid : Nat) (s : State) : Host.Outcome State Fault Refusal :=
  .next (s.send place 0 (s.schedName die) 3 (s.core place).asid (.tableAns die rid ((s.core place).tasks.contains rid)))

/-- The answer: the record is Running; or an Offered one is Ready again and a Running one has finished. -/
def State.tableAnswer (s : State) (d rid : Nat) (has : Bool) : State :=
  match s.recOf? d rid with
  | none => s
  | some r =>
    if r.rst ≠ 1 ∧ r.rst ≠ 2 then s
    else if has then s.modRec d rid (fun y => { y with rst := 2 })
    else if r.rst = 1 then s.backToReady d rid
    else (s.dropRecord d rid).endPair d rid

/-! ## Instructions (R462, R463, R466) -/

/-- A span of SP that an instruction names is checked at issue (R15, R463); then the instruction waits in the core. -/
def schedEnter (s : State) (op : Instr) (srcs : List Reg) (d : Reg) (n : Nat) (ext : Bool) : Host.Outcome State Fault Refusal :=
  issue s { st := .a, srcs := srcs, dst := .later d ext } (fun i =>
    let a := (v1 i.vals).toNat
    let seq := i.core.scSeq + 1
    if n ≠ 0 ∧ lsSize .sp < a + n then s.rangeFault s.who i.old .a 8 seq 1 a
    else s.withAct { i.core with scSeq := seq, schedOut := i.core.schedOut ++ [{ cmd := i.cmd op seq true }] } i.act)

def execSpawn (d a : Reg) (s : State) : Host.Outcome State Fault Refusal := schedEnter s (.spawn d a) [a] d 64 false

def execGang (d a b : Reg) (s : State) : Host.Outcome State Fault Refusal := schedEnter s (.gang d a b) [a, b] d 64 false

def execFork (d a b : Reg) (s : State) : Host.Outcome State Fault Refusal := schedEnter s (.fork d a b) [a, b] d 64 false

def execJoin (d a : Reg) (s : State) : Host.Outcome State Fault Refusal := schedEnter s (.join d a) [a] d 0 true

/-- An instruction that acts at issue on an entry of its core. -/
def onEntry (s : State) (h : Fin 20) (srcs : List Reg) (f : Issued → Entry → Entry) : Host.Outcome State Fault Refusal :=
  issue s { st := .a, srcs := srcs } (fun i =>
    let x := i.core.hdl[h]
    if x.priv = true ∧ i.old.priv = false then s.illegal s.who i.old .a (i.core.wordAt i.pc) 7
    else if !x.valid then s.withAct i.core i.act
    else s.withAct { i.core with hdl := i.core.hdl.set h (f i x) } i.act)

def execHpri (a : Reg) (h : Fin 20) (s : State) : Host.Outcome State Fault Refusal :=
  onEntry s h [a] (fun i x => { x with prio := (v1 i.vals).toNat % 8 })

/-- `hmsk` blocks the unmasking of R436: the entry's marks no longer name it. -/
def State.blockMarks (s : State) (p h : Nat) : State :=
  (List.range 4).foldl (fun s d =>
    let x := s.sched d
    if x.marks.any (fun m => m.2 == (p, h)) then
      s.setSched d { x with marks := (x.marks.map (fun m => if m.2 = (p, h) then (m.1, p, 31) else m)).eraseDups }
    else s) s

/-- The entry is masked. -/
def execHmsk (h : Fin 20) (s : State) : Host.Outcome State Fault Refusal :=
  let masks : Bool := (s.core s.who).hdl[h].valid
  match onEntry s h [] (fun _ x => { x with enable := false }) with
  | .next t =>
    if masks = true ∧ ((t.core s.who).act.map (·.tag)) ≠ ((s.core s.who).act.map (·.tag)) then .next (t.blockMarks s.who h)
    else .next t
  | o => o

def execHumsk (h : Fin 20) (s : State) : Host.Outcome State Fault Refusal :=
  onEntry s h [] (fun _ x => { x with enable := true })

/-- A result of the scheduler, fork unit or target reaches the core (R462). -/
def State.schedAnswered (s : State) (p act tag val : Nat) : State :=
  (s.modCore p (fun c =>
    { c with schedOut := c.schedOut.filter (fun x => !(x.cmd.act == act && x.cmd.tag == tag)) })).deliver p act tag
      (BitVec.ofNat 64 val)

/-! ## Leaving the core (R463, R465, R468) -/

/-- A descriptor of `evict` and `rstr` (R468). -/
structure Descriptor where
  target : Nat
  asid : Nat
  csize : Nat
  area : Nat
  code : Nat

def descriptorOf (b : List Byte) : Descriptor :=
  { target := field b 0 3 % 2 ^ 20, asid := field b 4 2 % 2 ^ 13, csize := field b 6 2, area := field b 8 8, code := field b 16 8 }

/-- A descriptor is malformed for an `evict` or an `rstr` of a core: its target is no core of the issuing die, its area or the code VA of a
fresh admission is not aligned, or the size of that code is one that R138 forbids. What the bytes that are to be zero hold is ignored
(R2). -/
def State.badDescriptor (s : State) (p : Nat) (evict : Bool) (b : List Byte) : Bool :=
  let d := descriptorOf b
  !s.isCore d.target || dieOf d.target != dieOf p || d.area % 65536 != 0 ||
    (!evict && d.area == 0 && d.code != 0 && (d.code % 64 != 0 || d.csize == 0 || d.csize % 4 != 0 || decide (32768 < d.csize)))

/-- The fork word is well formed (Table 13.8). -/
def forkWordOk (w : Nat) : Bool :=
  bits w 4 0 ≤ 19 && bits w 12 8 ≤ 19 && bits w 7 5 == 0 && bits w 15 13 == 0 && bits w 63 18 == 0

/-- Why a header is not sent on: the code of Table 13.8. -/
def headerCode (op : Instr) (h : Launch) (w : Nat) : Nat :=
  if launchMalformed h then 1
  else
    match op with
    | .spawn .. => if fitSpawn h then 0 else 4
    | .gang .. => if h.gang = 0 ∨ h.chunk ≠ 1 ∨ h.paired = true then 4 else 0
    | _ => if h.gang ≠ 0 ∨ h.paired = true ∨ forkWordOk w = false then 4 else 0

/-- One step of a core's scheduler instructions: the first that has not left leaves, once its release allows it. A report that a task has
finished, a `seal` and a `thaw`, which are not answered, are gone once they have left. -/
def State.drainSched (s : State) (p : Nat) : State :=
  let c := s.core p
  if c.recs.any (fun e => e.1 == 8) then s
  else
    match c.schedOut.find? (fun x => !x.sent) with
    | none => s
    | some y =>
      let x := y.cmd
      let a := (v1 x.vals).toNat
      let w := (v2 x.vals).toNat
      let go (s : State) (dst : Nat) (r : SchedReq) : State :=
        (s.modCore p (fun c => { c with schedOut := c.schedOut.map (fun z => if z = y then { z with sent := true } else z) })).send
          p 0 dst 3 c.asid (.sched p x.act x.tag x.seq x.ent r)
      let give (v : Nat) : State := s.schedAnswered p x.act x.tag (v * 2 ^ 60)
      let bad : State := (s.coreError p 8 a x.finder).consume p 8 x.ent x.wid.toNat x.seq x.pc 0 a 1 a x.priv
      let mine := s.schedName (dieOf p)
      let header (sc : Scope) (k : Launch → State) : State :=
        if !(c.released x.act x.mark sc && c.spDone x.act x.mark) then s
        else if a % 64 ≠ 0 then give 1
        else if c.isBad .sp a 64 then bad
        else
          let h := launchOf (c.sp.readN a 64)
          let n := headerCode x.op h w
          if n ≠ 0 then give n else k h
      let descr (evict : Bool) (k : Descriptor → SchedReq) : State :=
        if !c.spDone x.act x.mark then s
        else if a % 32 ≠ 0 then give 1
        else if c.isBad .sp a 32 then bad
        else
          let b := c.sp.readN a 32
          if s.badDescriptor p evict b then give 1 else go s mine (k (descriptorOf b))
      let leave (dst : Nat) (m : Msg) : State :=
        (s.modCore p (fun c => { c with schedOut := c.schedOut.erase y })).send p 0 dst 3 x.asid m
      match y.fin with
      | some rid => leave mine (.finished (dieOf p) rid)
      | none =>
      match x.op with
      | .sealCore _ => leave mine (.sched p x.act 0 x.seq x.ent (.sealReq (a % 2 ^ 20)))
      | .thaw _ => leave mine (.sched p x.act 0 x.seq x.ent (.thaw (a % 2 ^ 20)))
      | .spawn .. => header .pkg (fun h => go s (s.schedName h.die) (.spawn h))
      | .gang .. => header .pkg (fun h => go s s.dirName (.gang h (if w % 65536 = 0 then 200 else w % 65536)))
      | .fork .. => header .clus (fun h => go s mine (.fork h w))
      | .join .. => go s mine (.join (a % 2 ^ 32))
      | .evict .. => descr true (fun d => .evict d.target d.area)
      | .rstr .. => descr false (fun d => .rstr d.target d.asid d.csize d.area d.code)
      | _ => s

end Sys2Proof.Machine
end

