-- ==== Sys2Proof/Machine/Gang.lean ====
section
/-! DEFINITION. Gangs at the package task directory, and the fork units with their join cells (13). -/

namespace Sys2Proof.Machine

open Sys2Proof

/-! ## Gangs (R440 to R442) -/

/-- The number of cores that an ASID holds in the package. -/
def State.coresOf (s : State) (asid : Nat) : Nat :=
  (s.cores.filter (fun x => x.2.life != .vacant && x.2.asid == asid)).length

/-- `n` ids from `k` on that are not in use. -/
def freeRids (used : List Nat) : Nat → Nat → List Nat
  | 0, _ => []
  | n + 1, k =>
    let r := freeRid used (used.length + 1) k
    r :: freeRids (r :: used) n (r + 1)

/-- The ids in use by any scheduler or gang. -/
def State.usedRids (s : State) : List Nat := (List.range 4).flatMap (fun d => (s.sched d).recs.map (·.rid)) ++ s.gangRids

/-- Members of pending gangs that may go to any die and have no core yet. -/
def State.unplaced (s : State) : Nat :=
  (s.gangs.map (fun g =>
    match g.members.head? with
    | none => 0
    | some r => if r.hard then 0 else g.members.length - (g.resv ++ g.asked.toList).length)).sum

/-- A `gang` at the directory: its code, and the id of its first record. DESIGN CHOICE: the members get their ids here, of those that no
scheduler uses, since a LAUNCH is answered with the first (R478) before any of them has a die. -/
def State.newGang (s : State) (h : Launch) (asid hold : Nat) : State × Nat × Nat :=
  let room : Nat := if h.hard then s.roomOn h.die else ((List.range 4).map s.roomOn).sum - s.unplaced
  if s.coresOf asid < h.trip then (s, 4, 0)
  else if room < h.trip then (s, 5, 0)
  else
    let r := recOf h asid
    let x := s.sched h.die
    let ids := freeRids s.usedRids h.trip (x.rid + 1)
    let g : Gang :=
      { gang := h.gang, asid := asid, hold := hold, epoch := s.gangNo
        members := ids.zipIdx.map (fun k => { r with rid := k.1, wid := (h.wid + k.2) % 2 ^ 64 }) }
    let s := s.setSched h.die { x with rid := ids.getLastD x.rid }
    let s := { s with gangs := s.gangs ++ [g], gangNo := s.gangNo + 1 }
    (s.after (hold * us) (.gangHoldExpiry g.gang asid g.epoch), 0, ids.headD 0)

/-- The key of a gang, lower first. -/
def Gang.key (g : Gang) : Nat := g.gang * 8192 + g.asid

/-- Whether a core could serve a gang's members, whoever has reserved it. -/
def State.serves (s : State) (g : Gang) (p : Nat) : Bool :=
  let c := s.core p
  match g.members with
  | [] => false
  | r :: _ => !s.resetting.contains (clusOf p) && c.life == .running && c.asid == g.asid && c.codeTag == r.code && c.taskEntry.isSome && (!r.hard || dieOf p == r.die)

/-- Whether a gang's members are bound to one die, which keeps room for them from the gang's creation. -/
def Gang.hard (g : Gang) : Bool := match g.members.head? with | some r => r.hard | none => false

/-- A free eligible core for a gang, lowest place first, on a die whose queue memory has room for a member. -/
def State.gangCore (s : State) (g : Gang) : Option Nat :=
  (s.cores.map (·.1)).find? (fun p =>
    s.isCore p && s.serves g p && s.freeCore p && !(s.sched (dieOf p)).down && (g.hard || s.roomOn (dieOf p) != 0))

/-- The pending gang with the highest key above a gang's that has reserved a core for it, and that core. -/
def State.gangVictim (s : State) (g : Gang) : Option (Gang × Nat) :=
  let may (v : Gang) (p : Nat) : Bool := s.serves g p && (g.hard || !v.hard || s.roomOn (dieOf p) != 0)
  let l := s.gangs.filter (fun x => g.key < x.key && x.resv.any (may x))
  match firstBy (fun (a b : Gang) => b.key < a.key) l with
  | none => none
  | some v => (v.resv.find? (may v)).map (fun p => (v, p))

/-- A gang's reservation can go one step on: the directory waits for no scheduler's answer about it. -/
def State.gangMay (s : State) (g : Gang) : Bool :=
  g.asked.isNone && (g.resv.any (fun p => !s.serves g p) || (s.gangCore g).isSome || (s.gangVictim g).isSome)

/-- The lowest pending gang that can reserve a core (R441). -/
def State.gangTurn (s : State) : Option Gang :=
  firstBy (fun (a b : Gang) => a.key < b.key || (a.key == b.key && a.epoch < b.epoch)) (s.gangs.filter s.gangMay)

def State.setGang (s : State) (g : Gang) : State :=
  { s with gangs := s.gangs.map (fun x => if x.epoch = g.epoch then g else x) }

/-- A scheduler no longer keeps a core for a gang. -/
def State.unreserve (s : State) (p : Nat) : State :=
  let d := dieOf p
  s.setSched d { s.sched d with resv := (s.sched d).resv.filter (· != p) }

/-- Every member of a gang is offered to its core in one step. -/
def State.dispatchGang (s : State) (g : Gang) : State :=
  let s := { s with gangs := s.gangs.filter (fun x => x.epoch != g.epoch) }
  (g.members.zip g.resv).foldl (fun s x =>
    let d := dieOf x.2
    ((s.unreserve x.2).putRec d { x.1 with rst := 1 }).offer d x.1 x.2 none) s

/-- A message of the directory to the scheduler of a core's die about a gang (R434, R441). -/
def State.gangSend (s : State) (p epoch : Nat) (m : GangMsg) : State := s.send s.dirName 3 (s.schedName (dieOf p)) 3 0 (.gang p epoch m)

/-- A core is reserved for a gang; a complete gang is dispatched at once. -/
def State.gangTake (s : State) (g : Gang) (p : Nat) : State :=
  let g' : Gang := { g with resv := g.resv ++ [p], asked := none }
  if g'.resv.length < g'.members.length then s.setGang g' else (s.setGang g').dispatchGang g'

/-- The directory reserves one core for the lowest gang that can be given one: it asks the scheduler of a free core's die for it, or, where
none is free, takes one from the highest gang above. A core that can no longer serve is released first. -/
def execGangReserve (gang asid : Nat) (s : State) : Host.Outcome State Fault Refusal :=
  match s.gangTurn with
  | none => .next s
  | some g =>
    if g.gang ≠ gang ∨ g.asid ≠ asid then .next s
    else
      match g.resv.find? (fun p => !s.serves g p) with
      | some p => .next ((s.setGang { g with resv := g.resv.erase p }).gangSend p g.epoch .release)
      | none =>
        match s.gangCore g, s.gangVictim g with
        | some p, _ =>
          .next ((s.setGang { g with asked := some p }).gangSend p g.epoch (.reserve g.asid (match g.members.head? with | some r => r.code | none => 0)))
        | none, some (v, p) => .next ((s.setGang { v with resv := v.resv.erase p }).gangTake g p)
        | none, none => .next s

/-- A scheduler's answer at the directory. A core for which no gang waits any more is released. -/
def State.gangHeard (s : State) (p epoch : Nat) (m : GangMsg) : State :=
  match s.gangs.find? (fun g => g.epoch == epoch && g.asked == some p), m with
  | some g, .reserved => s.gangTake g p
  | some g, .denied => s.setGang { g with asked := none }
  | none, .reserved => s.gangSend p epoch .release
  | _, _ => s

/-- A gang that is incomplete when its hold time runs out releases its cores and asks again, or is deleted. -/
def execGangHoldExpiry (gang asid epoch : Nat) (s : State) : Host.Outcome State Fault Refusal :=
  match s.gangs.find? (fun g => g.epoch == epoch && g.gang == gang && g.asid == asid) with
  | none => .next s
  | some g =>
    let s := g.resv.foldl (fun s p => s.gangSend p epoch .release) s
    if 16 ≤ g.expiries + 1 then
      let r := g.members.head?
      .next ({ s with gangs := s.gangs.filter (fun x => x.epoch != epoch) }.schedFault
        (match r with | some r => r.die | none => 0) 1 r)
    else
      .next ((s.setGang { g with resv := [], asked := none, expiries := g.expiries + 1 }).after (g.hold * us) (.gangHoldExpiry gang asid epoch))

/-! ## Recruiting (R443) -/

def ForkUnit.cell (u : ForkUnit) (k : Nat) : Cell := mget u.cells k {}

def State.cellAt (s : State) (u k : Nat) : Cell := (s.fork u).cell k

def State.setCell (s : State) (u k : Nat) (c : Cell) : State :=
  let x := s.fork u
  s.setFork u { x with cells := mset x.cells k c }

/-- Whether a core is free to take a child of a cell: none of its children there is still to end. -/
def State.takesChild (s : State) (k : Nat) (x : Cell) (p : Nat) : Bool :=
  let c := s.core p
  let busy : Bool := x.busy.any (fun b => b.1 == p && !c.childOver k x.gen b.2)
  let ce : Bool := match c.hdl[x.ce]? with | some e => e.valid && e.src == 3 | none => false
  s.freeCore p && c.asid == x.asid && c.codeTag == x.tag && ce && !busy

/-- The level at which the unit sees a core from the forking core. -/
def level (forker p : Nat) : Nat :=
  let g (q : Nat) : Nat := groupOf q % 24
  if g forker = g p then 0 else if g forker / 4 = g p / 4 then 1 else 2

/-- The cores that can be recruited, in the order of R443. -/
def State.recruits (s : State) (u k : Nat) (x : Cell) : List Nat :=
  let l := (s.cores.map (·.1)).filter (fun p =>
    s.isCore p && clusOf p == u && !x.team.contains p && s.takesChild k x p)
  let at_ (n : Nat) : List Nat := l.filter (fun p => level x.forker p == n)
  at_ 0 ++ at_ 1 ++ at_ 2

/-- The word of a chunk, or of the continuation with the registers of chunk 0 (R444, R446). -/
def childWord (u k : Nat) (x : Cell) (chunk : Nat) (cont : Bool) : ChildWord :=
  { unit := u, cell := k, gen := x.gen, chunk := chunk, cont := cont, ent := if cont then x.ke else x.ce
    wid := (x.wid + if cont then 0 else chunk * x.chunk) % 2 ^ 64, widths := x.widths, args := x.args, asid := x.asid }

def State.sendChild (s : State) (u p : Nat) (w : ChildWord) : State :=
  s.send (s.schedName (u / 4)) 3 p 0 w.asid (.child p w)

/-- Whether a chunk is still to be dispatched. -/
def Cell.left (x : Cell) : Bool := !x.redo.isEmpty || x.next < x.total

/-- The next chunk of a cell goes to a core. -/
def State.giveChunk (s : State) (u k p : Nat) : State :=
  let x := s.cellAt u k
  match x.redo with
  | n :: r => (s.setCell u k { x with redo := r, busy := x.busy ++ [(p, n)] }).sendChild u p (childWord u k x n false)
  | [] =>
    if x.next < x.total then
      (s.setCell u k { x with next := x.next + 1, busy := x.busy ++ [(p, x.next)] }).sendChild u p (childWord u k x x.next false)
    else s

/-- The unit recruits as many cores as there are chunks left, and gives each a chunk. -/
def State.recruit (s : State) (u k : Nat) : State :=
  (s.recruits u k (s.cellAt u k)).foldl (fun s p =>
    let x := s.cellAt u k
    if x.left then (s.setCell u k { x with team := x.team ++ [p] }).giveChunk u k p else s) s

/-! ## `fork` and `join` (R464, R465) -/

/-- A `fork` at its unit: the result word. Of more chunks than the 16 bits of `total` hold (R445), `total` is a free value. -/
def State.newFork (s : State) (place : Nat) (h : Launch) (w : Nat) : State × Nat :=
  let u := clusOf place
  match (List.range 64).find? (fun k => (s.cellAt u k).st == 0) with
  | none => (s, 5 * 2 ^ 60)
  | some k =>
    let c := s.core place
    let gen := ((s.cellAt u k).gen + 1) % 65536
    let nch := ceilDiv h.trip h.chunk
    let x : Cell :=
      { gen := gen, total := if nch < 65536 then nch else Config.forkTotal nch % 65536, ce := bits w 4 0, ke := bits w 12 8, kv := bit w 16, jn := bit w 17, st := 1
        team := [place], forker := place, asid := c.asid, wid := h.wid, widths := h.widths, chunk := h.chunk, args := h.args
        tag := c.codeTag }
    ((s.setCell u k x).recruit u k, gen * 65536 + k)

/-- The answer of a fork unit to a core. -/
def State.forkAnswer (s : State) (u place act tag val : Nat) : State :=
  s.send (s.schedName (u / 4)) 3 place 0 (s.core place).asid (.schedAns place act tag val)

/-- The joins that wait on a cell's fork are answered: the first has the result, the others code 1. -/
def State.answerJoins (s : State) (u k : Nat) : State :=
  let f := s.fork u
  let x := f.cell k
  let ours (j : Joiner) : Bool := j.cell == k && j.gen == x.gen
  match f.joins.filter ours with
  | [] => s
  | j :: r =>
    let s := s.setFork u { cells := mset f.cells k { x with st := 0 }, joins := f.joins.filter (fun y => !ours y) }
    r.foldl (fun s y => s.forkAnswer u y.place y.act y.tag (2 ^ 60))
      (s.forkAnswer u j.place j.act j.tag (x.fail % 65536 * 2 ^ 32 + x.total % 65536))

/-- A `join` reaches its fork unit. Bits 15:6 of the handle, which are to be zero, are ignored (R2). -/
def State.joinAt (s : State) (place act tag handle : Nat) : State :=
  let u := clusOf place
  let f := s.fork u
  let k := handle % 64
  let x := f.cell k
  if x.gen ≠ bits handle 31 16 ∨ x.st = 0 ∨ x.jn = false then s.forkAnswer u place act tag (2 ^ 60)
  else
    let t := s.setFork u { f with joins := f.joins ++ [{ place := place, act := act, tag := tag, cell := k, gen := x.gen }] }
    if x.st = 2 then t.answerJoins u k else t

/-! ## Chunks and completion (R444 to R447) -/

/-- Whether a cell's next chunk can be dispatched: to a team core that is free, or to a recruit of a cell without a team. -/
def State.chunkCore (s : State) (u k : Nat) : Option Nat :=
  let x := s.cellAt u k
  if x.st ≠ 1 ∨ x.left = false then none
  else if x.team.isEmpty then (s.recruits u k x).head?
  else
    let at_ (p : Nat) : Nat := (s.core p).freeAt
    firstBy (fun (a b : Nat) => at_ a < at_ b || (at_ a == at_ b && coreOf a < coreOf b)) (x.team.filter (s.takesChild k x))

/-- The next chunk goes to the team core that became free first, of those that became free together to the one with the lowest number
(R444); a cell whose team is gone recruits again. -/
def execForkChunkDispatch (unit cell : Nat) (s : State) : Host.Outcome State Fault Refusal :=
  match s.chunkCore unit cell with
  | none => .next s
  | some p =>
    if (s.cellAt unit cell).team.isEmpty then .next (s.recruit unit cell) else .next (s.giveChunk unit cell p)

/-- A child is counted; the last completes the cell, whose continuation goes to the core of that child. -/
def State.countChild (s : State) (u k chunk place : Nat) (failed : Bool) : State :=
  let x := s.cellAt u k
  let y : Cell := { x with busy := x.busy.erase (place, chunk), cnt := x.cnt + 1, fail := x.fail + ofBool failed }
  if y.cnt < y.total then s.setCell u k y
  else
    let s := s.setCell u k { y with st := if y.jn then 2 else 0 }
    let s := if y.kv then s.sendChild u place (childWord u k y 0 true) else s
    if y.jn then s.answerJoins u k else s

/-- A child has ended at `done`, and its stores have been performed (R445). -/
def execChildDoneCount (unit cell gen chunk place : Nat) (s : State) : Host.Outcome State Fault Refusal :=
  let x := s.cellAt unit cell
  if x.st = 1 ∧ x.gen = gen ∧ x.busy.contains (place, chunk) = true then .next (s.countChild unit cell chunk place false)
  else .next s

/-- A core with children has stopped: frozen, they count as failed; sealed, their chunks are dispatched again and the core
leaves its teams (R447). -/
def execChildFailure (unit cell gen chunk place : Nat) (sealed : Bool) (s : State) : Host.Outcome State Fault Refusal :=
  let x := s.cellAt unit cell
  if x.st ≠ 1 ∨ x.gen ≠ gen ∨ x.busy.contains (place, chunk) = false then .next s
  else if sealed then
    .next (s.setCell unit cell { x with busy := x.busy.erase (place, chunk), redo := x.redo ++ [chunk], team := x.team.erase place })
  else .next (s.countChild unit cell chunk place true)

/-- A continuation that was not accepted is sent again, unless its tenant is gone (R446, R460). -/
def execContinuationResend (place : Nat) (w : ChildWord) (s : State) : Host.Outcome State Fault Refusal :=
  if s.tornDown w.asid then .next s else .next (s.sendChild w.unit place w)

/-- One step of a core's ended children: one whose loads and stores have been performed at `clus` scope is counted. -/
def State.drainDone (s : State) (p : Nat) : State :=
  let c := s.core p
  match c.doneOut.find? (fun x => c.released x.1 c.lsSeq .clus) with
  | none => s
  | some x =>
    let w := x.2
    (s.setCore p { c with doneOut := c.doneOut.erase x }).post (.childDoneCount w.unit w.cell w.gen w.chunk p)

end Sys2Proof.Machine
end

