-- ==== Sys2Proof/Machine/Matrix.lean ====
section
/-! DEFINITION. The matrix unit (11): its queue and commands, the array's arbiter, block and BF16 steps, the drain and the
comparator, and its faults. -/

namespace Sys2Proof.Machine

open Sys2Proof

/-! ## Faults (R397, R398) -/

/-- `cseq` of a command: the count runs modulo 2^32 and skips 0 (R371). -/
def matSeq (n : Nat) : Nat := if n = 0 then 0 else (n - 1) % (2 ^ 32 - 1) + 1

/-- `fn` of a matrix instruction (Table 11.2). -/
def matFn (w : IWord) : Nat := fld w 2 3

def matRecord (p : Nat) (x : Cmd) (kind : Nat) (d : List (Nat × Nat × Nat)) : FaultRec :=
  { kind := kind, engine := 6, place := p, asid := x.asid, entry := x.ent, priv := x.priv, stream := 1, pc := x.pc
    wid := x.wid.toNat, cseq := matSeq x.seq, detail := detail d }

/-- What a record of kind 0x0A says (Table 11.7). -/
def matDetail (x : Cmd) (cls cause tile val step side : Nat) : List (Nat × Nat × Nat) :=
  let w := (encode x.op).getD 0
  [(36, 1, cause), (37, 1, cls), (38, 1, tile), (39, 1, matFn w), (40, 8, val), (48, 4, w.toNat), (52, 4, step),
   (56, 1, side)]

/-- A fault of the unit freezes the core; one found at issue, of a command that has no number yet, also stops the other stream (R194,
R397). -/
def State.matStop (s : State) (p : Nat) (x : Cmd) (r : FaultRec) : State :=
  if x.seq = 0 then s.handlerFault p .e r else s.freezeCore p r

def State.matFault (s : State) (p : Nat) (x : Cmd) (cls cause tile val step side : Nat) : State :=
  s.matStop p x { matRecord p x 0x0A (matDetail x cls cause tile val step side) with va := if cls = 0 then val % 2 ^ 52 else 0 }

def State.matSpan (s : State) (p : Nat) (x : Cmd) (addr side : Nat) : State :=
  s.matStop p x { matRecord p x 0x07 [(36, 1, 1), (40, 8, addr), (56, 1, side)] with va := addr }

def State.matConsume (s : State) (p : Nat) (x : Cmd) (addr side : Nat) : State :=
  s.sealCore p (some { matRecord p x 0x0F [(36, 1, 1), (40, 8, addr), (56, 1, side)] with va := addr })

/-- What an error-bank record says of the command that found the error. -/
def Cmd.matFinder (x : Cmd) : Finder := { x.finder with cseq := matSeq x.seq }

/-! ## Issue (R377, R378, R382) -/

/-- A command enters the matrix queue. `ix` holds the last vector command before it, which `mm.fence` waits for. -/
def matEnter (s : State) (i : Issued) (x : Cmd) : State :=
  let n := i.core.mSeq + 1
  s.withAct { i.core with mSeq := n, mq := i.core.mq ++ [{ x with seq := n, ix := i.core.vSeq }] } i.act

/-- The checks of `mma` and `mma.bf16` at issue: the class, the cause, the operand and the side of the first fault. -/
def mmaCheck (a b k : Nat) : Option (Nat × Nat × Nat × Nat) :=
  if 2 ^ 16 ≤ a then some (1, 1, a, 0)
  else if 2 ^ 17 ≤ b then some (1, 2, b, 0)
  else if 2 ^ 13 ≤ k ∨ k % 4096 = 0 then some (1, 3, k, 0)
  else if a % 64 ≠ 0 then some (0, 5, a, 0)
  else if b % 64 ≠ 0 then some (0, 5, b, 1)
  else none

/-- Issue of `mma` or `mma.bf16`. -/
def matMultiply (s : State) (op : Instr) (rx ry rw : Reg) (bf : Bool) : Host.Outcome State Fault Refusal :=
  issue s { st := .e, srcs := [rx, ry, rw], enters := some .matrix } (fun i =>
    let x := i.cmd op 0 false
    let a := (v1 i.vals).toNat
    let b := (v2 i.vals).toNat
    let ku := (v3 i.vals).toNat % 4096
    match mmaCheck a b (v3 i.vals).toNat with
    | some (cls, cause, val, side) => s.matFault s.who x cls cause 0 val 0 side
    | none =>
      if bf = true ∧ 0x10000 < a + 4096 * ku then s.matSpan s.who x a 0
      else if bf = true ∧ 0x20000 < b + 64 * ku then s.matSpan s.who x b 1
      else matEnter s i x)

def execMma (x y w : Reg) (c : Fin 2) (s : State) : Host.Outcome State Fault Refusal := matMultiply s (.mma x y w c) x y w false

def execMmaBf16 (x y w : Reg) (c : Fin 2) (s : State) : Host.Outcome State Fault Refusal :=
  matMultiply s (.mmaBf16 x y w c) x y w true

def execMmZero (c : Fin 2) (s : State) : Host.Outcome State Fault Refusal :=
  issue s { st := .e, enters := some .matrix } (fun i => matEnter s i (i.cmd (.mmZero c) 0 false))

def execMmSt (x : Reg) (s : State) : Host.Outcome State Fault Refusal :=
  issue s { st := .e, dst := .later x false, enters := some .matrix } (fun i => matEnter s i (i.cmd (.mmSt x) 0 true))

/-- `mm.fence` holds the execute stream (R386). -/
def execMmFence (s : State) : Host.Outcome State Fault Refusal :=
  issue s { st := .e, enters := some .matrix, hold := some false } (fun i => matEnter s i (i.cmd .mmFence 0 true))

/-- `mm.cfg`: the configuration word, then the weight's privilege (R378, R384). -/
def execMmCfg (x : Reg) (s : State) : Host.Outcome State Fault Refusal :=
  issue s { st := .e, srcs := [x], enters := some .matrix } (fun i =>
    let c := i.cmd (.mmCfg x) 0 false
    let v := (v1 i.vals).toNat
    if 2 ^ 8 ≤ v ∨ bits v 3 1 ≠ 0 then s.matFault s.who c 1 4 0 v 0 0
    else if bits v 7 4 ≠ 0 ∧ i.old.priv = false then s.matFault s.who c 1 5 0 v 0 0
    else matEnter s i c)

/-! ## Commands that do not use the array (R383 to R386) -/

/-- The status word of `mm.st` (Table 11.4). -/
def matStatus (c : Core) (p : Nat) : Nat :=
  c.lseq * 2 ^ 32 + c.wt * 2 ^ 20 + ofBool c.red * 2 ^ 16 + inGroup p * 2 ^ 8 + groupOf p % 24

/-- The head command is performed and leaves the queue. -/
def Core.matDone (c : Core) (x : Cmd) : Core := { c with mq := c.mq.drop 1, lseq := matSeq x.seq, mTile := 0 }

/-- The head command stops with a fault: it leaves the queue of a core that is not sealed. -/
def Core.matStopped (c : Core) : Core := if c.life = .sealed then c else { c with mq := c.mq.drop 1, mTile := 0 }

/-- One step of a core's matrix queue. An `mma` waits for the arbiter. -/
def State.drainMatrix (s : State) (p : Nat) : State :=
  let c := s.core p
  match c.mq with
  | [] => s
  | x :: _ =>
    if c.recs.any (fun e => e.1 == 6) then s
    else
      match x.op with
      | .mmZero k => s.setCore p ((c.put .cb (0x4000 * k.val) (List.replicate 0x4000 0)).matDone x)
      | .mmSt _ => (s.setCore p (c.matDone x)).deliver p x.act x.tag (BitVec.ofNat 64 (matStatus c p))
      | .mmCfg _ =>
        let v := (v1 x.vals).toNat
        let w := bits v 7 4
        s.setCore p ({ c with red := bit v 0, wt := if w = 0 then c.wt else w }.matDone x)
      | .mmFence =>
        if c.vq.any (fun y => y.seq ≤ x.ix) then s
        else (s.setCore p (c.matDone x)).deliver p x.act x.tag 0
      | _ => s

/-! ## The arbiter (R387) -/

/-- The `mma` or `mma.bf16` at the head of a queue: whether it is BF16, and its accumulator tile. -/
def mmaHead (x : Cmd) : Option (Bool × Nat) :=
  match x.op with
  | .mma _ _ _ c => some (false, c.val)
  | .mmaBf16 _ _ _ c => some (true, c.val)
  | _ => none

/-- Whether a core has a ready tile. -/
def State.readyTile (s : State) (p : Nat) : Bool :=
  let c := s.core p
  match c.mq with
  | x :: _ => (mmaHead x).isSome && c.life != .sealed && !c.recs.any (fun e => e.1 == 6)
  | [] => false

/-- Which core of a group is granted, with the grant count after it. -/
def State.arbiter (s : State) (g : Nat) : Option (Nat × Nat) :=
  let x := s.group g
  let core (i : Nat) : Nat := (s.groupCores g).getD (i % 8) 0
  if s.readyTile (core x.cur) ∧ x.grants < (s.core (core x.cur)).wt then some (x.cur, x.grants + 1)
  else ((upto (x.cur + 1) 8).find? (fun i => s.readyTile (core i))).map (fun i => (i % 8, 1))

/-- The C address of a cell. -/
def cellAddr (c r n : Nat) : Nat := 0x4000 * c + 256 * r + 4 * n

/-- The rows of a tile. -/
def tileRows (c : Core) : Nat × Nat := if c.red then (32 * c.mTile, 32) else (0, 64)

/-- The array takes a core's next tile: the owner of the weight buffer is checked, and the accumulators are loaded
(R375, R379). -/
def State.startTile (s : State) (g p : Nat) (x : Cmd) (tile : Nat) : State :=
  let c := s.core p
  let grp := s.group g
  if grp.owner.isSome ∧ grp.owner ≠ some x.asid then
    (s.matFault p x 1 6 c.mTile (v2 x.vals).toNat 0 0).modCore p Core.matStopped
  else
    let s := s.setGroup g { grp with owner := some x.asid }
    let zs := bit (v3 x.vals).toNat 12
    let (r0, n) := tileRows c
    let a := cellAddr tile r0 0
    if zs = false ∧ c.isBad .cb a (256 * n) then
      let a := c.badAddr .cb a (256 * n)
      (s.coreError p 6 a x.matFinder).matConsume p x a 0
    else
      let acc := (List.range (64 * n)).map (fun k => if zs then 0 else BitVec.ofNat 32 (c.cb.load (a + 4 * k) 4))
      let s := if c.mTile = 0 then s.setCore p { c with mLut := c.lut } else s
      let grp := s.group g
      s.setGroup g { grp with job := some { place := p, seq := x.seq, tile := c.mTile, row := r0, acc := acc } }

/-- The arbiter grants the next tile while the array is free. -/
def execMatrixTileGrant (grp : Nat) (s : State) : Host.Outcome State Fault Refusal :=
  let x := s.group grp
  if x.job.isSome then .next s
  else
    match s.arbiter grp with
    | none => .next s
    | some (i, n) =>
      let p := (s.groupCores grp).getD i 0
      let s := s.setGroup grp { x with cur := i, grants := n }
      match (s.core p).mq with
      | [] => .next s
      | y :: _ =>
        match mmaHead y with
        | none => .next s
        | some (_, t) => .next (s.startTile grp p y t)

/-! ## Block steps (R379, R380) and BF16 chunks (R381) -/

/-- The address of block or chunk `j` of operand line `k`: lines 0 to 63 are rows of A, 64 to 127 columns of B. -/
def operandAddr (x : Cmd) (k j : Nat) : Nat :=
  if k < 64 then (v1 x.vals).toNat + 64 * (64 * j + k) else (k - 64) * 0x20000 + (v2 x.vals).toNat + 64 * j

/-- Whether a block lies beyond AB or its column slice. -/
def operandOut (x : Cmd) (k j : Nat) : Bool :=
  if k < 64 then 0x10000 < operandAddr x k j + 64 else 0x20000 < (v2 x.vals).toNat + 64 * j + 64

/-- The bytes of a block, and whether it holds an error. -/
def State.operand (s : State) (g p : Nat) (x : Cmd) (k j : Nat) : List Byte × Bool :=
  let a := operandAddr x k j
  if k < 64 then
    let c := s.core p
    (c.ab.readN a 64, c.isBad .ab a 64)
  else ((s.group g).wb.readN a 64, badIn (s.group g).bad a 64)

/-- What stops a step. -/
inductive StepFault where
  | span (addr side : Nat)
  | error (addr side : Nat)
  | poison (addr side : Nat)
  | format (cause addr side : Nat)
  deriving DecidableEq, Repr

/-- The checks of one line's block at a step; of a block that is already part consumed only its storage is checked again. -/
def State.stepCheck (s : State) (g p : Nat) (x : Cmd) (k : Nat) (at_ : Nat × Nat) : Option StepFault :=
  let side := k / 64
  let a := operandAddr x k at_.1
  if operandOut x k at_.1 then some (.span a side)
  else
    let (b, bad) := s.operand g p x k at_.1
    if bad then some (.error a side)
    else if at_.2 ≠ 0 then none
    else match blockCheck b with
      | none => none
      | some .poisoned => some (.poison a side)
      | some (.cause n) => some (.format n a side)

/-- A command that stops at a step: the array is free again. -/
def State.stopTile (s : State) (g p : Nat) (x : Cmd) (j : TileJob) (f : StepFault) : State :=
  let s := s.setGroup g { s.group g with job := none }
  let s := match f with
    | .span a d => s.matSpan p x a d
    | .error a d => (if d = 0 then s.coreError p 6 a x.matFinder
                     else s.foundError { bank := 16 * dieOf p + 8, uncorrectable := true,
                                         rcd := bankRecord 6 p x.asid 0 1 a x.matFinder }).matConsume p x a d
    | .poison a d => s.matConsume p x a d
    | .format k a d => s.matFault p x 0 k j.tile a j.step d
  s.modCore p Core.matStopped

/-- One block step of the array. -/
def State.blockStep (s : State) (g p : Nat) (x : Cmd) (j : TileJob) : State :=
  let at_ (k : Nat) : Nat × Nat := j.ats.getD k (0, 0)
  match (List.range 128).findSome? (fun k => s.stepCheck g p x k (at_ k)) with
  | some f => s.stopTile g p x j f
  | none =>
    let c := s.core p
    let left := 62 * ((v3 x.vals).toNat % 4096) - j.pos
    let blocks := (List.range 128).map (fun k => (s.operand g p x k (at_ k).1).1)
    let whole := (List.range 128).all (fun k => (at_ k).2 == 0 && blockExtent (blocks.getD k []) == 124)
    let ext := if whole ∧ 124 ≤ left then 124 else 62
    let acc := j.acc.zipIdx.map (fun y =>
      let r := j.row + y.2 / 64
      let n := 64 + y.2 % 64
      cellStep c.mLut (blocks.getD r []) (blocks.getD n []) (at_ r).2 (at_ n).2 ext y.1)
    let ats := (List.range 128).map (fun k =>
      let (b, o) := at_ k
      if o + ext = blockExtent (blocks.getD k []) then (b + 1, 0) else (b, o + ext))
    s.setGroup g { s.group g with job := some { j with acc := acc, ats := ats, step := j.step + 1, pos := j.pos + ext } }

/-- Whether a tile reads operand `k`, in the numbering of A's rows and then B's columns: of A its own rows alone (R381). -/
def TileJob.reads (j : TileJob) (k : Nat) : Bool := decide (64 ≤ k) || (decide (j.row ≤ k) && decide (k < j.row + j.acc.length / 64))

/-- One chunk of BF16 values. -/
def State.chunkStep (s : State) (g p : Nat) (x : Cmd) (j : TileJob) : State :=
  let chunks := (List.range 128).map (fun k => s.operand g p x k j.step)
  match chunks.zipIdx.find? (fun y => y.1.2 && j.reads y.2) with
  | some (_, k) => s.stopTile g p x j (.error (operandAddr x k j.step) (k / 64))
  | none =>
    let v (k e : Nat) : Nat := field (chunks.getD k ([], false)).1 (2 * e) 2
    let acc := j.acc.zipIdx.map (fun y =>
      let r := j.row + y.2 / 64
      let n := 64 + y.2 % 64
      (List.range 32).foldl (fun a e => cellBf16 (v r e) (v n e) a) y.1)
    s.setGroup g { s.group g with job := some { j with acc := acc, step := j.step + 1, pos := j.pos + 32 } }

/-- The elements of K of a command. -/
def kOf (x : Cmd) (bf : Bool) : Nat := (if bf then 32 else 62) * ((v3 x.vals).toNat % 4096)

/-- The command that a group's array is working on; none once its core has been sealed. -/
def State.jobCmd (s : State) (j : TileJob) : Option Cmd :=
  ((s.core j.place).mq.head?).bind (fun x => if x.seq = j.seq then some x else none)

/-- The array's next step; at the end of K a block consumed in part is a format fault (R379, R380). A tile whose core has
been sealed is given up (R396). -/
def State.arrayStep (s : State) (g : Nat) : State :=
  match (s.group g).job with
  | none => s
  | some j =>
    match (s.jobCmd j).bind (fun x => (mmaHead x).map (fun h => (x, h.1))) with
    | none => s.setGroup g { s.group g with job := none }
    | some (x, bf) =>
      if j.pos < kOf x bf then (if bf then s.chunkStep g j.place x j else s.blockStep g j.place x j)
      else
        match j.ats.findIdx? (fun y => y.2 != 0) with
        | some k => s.stopTile g j.place x { j with step := j.step - 1 } (.format 6 (operandAddr x k (j.ats.getD k (0, 0)).1) (k / 64))
        | none => s

/-- Whether a tile has computed all of K. -/
def State.tileReady (s : State) (g : Nat) : Bool :=
  match (s.group g).job with
  | none => false
  | some j =>
    match (s.jobCmd j).bind (fun x => (mmaHead x).map (fun h => (x, h.1))) with
    | none => false
    | some (x, bf) => kOf x bf ≤ j.pos && j.ats.all (fun y => y.2 == 0)

/-! ## The drain (R379, R390, R392) -/

/-- Cells in row-major order, each once. -/
def cellOrder (l : List (Nat × Nat)) : List (Nat × Nat) :=
  (l.eraseDups).foldr (fun y r => r.takeWhile (fun z => 64 * z.1 + z.2 < 64 * y.1 + y.2) ++ y :: r.dropWhile (fun z => 64 * z.1 + z.2 < 64 * y.1 + y.2)) []

/-- A finished tile is written to CB. In redundant mode the comparator has compared it first: `diff` are the cells, row and
column of C, at which a fault of the array has made the two results differ; the arithmetic makes none (R391). -/
def execMatrixTileDrain (grp : Nat) (diff : List (Nat × Nat)) (s : State) : Host.Outcome State Fault Refusal :=
  if !s.tileReady grp then .next s
  else
    match (s.group grp).job with
    | none => .next s
    | some j =>
      let p := j.place
      let s := s.setGroup grp { s.group grp with job := none }
      let c := s.core p
      match c.mq with
      | [] => .next s
      | x :: _ =>
        match mmaHead x with
        | none => .next s
        | some (_, t) =>
          if c.red then
            match cellOrder diff with
            | (r, n) :: rest =>
              let d := matRecord p x 0x0A (matDetail x 2 1 j.tile (r + n * 2 ^ 16 + (rest.length + 1) * 2 ^ 32) 0 0)
              let s := s.foundError { bank := 16 * dieOf p + 8, uncorrectable := true
                                      rcd := bankRecord 6 p x.asid 0 3 (cellAddr t r n) x.matFinder }
              .next (s.sealCore p (some d))
            | [] =>
              let c := c.put .cb (cellAddr t j.row 0) (j.acc.flatMap (fun v => leBytes 4 v.toNat))
              .next (s.setCore p (if j.tile = 0 then { c with mTile := 1 } else c.matDone x))
          else
            .next (s.setCore p ((c.put .cb (cellAddr t 0 0) (j.acc.flatMap (fun v => leBytes 4 v.toNat))).matDone x))

end Sys2Proof.Machine
end

