-- ==== Sys2Proof/Machine/Tenant.lean ====
section
/-! DEFINITION. The service instructions of major 0x3D (13): `rpl`, `seal`, `thaw`, `evict`, `rstr`; eviction images; requests at
the schedulers, the directory and the fork units; and the comparison of pairs. -/

namespace Sys2Proof.Machine

open Sys2Proof

/-- The state after an outcome. -/
def stateOf (o : Host.Outcome State Fault Refusal) (s : State) : State :=
  match o with
  | .next t => t
  | _ => s

/-! ## The engines of a core -/

/-- One step of an engine of a core, by its code (Table 01.8); 9 are the counts of ended children. -/
def State.engineStep (s : State) (p e : Nat) : State :=
  match e with
  | 2 => s.drainChannel p
  | 3 => s.drainCopy p
  | 5 => s.drainVector p
  | 6 => s.drainMatrix p
  | 7 => s.drainCapsule p
  | 8 => s.drainSched p
  | 9 => s.drainDone p
  | _ => s

/-- The steps that a core's engines could take next: the states that they reach. -/
def State.engineSteps (s : State) (p : Nat) : List State :=
  let c := s.core p
  [2, 3, 5, 6, 7, 8, 9].map (s.engineStep p) ++ c.lsq.map (fun x => s.lsuTurn p x.cmd.seq) ++
    c.xfers.map (fun x => s.copyStep p x.ctx) ++ c.filling.map (fun f => s.fillStep p f.win f.unit) ++
    [stateOf (execTransferTake p s) s, stateOf (execCapsuleEgressSend p s) s] ++
    (List.range 4).flatMap (fun w => (List.range 64).flatMap (fun u =>
      [stateOf (execFillTouch p w u s) s, stateOf (execFillComplete p w u s) s]))

def isJoin (x : SchedOut) : Bool := match x.cmd.op with | .join .. => true | _ => false

/-- Whether a core's engines have performed all that they can: nothing is on its way for them, and none can take a step.
Parked transfers and accesses, and commands that wait for a message, stay (R319, R396, R424, R457). -/
def State.still (s : State) (p : Nat) : Bool :=
  let c := s.core p
  s.agenda.all (fun e => inputOf e != (0, p) && !writesCore p e) && c.stray.isEmpty &&
    c.recs.isEmpty && !c.nSent && c.egress.isEmpty && c.mq.isEmpty && c.doneOut.isEmpty &&
    c.lsq.all (fun x => !x.sent && x.parts.all (fun q => q.st != .asked && q.st != .left && q.st != .egress)) &&
    c.xfers.all (fun x => x.out.isEmpty && x.xl != .asked) && c.filling.all (fun f => !f.asked && f.xl != .asked) &&
    c.schedOut.all (fun x => isJoin x || !x.sent) && c.pair.all (fun x => x.mine.isEmpty && x.theirs.isEmpty) &&
    c.eps.toList.all (fun e => !e.passing) &&
    (match (s.group (groupOf p)).job with | some j => j.place != p | none => true) &&
    (s.engineSteps p).all (fun t => decide (t = s))

/-! ## Eviction images (R449, R456) -/

/-- The device-defined part of the image with a number: the number, then bytes that are a free value. DESIGN CHOICE: the number stands in
the first 8 bytes, so that no two images are alike. -/
def stateBytes (id : Nat) : List Byte := leBytes 8 id ++ (List.range (0x10000 - 8)).map (Config.imageByte id)

/-- The bytes of an image that follow its header. -/
def imageBody (c : Core) (id : Nat) : List Byte :=
  List.replicate (0x18000 - 64) 0 ++ c.sp.readN 0 0x18000 ++ c.ab.readN 0 0x10000 ++ c.cb.readN 0 0x8000 ++
    c.code.readN 0 0x8000 ++ stateBytes id

/-- The image of a core (Table 13.5). -/
def imageBytes (c : Core) (p id : Nat) : List Byte :=
  let b := imageBody c id
  layout 64 [(0, 4, 0x45395653), (4, 3, p), (7, 1, 1), (8, 2, c.asid), (16, 8, c.codeTag), (24, 8, (crc64 b).toNat)] ++ b

/-- Whether an image is one of a core and an ASID, and its CRC checks: the three conditions of R458. -/
def imageOk (b : List Byte) (p asid : Nat) : Bool :=
  field b 4 3 == p && field b 8 2 == asid && field b 24 8 == (crc64 (b.drop 64)).toNat

/-! ## `evict` (R457) -/

/-- A result goes to the core that waits for it. -/
def State.schedReply (s : State) (d place act tag val : Nat) : State :=
  s.send (s.schedName d) 3 place 0 (s.core place).asid (.schedAns place act tag val)

/-- An `evict` at the scheduler of its die. -/
def State.evictAt (s : State) (place act tag target area : Nat) : State :=
  let c := s.core target
  if (c.life ≠ .running ∧ c.life ≠ .frozen) ∨ c.evict.isSome = true then s.schedReply (dieOf target) place act tag (2 * 2 ^ 60)
  else s.setCore target { c with evict := some { area := area, place := place, act := act, tag := tag } }

/-- What is kept of a core: joins that wait will be asked for again, and entries keep how long they have waited (R140). -/
def Core.kept (c : Core) (life : Life) (now : Nat) : Core :=
  { c with life := life, hdl := c.hdl.map (fun x => { x with waited := x.waited + (now - x.since) }), evict := none, schedOut := c.schedOut.map (fun x => { x with sent := false }) }

/-- An eviction goes one step on: once no activation holds the core, it is being evicted; once its engines have performed
what they can, its image is written and it is vacant. A write that faults or fails ends the eviction, and the core runs (R457), unless it
froze while it was being evicted. Two cores that froze alike are a pair until one of them is evicted. -/
def execEvictionStream (place : Nat) (s : State) : Host.Outcome State Fault Refusal :=
  let c := s.core place
  match c.evict with
  | none => .next s
  | some j =>
    match j.prev with
    | none =>
      if (c.life = .running ∧ (c.act.isSome = true ∨ c.pair.isSome = true)) ∨ (c.life ≠ .running ∧ c.life ≠ .frozen) then .next s
      else .next (s.setCore place { c with life := .evicting, evict := some { j with prev := some c.life } })
    | some life =>
      if !s.still place ∨ (c.pair.any (fun x => !s.still x.other)) = true then .next s
      else
        let s := match c.pair with
          | some x => (s.unpair place).unpair x.other
          | none => s
        let c := s.core place
        let (id, s) := s.takeFresh
        match s.globalWrite c.asid j.area (imageBytes c place id) with
        | (s, false) =>
          .next ((s.modCore place (fun c => { c with life := if c.life = Life.frozen then Life.frozen else Life.running, evict := none })).schedReply
            (dieOf place) j.place j.act j.tag (3 * 2 ^ 60))
        | (s, true) =>
          let s := { s with images := s.images ++ [(id, c.kept (if c.life = Life.frozen then Life.frozen else life) s.now)] }
          .next ((s.vacate place).schedReply (dieOf place) j.place j.act j.tag 0)

/-! ## `rstr` (R458) -/

/-- A vacant core is restored from a kept one and the bytes of its image; what only a core reset sets stays. -/
def Core.restored (c k : Core) (asid now : Nat) (b : List Byte) : Core :=
  let part (a n : Nat) : Mem := Mem.cells 0 ((b.drop a).take n)
  { k with asid := asid, hdl := k.hdl.map (fun x => { x with since := now }), hdSel := c.hdSel, ageUs := c.ageUs, parkNs := c.parkNs, wdogLim := c.wdogLim
           actNo := max c.actNo k.actNo, serial := c.serial, recs := c.recs, born := c.born, egress := c.egress
           landNo := max c.landNo k.landNo, chanNo := max c.chanNo k.chanNo, codeTag := field b 16 8 % 2 ^ 46, sp := part 0x18000 0x18000
           ab := part 0x30000 0x10000, cb := part 0x40000 0x8000, code := part 0x48000 0x8000 }

/-- An `rstr` at the scheduler of its die. A restored core sends its parked accesses and segments again at once (R319). -/
def State.rstrAt (s : State) (target asid csize area code : Nat) : State × Nat :=
  let c := s.core target
  if c.life ≠ .vacant then (s, 2)
  else if !s.openAsids.contains asid then (s, 5)
  else if area = 0 then
    let s := s.setCore target (c.admitted asid)
    if code = 0 then (s, 0)
    else
      match s.loadCode target asid code csize with
      | (s, some _) => (s.vacate target, 3)
      | (s, none) => (s.modCore target (fun c => { c with codeLim := csize, codeTag := code / 64 % 2 ^ 46 }), 0)
  else
    match s.globalRead asid area 0x60000 with
    | (s, none) => (s, 3)
    | (s, some b) =>
      if !imageOk b target asid then (s, 4)
      else
        match s.images.find? (fun x => x.1 == field b 0x50000 8 && stateBytes x.1 == b.drop 0x50000) with
        | none => (s, 4)
        | some (_, k) =>
          let s := s.setCore target ((s.core target).restored k asid s.now b)
          ((s.resendParked target).replaySegments target, 0)

/-! ## `seal` and `thaw` (R454, R467) -/

/-- The record of a core sealed by `seal`, with the fields of the task record that runs on it (R469). -/
def State.sealRecord (s : State) (p by_ : Nat) : FaultRec :=
  let r := (s.runningOn p).head?.bind (s.recOf? (dieOf p))
  let of (f : TaskRec → Nat) : Nat := (r.map f).getD 0
  { kind := 0x0E, engine := 8, place := p, asid := (s.core p).asid, entry := 31
    detail := detail [(36, 1, 9), (37, 1, dieOf p), (40, 8, of (·.wid)), (48, 2, of (·.gang)), (50, 3, of (·.rid)), (53, 3, by_),
      (56, 8, of (·.code))] }

/-- A target that is no core of the chip: the scheduler of the issuing core's die sends a fault that names that core. -/
def State.badTarget (s : State) (place : Nat) : State :=
  s.sendRecord { kind := 0x0E, engine := 8, place := place, asid := (s.core place).asid, entry := 31
                 detail := detail [(36, 1, 3), (37, 1, dieOf place)] }

/-- A `thaw` of a core; one that waits to be evicted still does. -/
def State.thawAt (s : State) (p : Nat) : State :=
  let c := s.core p
  (s.thawCore p).modCore p (fun x => if c.life = .frozen ∨ c.life = .sealed then { x with evict := c.evict } else x)

/-! ## Requests (R434, R462) -/

/-- A request reaches its scheduler, the directory or the fork unit, which performs it and answers. -/
def State.schedRequest (s : State) (place act tag entry asid : Nat) (r : SchedReq) : State :=
  let answer (s : State) (d v : Nat) : State := s.schedReply d place act tag v
  match r with
  | .spawn h =>
    let (s, code, _) := s.enqueue h.die (Sys2Proof.Machine.recOf h asid) (some (place, entry))
    answer s h.die (code * 2 ^ 60)
  | .gang h hold =>
    let (s, code, _) := s.newGang h asid hold
    answer s 0 (code * 2 ^ 60)
  | .fork h w =>
    let (s, v) := s.newFork place h w
    answer s (dieOf place) v
  | .join n => s.joinAt place act tag n
  | .evict t area => s.evictAt place act tag t area
  | .rstr t a csize area code =>
    let (s, n) := s.rstrAt t a csize area code
    answer s (dieOf place) (n * 2 ^ 60)
  | .sealReq t => if s.isCore t then s.sealCore t (some (s.sealRecord t place)) else s.badTarget place
  | .thaw t => if s.isCore t then s.thawAt t else s.badTarget place

/-- Whether an earlier message between the same two schedulers still waits to be sent again: steal messages keep their order
(R438). -/
def State.stealBehind (s : State) (p : Pkt) : Bool :=
  match p.msg with
  | .steal .. => s.timers.any (fun t => match t.2 with
    | .schedulerMessageResend k _ =>
      (match k.msg with | .steal .. => true | _ => false) && k.src == p.src && k.dst == p.dst && decide (k.id < p.id)
    | _ => false)
  | _ => false

/-- The chip that a packet is bound for. -/
def pktChip (k : Pkt) : Nat := if k.dkind = 1 then k.dst / 8 else chipOf k.dst

/-- What becomes of a message whose sender has had its 1,024th retry reply (R459): a scheduler's command has code 3 (Table 13.8), a region
command fails as one whose controller is not reached (R332), a gang gets no core, and a LAUNCH has failed. -/
def State.outOfTries (s : State) (p : Pkt) : State :=
  match p.msg with
  | .sched place act tag _ _ _ => s.schedAnswered place act tag (3 * 2 ^ 60)
  | .region c =>
    let s := s.regFault (proxyCtl c.place) c 1 0 0
    s.send s.dirName 3 c.place 0 c.asid (.regAck c.place c.act c.seq (if c.window then some (winWord 1 0 0 0 0) else some noRegion))
  | .gang q n (.reserve ..) => s.gangHeard q n .denied
  | .handoff d rcd (.host f) => s.send (s.schedName d) 3 s.dirName 3 rcd.asid (.launched f 3 0)
  | _ => s

/-- A message that a down scheduler answered with a retry reply is sent again every 1 µs up to the limit (R435, R459); so is a packet that
the Autumn die could not let over a link (R486), from its source where that is on this chip. -/
def execSchedulerMessageResend (p : Pkt) (tries : Nat) (s : State) : Host.Outcome State Fault Refusal :=
  if pktChip p ≠ s.chip then .next (({ s with pktNo := s.pktNo + 1 }).inject { p with id := s.pktNo, tries := tries, age := 0 })
  else if s.stealBehind p then .next (s.after us (.schedulerMessageResend p tries))
  else if !(s.sched (dieOf p.dst)).down then .next (s.post (.deliver p))
  else if tries + 1 < 1024 then .next (s.after us (.schedulerMessageResend p (tries + 1)))
  else .next (s.outOfTries p)

/-! ## Instructions (R467, R468) -/

/-- `rpl` has the effect of R225: every slice writes back and drops what it holds, every core raises its epoch and sends its
parked accesses and segments again. -/
def State.rplAll (s : State) : State :=
  let s := (s.slices.map (·.1)).foldl (fun s h => s.flushSlice h) s
  let s := (s.cores.map (·.1)).foldl (fun s p => ((s.replayCore p).modCore p Core.forgetSegments).replaySegments p) s
  { s with rpls := s.rpls + 1 }

/-- A message that carries what an earlier translation gave: a store, or a byte of an access that is not aligned, whose pages have been
translated (R197, R214), or a unit of a segment that has been (R293). -/
def carriesXlate : Msg → Bool
  | .access _ r => r.op == .commit || r.op == .read
  | .copyUnit u => u.wcn.isNone && (match u.dst with | .glob _ => true | _ => false)
  | .getReq g => match g.src with | .glob _ => true | _ => false
  | _ => false

/-- Whether anything that an earlier translation has let go is still under way. -/
def State.underWay (s : State) : Bool :=
  s.net.any (fun t => carriesXlate t.pkt.msg) ||
    s.agenda.any (fun e => match e with
      | .deliver k => carriesXlate k.msg
      | .sliceAccess _ r => r.op == .commit || r.op == .read
      | .copyUnitArrival u => (match u.dst with | .glob _ => true | _ => false)
      | .copyGetRequestArrival g => (match g.src with | .glob _ => true | _ => false)
      | _ => false) ||
    s.cores.any (fun x => match x.2.pair with
      | some y => y.mine.any (fun h => match h.pkt with | some k => carriesXlate k.msg | none => false)
      | none => false)

/-- The `rpl` that issued first completes: what was translated before it has been performed (R222, R226), so every slice finishes, and its
stream goes on (R225, R467). -/
def State.replayTurn (s : State) : State :=
  match s.rpling with
  | [] => s
  | (p, act, tag) :: r => if s.underWay then s else (({ s with rpling := r }).rplAll).deliver p act tag 0

/-- `rpl` holds the access stream until it is complete (R467): at once, where nothing that was translated earlier is under way. While one
waits, nothing more leaves under a translation made before it. -/
def execRpl (s : State) : Host.Outcome State Fault Refusal :=
  if s.rpling.isEmpty && !s.underWay then issue s { st := .a, priv := true } (fun i => (s.withAct i.core i.act).rplAll)
  else issue s { st := .a, priv := true, hold := some false } (fun i =>
    { s.withAct i.core i.act with rpling := s.rpling ++ [(s.who, i.act.id, i.tag)] })

/-- `seal` and `thaw`: the request leaves at issue, or behind the messages that wait in the core (R449). -/
def sealOrThaw (s : State) (op : Instr) (a : Reg) (f : Nat → SchedReq) : Host.Outcome State Fault Refusal :=
  issue s { st := .a, srcs := [a], priv := true } (fun i =>
    let seq := i.core.scSeq + 1
    let t := (v1 i.vals).toNat % 2 ^ 20
    if i.core.schedBehind then
      s.withAct { i.core with scSeq := seq, schedOut := i.core.schedOut ++ [{ cmd := i.cmd op seq false }] } i.act
    else
      (s.withAct { i.core with scSeq := seq } i.act).send s.who 0 (s.schedName (dieOf s.who)) 3 i.core.asid
        (.sched s.who i.act.id 0 seq i.act.ent (f t)))

def execSealCore (a : Reg) (s : State) : Host.Outcome State Fault Refusal := sealOrThaw s (.sealCore a) a .sealReq

def execThaw (a : Reg) (s : State) : Host.Outcome State Fault Refusal := sealOrThaw s (.thaw a) a .thaw

/-- An instruction with a descriptor, of service privilege. -/
def descriptorWord (s : State) (op : Instr) (d a : Reg) : Host.Outcome State Fault Refusal :=
  issue s { st := .a, srcs := [a], dst := .later d false, priv := true } (fun i =>
    let n := (v1 i.vals).toNat
    let seq := i.core.scSeq + 1
    if lsSize .sp < n + 32 then s.rangeFault s.who i.old .a 8 seq 1 n
    else s.withAct { i.core with scSeq := seq, schedOut := i.core.schedOut ++ [{ cmd := i.cmd op seq true }] } i.act)

def execEvict (d a : Reg) (s : State) : Host.Outcome State Fault Refusal := descriptorWord s (.evict d a) d a

def execRstr (d a : Reg) (s : State) : Host.Outcome State Fault Refusal := descriptorWord s (.rstr d a) d a

/-! ## Pairs (R449 to R452) -/

/-- The record of a core of a pair that has diverged (R452). -/
def pairRecord (p other asid cause engine num : Nat) (hp hq : BitVec 64) : FaultRec :=
  { kind := 0x10, engine := 9, place := p, asid := asid, entry := 31
    detail := detail [(36, 1, cause), (37, 3, other), (40, 1, engine), (44, 4, num), (48, 8, hp.toNat), (56, 8, hq.toNat)] }

/-- The pair of a primary has diverged: both cores are sealed, and the record is restarted on a pair without them (R451). -/
def State.diverge (s : State) (p cause engine num : Nat) (hp hq : BitVec 64) : State :=
  match (s.core p).pair with
  | none => s
  | some x =>
    let q := x.other
    let s := s.modRec x.die x.rid (fun r => { r with avoid := r.avoid ++ [p, q] })
    let s := s.sealCore p (some (pairRecord p q (s.core p).asid cause engine num hp hq))
    let s := s.sealCore q (some (pairRecord q p (s.core q).asid cause engine num hp hq))
    (s.unpair p).unpair q

/-- The shadow's hash reaches the primary's router: with an equal one of its own, the held packet goes; else the pair has
diverged. -/
def execPairedHashArrival (p engine num : Nat) (h : BitVec 64) (s : State) : Host.Outcome State Fault Refusal :=
  let c := s.core p
  match c.pair with
  | none => .next s
  | some x =>
    match x.mine.find? (fun y => y.engine == engine && y.num == num) with
    | some y =>
      if y.hash = h then
        let z : Pair := { x with mine := x.mine.filter (· != y) }
        let s := { s.setCore p { c with pair := some z } with
          timers := s.timers.filter (fun t => t.2 != .pairedHashTimeout p engine num) }
        .next (match y.pkt with | some k => s.inject k | none => s)
      else .next (s.diverge p 1 engine num y.hash h)
    | none =>
      let z : Pair := { x with theirs := x.theirs ++ [{ engine := engine, num := num, hash := h }] }
      .next ((s.setCore p { c with pair := some z }).after (65536 * fabricCycle) (.pairedHashTimeout p engine num))

/-- A hash has waited too long for the other's. -/
def execPairedHashTimeout (p engine num : Nat) (s : State) : Host.Outcome State Fault Refusal :=
  match (s.core p).pair with
  | none => .next s
  | some x =>
    let at_ (l : List PairHash) : Option PairHash := l.find? (fun y => y.engine == engine && y.num == num)
    match at_ x.mine, at_ x.theirs with
    | some y, _ => .next (s.diverge p 2 engine num y.hash 0)
    | none, some y => .next (s.diverge p 2 engine num 0 y.hash)
    | none, none => .next s

/-- One core of a pair is frozen and the other has not frozen in the same way. -/
def execPairedFreezeTimeout (p : Nat) (s : State) : Host.Outcome State Fault Refusal :=
  match (s.core p).pair with
  | none => .next s
  | some x =>
    let y := (s.core x.other).pair.bind (·.frozen)
    if x.frozen = y then .next s else .next (s.diverge p 3 0 0 0 0)

end Sys2Proof.Machine
end

