-- ==== Sys2Proof/Machine/Fabric.lean ====
section
/-! DEFINITION. The Gridripor fabric (01): routing, arbitration by age, malformed packets and names that are not reached,
what the router at a core answers, delivery to slices, controllers and schedulers, and the chip links (14). -/

namespace Sys2Proof.Machine

open Sys2Proof

/-! ## Routes (R29, R486) -/

/-- The die of a node; 4 is the Autumn die. -/
def nodeDie (n : Nat) : Nat := if n < 16 then 4 else (n - 16) / 768

def nodeRow (n : Nat) : Nat := (n - 16) % 768 / 32

def nodeCol (n : Nat) : Nat := (n - 16) % 32

/-- The router of a die at which a bridge attaches: 0 to the next die of the ring, 1 to the one before, 2 to the Autumn
die. -/
def bridgeNode (die k : Nat) : Nat := edgeNode die 4 (3 * die + k)

/-- Outputs of a mesh router: 1 west, 2 east, 3 north, 4 south, 5 to 7 its bridges, 9 what attaches to it. The first along the
row to a router's column, then along the column. -/
def towards (n t : Nat) : Nat :=
  if nodeCol n < nodeCol t then 2 else if nodeCol t < nodeCol n then 1
  else if nodeRow n < nodeRow t then 4 else if nodeRow t < nodeRow n then 3 else 9

/-- The link towards a chip. -/
def State.linkFor (s : State) (chip : Nat) : Option Nat := (s.routes.find? (fun x => x.1 == chip)).map (·.2)

/-- The bridge of a die on the way to another die; the ring is crossed the shorter way round. -/
def bridgeTo (d t : Nat) : Nat := if t = 4 then 2 else if (t + 4 - d) % 4 = 3 then 1 else 0

/-- The output of a node for a packet. The Autumn die's outputs are its bridges 0 to 3, its links from 10 on, and 9. -/
def State.route (s : State) (n : Nat) (k : Pkt) : Nat :=
  let t := s.attach k.dkind k.dst
  if nodeDie n = 4 then
    if pktChip k ≠ s.chip then 10 + (s.linkFor (pktChip k)).getD 0
    else if t = 4 then 9 else nodeDie t
  else if nodeDie t = nodeDie n then towards n t
  else
    let b := bridgeTo (nodeDie n) (nodeDie t)
    if n = bridgeNode (nodeDie n) b then 5 + b else towards n (bridgeNode (nodeDie n) b)

/-- The node and input that an output leads to. -/
def hop (n out : Nat) : Nat × Nat :=
  let d := nodeDie n
  if d = 4 then (bridgeNode out 2, 7)
  else match out with
    | 1 => (n - 1, 2)
    | 2 => (n + 1, 1)
    | 3 => (n - 32, 4)
    | 4 => (n + 32, 3)
    | 5 => (bridgeNode ((d + 1) % 4) 1, 6)
    | 6 => (bridgeNode ((d + 3) % 4) 0, 5)
    | _ => (4, 1 + d)

/-! ## Refusals (R20, R24) -/

/-- A reserved `sub` of a channel message, a capsule or a scheduler message (R273, R407, R434). -/
def reservedSub : Msg → Bool
  | .chan m => match m.sub with | .reserved _ => true | _ => false
  | .capsule c => decide (1 < c.sub)
  | .schedReserved _ => true
  | _ => false

/-- A malformed packet: a reserved class, network or `sub`, a length out of range, or a name that fails R20 or R21 (R24). -/
def pktBad (t : Transit) : Bool :=
  let k := t.pkt
  reservedSub k.msg ||
  decide (16 < k.cls) || decide (2 < k.vnet) || k.len == 0 || decide (65 < k.len) ||
    (k.dkind == 0 && decide (192 ≤ coreOf k.dst)) || (k.skind == 0 && decide (192 ≤ coreOf k.src)) ||
    (k.dkind == 1 && decide (2 ^ 11 ≤ k.dst)) || (k.skind == 1 && decide (2 ^ 11 ≤ k.src)) || (t.node == 4 && decide (5 ≤ t.inp) && decide (k.cls ≤ 2) && k.cls != 1)

/-- A name that no link path reaches, found at the Autumn die (R20, R486). -/
def State.unreached (s : State) (t : Transit) : Bool := t.node == 4 && !s.reached (pktChip t.pkt)

/-- What a sender learns of a packet whose destination does not exist, by the table of R20. -/
def State.refusePkt (s : State) (node : Nat) (k : Pkt) : State :=
  let me := if nodeDie node = 4 then s.dirName else s.schedName (nodeDie node)
  let back (s : State) (p kind : Nat) (m : Msg) : State := s.sendRefusal me 3 p kind k.asid m
  let bare : State := if k.skind = 0 ∧ coreOf k.src < 192 ∧ s.reached (chipOf k.src) = true then back s k.src 0 (.refusal k.src) else s
  if reservedSub k.msg then bare
  else match k.msg with
  | .copyUnit u =>
    back s u.place 0 (.copyRefusal { place := u.place, ctx := u.ctx, off := u.off, cls := 3, cause := 2, far := sideWord u.dst, by_ := u.by_ })
  | .getReq g =>
    back s g.place 0 (.copyRefusal { place := g.place, ctx := g.ctx, off := g.off, cls := 3, cause := 2, far := sideWord g.src, by_ := g.by_ })
  | .chan m =>
    let r : ChanMsg := { chanMsg .answer with src := m.dst, skind := m.dkind, sep := m.dep, dst := m.src, dkind := m.skind
                                              dep := m.sep, asid := m.asid, cmd := m.cmd, conn := m.conn }
    match m.sub with
    | .request => back s m.src m.skind (.chan { r with code := 1 })
    | .answer | .redirectAck => bare
    | _ => if m.bia = 1 then bare else back s m.src m.skind (.chan { r with sub := .errorNotice, code := 18, bia := 1 })
  | .post m => back s m.src 0 (.postAns m.src m.act m.tag m.seq 8 m.dep)
  | .capsule c => back s c.sender 0 (.capRefused c)
  | .region c =>
    let s := if s.isCore c.place then s.regFault (proxyCtl c.place) c 1 0 0 else s
    back s c.place 0 (.regAck c.place c.act c.seq (if c.window then some (winWord 1 0 0 0 0) else some noRegion))
  | .action _ (.wake _ _ ctl idx) => back s ctl 1 (.actionAns (ctl % 8) idx .refused)
  | .genAdv _ _ ctl idx => back s ctl 1 (.actionAns (ctl % 8) idx .refused)
  | .handoff _ _ (.region ctl idx) => back s ctl 1 (.actionAns (ctl % 8) idx .refused)
  | _ => bare

/-- Whether a packet has a sender that sends it again by a rule of its own, and what that sender learns: the retry reply of R459. -/
def State.retryPkt (s : State) (src kind : Nat) (k : Pkt) : Option State :=
  let back (p pk : Nat) (m : Msg) : Option State := some (s.send src kind p pk k.asid m)
  match k.msg with
  | .copyUnit u => back u.place 0 (.copyRetry (.unit u))
  | .getReq g => back g.place 0 (.copyRetry (.get g))
  | .chan m => if m.sub = .answer then none else some (s.chanRetry m)
  | .post m => back m.src 0 (.postAns m.src m.act m.tag m.seq 2 m.dep)
  | .capsule c => back c.sender 0 (.capRetry c)
  | .action _ (.wake _ _ ctl idx) => back ctl 1 (.actionAns (ctl % 8) idx .retry)
  | .genAdv _ _ ctl idx => back ctl 1 (.actionAns (ctl % 8) idx .retry)
  | .handoff _ _ (.region ctl idx) => back ctl 1 (.actionAns (ctl % 8) idx .retry)
  | _ => none

/-- The Autumn die's retry reply to a packet bound over a link that is retraining or has failed (R486). DESIGN CHOICE: where no rule of the
sender's says how it repeats, it sends the packet again after 1 µs (R459); that reply's own way back is not modelled. -/
def State.linkBusy (s : State) (k : Pkt) : State :=
  match s.retryPkt s.dirName 3 k with
  | some s => s
  | none => if 1024 ≤ k.tries + 1 then s.outOfTries k else s.after us (.schedulerMessageResend k (k.tries + 1))

/-! ## Routers (R24 to R27) -/

/-- The age of a packet that waits: it has risen by 1 for every 32 fabric cycles at its router, and saturates (R25). -/
def State.ageOf (s : State) (t : Transit) : Nat := min 4095 (t.pkt.age + ((s.now - t.since) / (32 * fabricCycle) - t.ticks))

def State.dropTransit (s : State) (id : Nat) : State := { s with net := s.net.filter (fun t => t.pkt.id != id) }

/-- The waiting header's age rises by one for 32 fabric cycles of its waiting. -/
def execAgeTick (id : Nat) (s : State) : Host.Outcome State Fault Refusal :=
  .next { s with net := s.net.map (fun t =>
    if t.pkt.id = id ∧ t.ticks < (s.now - t.since) / (32 * fabricCycle) then
      { t with pkt := { t.pkt with age := min 4095 (t.pkt.age + 1) }, ticks := t.ticks + 1 }
    else t) }

/-- Whether an earlier packet of the same input and virtual network still arrives there. -/
def State.behind (s : State) (t : Transit) : Bool :=
  (s.net.takeWhile (fun x => x.pkt.id != t.pkt.id)).any (fun x =>
    x.node == t.node && x.inp == t.inp && x.pkt.vnet == t.pkt.vnet && x.out.isNone)

/-- A router receives a packet: it discards one that is malformed or bound for no place, answers one whose link is down, or
routes it (R20, R24, R486). -/
def execPacketReceive (id : Nat) (s : State) : Host.Outcome State Fault Refusal :=
  match s.net.find? (fun t => t.pkt.id == id && t.out.isNone) with
  | none => .next s
  | some t =>
    if s.behind t then .next s
    else if pktBad t then
      let s := (s.dropTransit id).fabricError (nodeDie t.node)
      .next (if t.pkt.skind = 0 ∨ t.pkt.dkind = 0 then s.refusePkt t.node t.pkt else s)
    else if s.unreached t then .next (((s.dropTransit id).fabricError 4).refusePkt t.node t.pkt)
    else
      let out := s.route t.node t.pkt
      if 10 ≤ out ∧ (s.link (out - 10)).st ≠ .up then .next ((s.dropTransit id).linkBusy t.pkt)
      else .next { s with net := s.net.map (fun x => if x.pkt.id = id then { x with out := some out } else x) }

/-- The header flits that wait for an output: the first of each input and virtual network. -/
def State.waiting (s : State) (node out : Nat) : List Transit :=
  let l := s.net.filter (fun t => t.node == node && t.out == some out)
  l.filter (fun t => (l.find? (fun x => x.inp == t.inp && x.pkt.vnet == t.pkt.vnet)).map (·.pkt.id) == some t.pkt.id)

def State.losses (s : State) (node out inp : Nat) : Nat := mget (mget s.arbs (node * 64 + out) []) inp 0

/-- The order of a router's arbiter (R26): the greatest age, then the highest loss count, then the lowest input. -/
def State.arbBefore (s : State) (node out : Nat) (x y : Transit) : Bool :=
  let n (t : Transit) : Nat := s.losses node out t.inp
  if s.ageOf x ≠ s.ageOf y then decide (s.ageOf y < s.ageOf x)
  else if n x ≠ n y then decide (n y < n x) else decide (x.inp < y.inp)

/-- The loss counts after a grant. -/
def State.countLosses (s : State) (node out : Nat) (ws : List Transit) (won : Nat) : State :=
  let a := mget s.arbs (node * 64 + out) []
  let ins := (ws.map (·.inp)).eraseDups
  let a := ins.foldl (fun a i => mset a i (if i = won then 0 else min 255 (mget a i 0 + 1))) a
  { s with arbs := mset s.arbs (node * 64 + out) a }

/-! ## The router at a core (R30, Table 01.7) -/

/-- Replies to a core's own requests. DESIGN CHOICE: R281 does not say what meets an error notice that a sealed core's router or a lost stub
sends of its own accord, or a redirect's acknowledgement, at a core that is being evicted or frozen: they are delivered as replies are, and
answered by no retry reply and no close notice. -/
def isReply : Msg → Bool
  | .reply _ | .postAns .. | .getData _ | .xlReply _ | .copyRefusal _ | .copyRetry _ | .putAck .. | .echo .. | .capRetry _
  | .capRefused _ | .regAck .. | .schedAns .. | .tableQuery .. | .hash .. | .service _ | .refusal _ => true
  | .chan m => m.sub == .answer || m.sub == .redirectAck || (m.bia == 1 && m.sub != .request)
  | _ => false

/-- Runs an event's meaning within a step of the fabric. -/
def State.does (s : State) (e : Host.Outcome State Fault Refusal) : State := stateOf e s

/-- A message of a channel reaches its endpoint. -/
def State.chanTo (s : State) (m : ChanMsg) : State :=
  match m.sub with
  | .request => s.does (execConnectionRequestArrival m s)
  | .answer => s.does (execConnectionAnswerArrival m s)
  | .data | .label => s.does (execChannelMessageArrival m s)
  | .endp => s.does (execEndpointMessageArrival m s)
  | .close => s.does (execCloseNoticeArrival m s)
  | .errorNotice => s.does (execErrorNoticeArrival m s)
  | .redirect => s.does (execRedirectArrival m s)
  | .redirectAck => s.does (execRedirectAckArrival m s)
  | .stubEnd => s.does (execStubEndArrival m s)
  | .forwarded _ => s.does (execForwardedMessageArrival m s)
  | .reserved _ => s.fabricError (dieOf m.dst)
  | .adopterName => s.does (execAdopterNameArrival m s)

/-- A reply reaches its core. -/
def State.replyTo (s : State) (m : Msg) : State :=
  match m with
  | .reply r =>
    match r.res, r.req.op with
    | .fault .., _ => s.does (execPageFaultReply r s)
    | .translated, .commit => s.does (execStoreAck r s)
    | _, _ => s.does (execGlobalReply r s)
  | .postAns p a t q c _ => s.does (execPostAnswerArrival p a t q c s)
  | .getData d => s.does (execCopyGetDataArrival d s)
  | .xlReply r => s.does (execCopySegmentTranslation r s)
  | .copyRefusal r => s.does (execCopyRefusalArrival r s)
  | .copyRetry m => s.copyRetried m
  | .putAck p k n => s.does (execPutAckArrival p k n s)
  | .echo p k n => s.does (execEchoRaise p k n s)
  | .capRetry c => s.does (execCapsuleRetryReply c s)
  | .capRefused c => (s.capTaken c).undeliverable c.sender c 5
  | .regAck p a q v => s.does (execRegionCommandAcknowledgement p a q v s)
  | .schedAns p a t v => s.schedAnswered p a t v
  | .tableQuery p d r => s.does (execTaskTableQuery p d r s)
  | .hash p e n h => s.does (execPairedHashArrival p e n h s)
  | .service m => s.does (execServiceMessageArrival m s)
  | .chan m => s.chanTo m
  | _ => s

/-- The refusal that ends the sender's command, by the state of the core (Tables 01.7, 07.5, 07.14, 08.12). -/
def State.refuseAt (s : State) (p : Nat) (life : Life) (k : Pkt) : State :=
  let cause := if life = .frozen then 1 else if life = .sealed then 2 else 3
  match k.msg with
  | .copyUnit u =>
    s.refuseCopy p 0 u.place u.asid { place := u.place, ctx := u.ctx, off := u.off, cls := 2, cause := cause, far := sideAddr u.dst, by_ := u.by_ }
  | .getReq g =>
    s.refuseCopy p 0 g.place g.asid { place := g.place, ctx := g.ctx, off := g.off, cls := 2, cause := cause, far := sideAddr g.src, by_ := g.by_ }
  | .post m =>
    s.send p 0 m.src 0 m.asid (.postAns m.src m.act m.tag m.seq (if life = .frozen then 4 else if life = .sealed then 5 else 7) m.dep)
  | .chan m =>
    let r : ChanMsg := { chanMsg .answer with src := m.dst, sep := m.dep, dst := m.src, dkind := m.skind, dep := m.sep
                                              asid := m.asid, cmd := m.cmd, conn := m.conn }
    let back (r : ChanMsg) : State := s.send p 0 m.src m.skind m.asid (.chan r)
    match m.sub with
    | .request => back { r with code := if life = .evicting then 8 else if life = .frozen then 6 else if life = .sealed then 7 else 9 }
    | _ =>
      if life = .sealed then back { r with sub := .errorNotice, code := 18, bia := 1 }
      else back { r with sub := .close, code := if life = .frozen then 17 else 19, bia := 1 }
  | .action _ (.wake _ _ ctl idx) => s.send p 0 ctl 1 k.asid (.actionAns (ctl % 8) idx .refused)
  | .genAdv _ _ ctl idx => s.send p 0 ctl 1 k.asid (.actionAns (ctl % 8) idx .refused)
  | _ => s

/-- Traffic that the core takes. -/
def State.takeAt (s : State) (p : Nat) (k : Pkt) : State :=
  match k.msg with
  | .copyUnit u =>
    if u.wcn.isSome ∧ u.checked = false then s.does (execWindowPutCheck u s) else s.does (execCopyUnitArrival u s)
  | .getReq g => s.does (execCopyGetRequestArrival g s)
  | .post m => s.does (execPostArrival m s)
  | .chan m => s.chanTo m
  | .action _ w => s.does (execEntryMark p w s)
  | .genAdv q a ctl idx => s.does (execGenerationAdvance q a ctl idx s)
  | _ => s

/-- A connection request, which a core that is being evicted answers with code 8 (R243, R281). -/
def isRequest : Msg → Bool
  | .chan m => m.sub == .request
  | _ => false

/-- A unit of a window put that is yet to be checked: its window decides, whatever ASID a core that holds a tenant runs (R294, R336); a vacant
core has no window, and its row of Table 01.7 answers (R30). -/
def windowUnit : Msg → Bool
  | .copyUnit u => u.wcn.isSome && !u.checked
  | _ => false

/-- The router's answer for a core in a state of life. A core whose cluster is being reset answers as one being evicted
(R495), and so does a shadow (R450). Capsules, words that mark entries, and dispatches meet the state in their own rules; what a capsule's
sender hears of it reaches a sealed core's router too, whose egress buffer goes on (R409, R423). -/
def State.answerAt (s : State) (p : Nat) (life : Life) (k : Pkt) : State :=
  let held (f : State → State) : State :=
    let was := (s.core p).life
    if life = was then f s else (f (s.modCore p (fun c => { c with life := life }))).modCore p (fun c => { c with life := was })
  if isReply k.msg then
    match k.msg with
    | .hash .. => s.replyTo k.msg
    | .service _ => held (fun s => s.replyTo k.msg)
    | .tableQuery .. => s.replyTo k.msg
    | .putAck .. | .echo .. => held (fun s => s.replyTo k.msg)
    | .capRetry _ | .capRefused _ => s.replyTo k.msg
    | _ => if life = .sealed then s else s.replyTo k.msg
  else
    match k.msg with
    | .capsule c => held (fun s => s.does (execCapsuleArrival p c s))
    | .child q w => held (fun s => s.does (execEntryMark q (.child w) s))
    | .dispatch q e r => held (fun s => s.does (execDispatchArrival q e r s))
    | _ =>
      match life with
      | .evicting => if isRequest k.msg then s.refuseAt p life k else (s.retryPkt p 0 k).getD s
      | .frozen | .sealed => s.refuseAt p life k
      | _ => if (s.core p).runs k.asid || (windowUnit k.msg && (s.core p).life != .vacant) then s.takeAt p k else s.refuseAt p life k

/-- The state in which a core's router answers. -/
def State.lifeAt (s : State) (p : Nat) (k : Pkt) : Life :=
  let c := s.core p
  let shadow : Bool := match c.pair with | some x => !x.primary | none => false
  if s.resetting.contains (clusOf p) ∨ (shadow = true ∧ isReply k.msg = false) then .evicting else c.life

/-! ## Copies to a shadow (R450) -/

/-- Traffic of a primary, named for its shadow. -/
def retarget (q : Nat) (m : Msg) : Msg :=
  match m with
  | .reply r => .reply { r with req := { r.req with place := q } }
  | .chan m => .chan { m with dst := q, cmd := if m.sub = .answer ∨ m.bia = 1 then m.cmd else 0 }
  | .post m => .post { m with dst := q }
  | .postAns _ a t n c e => .postAns q a t n c e
  | .copyUnit u =>
    .copyUnit { u with wcn := none, echo := none, dst := match u.dst with | .core _ a => .core q a | d => d }
  | .xlReply r => .xlReply { r with place := q }
  | .copyRefusal r => .copyRefusal { r with place := q }
  | .copyRetry (.unit u) => .copyRetry (.unit { u with place := q })
  | .copyRetry (.get g) => .copyRetry (.get { g with place := q })
  | .putAck _ k n => .putAck q k n
  | .echo _ k n => .echo q k n
  | .capRetry c => .capRetry { c with sender := q }
  | .capRefused c => .capRefused { c with sender := q }
  | .regAck _ a n v => .regAck q a n v
  | .action _ w => .action q w
  | .genAdv _ a ctl i => .genAdv q a ctl i
  | .dispatch _ e r => .dispatch q e r
  | .child _ w => .child q w
  | .schedAns _ a t v => .schedAns q a t v
  | .service m => .service { m with dst := q }
  | m => m

/-- Whether traffic of a primary is copied: not the replies to what its shadow asks for itself. -/
def copied : Msg → Bool
  | .reply r => match r.req.op with | .commit | .amo _ | .cas => true | _ => false
  | .getData _ | .xlReply _ | .getReq _ | .hash .. | .tableQuery .. => false
  | _ => true

/-- The answers of a router that turn traffic away. -/
def turnsAway : Msg → Bool
  | .copyRefusal _ | .copyRetry _ | .capRetry _ => true
  | .postAns _ _ _ _ c _ => c != 0
  | .actionAns _ _ a => a != .accepted
  | .dispatchAns _ _ ok => !ok
  | .chan m => (m.sub == .close || m.sub == .errorNotice) && m.bia == 1
  | _ => false

/-- Whether a step has taken what arrived: it turned nothing away. -/
def State.took (s t : State) : Bool :=
  let n := s.net.length
  let m := s.timers.length
  (t.net.drop n).all (fun x => !turnsAway x.pkt.msg) &&
    (t.timers.drop m).all (fun x => match x.2 with | .channelRetryResend _ | .continuationResend .. => false | _ => true)

/-- Traffic that a primary has taken is applied to its shadow, which answers nothing; a shadow that does not take it has
diverged (R450, R451). -/
def execPairedInputCopy (q : Nat) (p : Pkt) (s : State) : Host.Outcome State Fault Refusal :=
  match (s.core q).pair with
  | none => .next s
  | some x =>
    let m := retarget q p.msg
    let c := s.core q
    let lacks : Bool := match m with
      | .service m => (match c.svcEntry m.kind with | some k => 4 ≤ c.inbox.length || 65535 ≤ c.hdl[k].pend | none => true)
      | _ => false
    let t := match m with
      | .service m => s.modCore q (fun c => match c.svcEntry m.kind with
        | some k => { c with inbox := c.inbox ++ [m] }.mark k none s.now
        | none => c)
      | _ => s.answerAt q c.life { p with dst := q, msg := m }
    let t := match m with
      | .copyUnit u =>
        match u.dst with
        | .core _ a => (s.modCore q (fun c => c.put .sp a u.bytes)).postRaise q u.swa u.bytes.length
        | _ => s
      | _ => t
    if !lacks && s.took t then
      .next { t with net := s.net ++ (t.net.drop s.net.length).filter (fun y => match y.pkt.msg with
        | .service _ => true | .hash .. => true | _ => decide (y.pkt.src = q ∧ y.pkt.skind = 0 ∧ isReply p.msg = true)) }
    else .next (s.diverge x.other 1 0 0 0 0)

/-- The router at a core answers what has arrived, and hands a primary's traffic to its shadow's router. -/
def execCoreRouterAnswer (p : Pkt) (s : State) : Host.Outcome State Fault Refusal :=
  let c := p.dst
  let t := s.answerAt c (s.lifeAt c p) p
  match s.shadowOf c with
  | some q => if copied p.msg && s.took t then .next (t.post (.pairedInputCopy q p)) else .next t
  | none => .next t

/-! ## Delivery (R21, R22) -/

/-- A far side on this chip that another chip has named is translated at its home slice; it does not park (R318). -/
def State.foreign (s : State) (asid va : Nat) (write : Bool) : State × Except (Nat × Nat) (Nat × Bool × Bool) :=
  let h := homeSlice asid va
  match s.translate h asid va write write with
  | (s, .fault k _ _) => (s, .error (1, k))
  | (s, .error pa) => (s.memError none 0 va pa, .error (4, 1))
  | (s, .nokey _) => (s, .error (4, 1))
  | (s, .ok pa e) => (s, .ok (pa, leafUc e, leafPois e))

/-- Traffic at a slice. -/
def State.sliceTakes (s : State) (k : Pkt) : State :=
  match k.msg with
  | .access h r => s.does (execSliceAccess (h % 128) r s)
  | .copyUnit u =>
    match u.dst with
    | .chipGlob _ va =>
      let v := { u with dst := .glob va }
      if u.wcn.isSome then s.does (execWindowPutCheck v s)
      else
        match s.foreign u.asid va true with
        | (s, .ok (pa, uc, _)) => s.does (execCopyUnitArrival { v with pa := pa, uc := uc } s)
        | (s, .error (cls, cause)) =>
          s.refuseCopy k.dst 2 u.place u.asid { place := u.place, ctx := u.ctx, off := u.off, cls := cls, cause := cause, far := va, by_ := u.by_ }
    | _ =>
      if u.wcn.isSome ∧ u.checked = false then s.does (execWindowPutCheck u s) else s.does (execCopyUnitArrival u s)
  | .getReq g =>
    match g.src with
    | .chipGlob _ va =>
      match s.foreign g.asid va false with
      | (s, .ok (pa, uc, pois)) => s.does (execCopyGetRequestArrival { g with src := .glob va, pa := pa, uc := uc, pois := pois } s)
      | (s, .error (cls, cause)) =>
        s.refuseCopy k.dst 2 g.place g.asid { place := g.place, ctx := g.ctx, off := g.off, cls := cls, cause := cause, far := va, by_ := g.by_ }
    | _ => s.does (execCopyGetRequestArrival g s)
  | _ => s

/-- A message between schedulers. -/
def State.stealTo (s : State) (d e : Nat) (m : StealMsg) : State :=
  match m with
  | .request ps => s.post (.stealRequestArrival d e ps)
  | .none => s
  | .record r => s.post (.stolenRecordArrival d e r)
  | .ack t => s.post (.stealAckArrival d e t)
  | .confirm t => s.post (.confirmationArrival d e t)
  | .revoke t => s.post (.revocationArrival d e t)
  | .taken t => s.post (.takenArrival d e t)
  | .lentQuery t => s.post (.lentQueryArrival d e t)
  | .held t => s.post (.heldAnswerArrival d e t)
  | .unknown t => s.post (.unknownAnswerArrival d e t)
  | .heldQuery t => s.post (.heldQueryArrival d e t)

/-- The scheduler's part of a gang's reservation (R441): it keeps a free eligible core for the directory, or lets it go. -/
def State.gangAsked (s : State) (p epoch : Nat) (m : GangMsg) : State :=
  let d := dieOf p
  let x := s.sched d
  let answer (s : State) (a : GangMsg) : State := s.send (s.schedName d) 3 s.dirName 3 0 (.gang p epoch a)
  match m with
  | .reserve asid code =>
    let c := s.core p
    if s.freeCore p && c.asid == asid && c.codeTag == code && c.taskEntry.isSome then
      answer (s.setSched d { x with resv := p :: x.resv }) .reserved
    else answer s .denied
  | .release => s.setSched d { x with resv := x.resv.filter (· != p) }
  | _ => s

/-- A response (Table 14.2): the status and up to 56 bytes of result. -/
def State.respond (s : State) (f : CtlFrom) (op status : Nat) (result : List Byte := []) : State :=
  s.emit (.response f (layout 8 [(0, 1, op + 0x80), (2, 2, f.seq), (4, 1, status)] ++ (result ++ List.replicate 56 0).take 56))

/-- The answer to a LAUNCH that the directory has handed to a scheduler (R478, Table 14.4). -/
def State.launchAnswer (s : State) (f : CtlFrom) (code rid : Nat) : State :=
  let r (n : Nat) : State := { s with control := none }.respond f 1 n (if n = 0 then leBytes 3 rid else [])
  match code with
  | 0 => r 0
  | 2 => r 4
  | 3 => r 5
  | _ => r 6

/-- A controller, scheduler, fork unit or the directory performs what a packet asks for. -/
def State.perform (s : State) (k : Pkt) : State :=
  match k.msg with
  | .region c => s.ctlCommand (k.dst % 8) c
  | .report c i n a => s.post (.arrivalReport c i { n := n, arm := a })
  | .actionAns c i a => s.post (.actionAttemptAnswer c i a)
  | .chan m => s.post (.controllerConversation (k.dst % 8) m)
  | .sched p a t _ e r => s.schedRequest p a t e k.asid r
  | .tableAns d r h => s.tableAnswer d r h
  | .handoff d r f => s.post (.taskLaunchHandoff d r f)
  | .dispatchAns d r ok => s.post (.dispatchAnswerArrival d r ok)
  | .finished d r => s.post (.taskFinishedArrival d r)
  | .steal d e m => s.stealTo d e m
  | .gang p n m => if k.dst % 1024 = 0x3FF then s.gangHeard p n m else s.gangAsked p n m
  | .launched f c r => s.launchAnswer f c r
  | _ => s

/-- A packet has reached what attaches to its last router. A down scheduler answers with a retry reply (R435), which the region
controller that hands a record off answers with an attempt of its own (R328). -/
def State.arrive (s : State) (k : Pkt) : State :=
  match k.dkind with
  | 0 => s.post (.coreRouterAnswer k)
  | 1 => s.post (.deliver k)
  | 2 => s.post (.deliver k)
  | _ =>
    if k.dst % 1024 ≠ 0x3FF ∧ ((s.sched (dieOf k.dst)).down = true ∨ s.stealBehind k = true) then
      match k.msg with
      | .handoff _ rcd (.region ctl idx) => s.send k.dst 3 ctl 1 rcd.asid (.actionAns (ctl % 8) idx .retry)
      | _ => s.after us (.schedulerMessageResend k 1)
    else s.post (.deliver k)

/-- `deliver` of the agenda: the unit performs what the packet carries. -/
def State.deliverPkt (s : State) (k : Pkt) : State := if k.dkind = 2 then s.sliceTakes k else s.perform k

/-! ## Chip links (R483 to R485) -/

/-- Messages that have left the chip: their senders count them as performed, since no core of another chip answers them. -/
def State.leftChip (s : State) (k : Pkt) : State :=
  match k.msg with
  | .copyUnit u => if u.wcn.isNone then s.modBoth u.place (fun c => c.unitWritten u.ctx u.by_.cseq u.off) else s
  | .chan m => if m.sub = .request then s else s.chanPerformed m
  | .capsule m => s.capTaken m
  | _ => s

/-- The last data frame that was received in order. -/
def Link.acked (x : Link) : Nat := (x.rseq + 65535) % 65536

/-- How many frames of the replay buffer an acknowledgement covers. -/
def Link.covered (x : Link) (ack : Nat) : Nat :=
  match x.replay.findIdx? (fun f => f.fseq == ack) with
  | some i => i + 1
  | none => 0

/-- An acknowledgement frees the frames that it covers and returns their credits. -/
def Link.take (x : Link) (ack : Nat) : Link :=
  let n := x.covered ack
  let cr := (x.replay.take n).foldl (fun c f => mset c f.vnet (mget c f.vnet 256 + 1)) x.credits
  { x with replay := x.replay.drop n, credits := cr, replays := if n = 0 then x.replays else 0 }

/-- Whether a link can take a packet: up, with a credit for every flit and room in the replay buffer. -/
def Link.room (x : Link) (k : Pkt) : Bool :=
  x.st == .up && decide (k.len ≤ mget x.credits k.vnet 256) && decide (x.replay.length + k.len ≤ 1024)

/-- One byte of the CRC-24 of a link frame (Table 14.5). -/
def crc24Byte (c : BitVec 24) (b : Byte) : BitVec 24 :=
  (List.range 8).foldl (fun c _ => if c.msb then (c <<< 1) ^^^ 0x864CFB else c <<< 1) (c ^^^ (b.zeroExtend 24 <<< 16))

def crc24 (l : List Byte) : BitVec 24 := l.foldl crc24Byte 0xB704CE

/-- Bytes 0 to 68 of a frame (Table 14.5). -/
def frameBytes (f : LinkFrame) : List Byte :=
  (f.flit ++ List.replicate 64 0).take 64 ++ layout 5 [(0, 1, f.kind % 4 * 64 + f.vnet % 4 * 16), (1, 2, f.fseq), (3, 2, f.ack)]

/-- A frame with the checksum that it has to carry, and whether it carries it. -/
def sealFrame (f : LinkFrame) : LinkFrame := { f with crc := crc24 (frameBytes f) }

def goodFrame (f : LinkFrame) : Bool := f.crc == crc24 (frameBytes f)

/-- The frames of a packet: one for each of its flits, of which the first is its header. -/
def Link.frames (x : Link) (k : Pkt) : List LinkFrame :=
  let b := pktBytes k
  (List.range k.len).map (fun i =>
    sealFrame { kind := 0, vnet := k.vnet, fseq := (x.sseq + i) % 65536, ack := x.acked, crc := 0
                flit := ((b.drop (64 * i)).take 64 ++ List.replicate 64 0).take 64
                pkt := if i = 0 then some k else none })

/-- A packet leaves over a link. -/
def State.overLink (s : State) (n : Nat) (k : Pkt) : State :=
  let x := s.link n
  let fs := x.frames k
  let s := s.setLink n { x with sseq := (x.sseq + k.len) % 65536, replay := x.replay ++ fs
                                credits := mset x.credits k.vnet (mget x.credits k.vnet 256 - k.len) }
  (fs.foldl (fun s f => s.emit (.frame n f)) s).leftChip k

/-- An output of a router is granted to the waiting header of R26, which goes on: to the next router, over a link, or to what
attaches here. A store that leaves its die has been accepted by the egress queue (R92). -/
def execRouterArbitration (node out : Nat) (s : State) : Host.Outcome State Fault Refusal :=
  let ws := (s.waiting node out).filter (fun t => out < 10 || (s.link (out - 10)).room t.pkt)
  match firstBy (s.arbBefore node out) ws with
  | none => .next s
  | some t =>
    let k : Pkt := { t.pkt with age := s.ageOf t }
    let s := (s.dropTransit k.id).countLosses node out ws t.inp
    if out = 9 then .next (s.arrive k)
    else if 10 ≤ out then .next (s.overLink (out - 10) { k with age := min 4095 (k.age + 1) })
    else
      let (n, i) := hop node out
      let s := { s with net := s.net ++ [{ pkt := { k with age := min 4095 (k.age + 1) }, node := n, inp := i, since := s.now }] }
      match k.msg with
      | .access _ r =>
        if r.op = .commit ∧ nodeDie node < 4 ∧ 5 ≤ out ∧ dieOf r.place = nodeDie node then
          .next ((s.modBoth r.place (fun c => c.seePart r.act r.seq r.part)).onBoth r.place (fun s p =>
            s.post (.egressQueueAcceptanceReport p r.act r.seq r.part)))
        else .next s
      | _ => .next s

/-- A frame that the device sends on its own: an acknowledgement without data, or a replay request. -/
def State.linkNote (s : State) (n kind fseq : Nat) : State :=
  s.emit (.frame n (sealFrame { kind := kind, vnet := 0, fseq := fseq, ack := (s.link n).acked, crc := 0 }))

/-- The expected frame of a link is asked for (R484). -/
def State.askAgain (s : State) (n : Nat) : State :=
  let x := s.link n
  (s.setLink n { x with lost := true }).linkNote n 2 x.rseq

/-- A frame out of order is discarded, and with it every later one until the expected frame has come; the first of them asks for that
frame (R484). -/
def State.frameLost (s : State) (n : Nat) : State := if (s.link n).lost then s else s.askAgain n

/-- A frame reaches a chip link (R484). A bad checksum is a corrected error of the link (R497, R502); since such a frame may be the expected
one, each asks for that again. -/
def execLinkFrameReceive (link : Nat) (f : LinkFrame) (s : State) : Host.Outcome State Fault Refusal :=
  let x := s.link link
  if x.st ≠ .up then .next s
  else if !goodFrame f then
    .next ((s.foundError { bank := 64, uncorrectable := false, rcd := bankRecord 9 link 0 0 2 0 }).askAgain link)
  else
    let x := x.take f.ack
    let s := s.setLink link x
    match f.kind with
    | 0 =>
      if f.fseq ≠ x.rseq then .next (s.frameLost link)
      else
        let s := s.setLink link { x with rseq := (x.rseq + 1) % 65536, lost := false }
        let s : State := match f.pkt with
          | some k =>
            { s with pktNo := s.pktNo + 1
                     net := s.net ++ [{ pkt := { k with id := s.pktNo }, node := 4, inp := 5 + link % 3, since := s.now }] }
          | none => s
        .next (s.linkNote link 1 (s.link link).sseq)
    | 1 => .next (if f.fseq = x.rseq then s else s.frameLost link)
    | 2 => .next (s.post (.replayRequestReceive link f.fseq))
    | _ => .next (s.frameLost link)

/-- The oldest unacknowledged frames are sent again from a number on. -/
def State.replayFrom (s : State) (n fseq : Nat) : State :=
  let x := s.link n
  match x.replay.findIdx? (fun f => f.fseq == fseq) with
  | none => s
  | some i => (x.replay.drop i).foldl (fun s f => s.emit (.frame n (sealFrame { f with ack := x.acked }))) s

/-- A link starts to train; it has 2 ms (R496). The packets that wait to go over it are answered as those that come (R486). -/
def State.trainLink (s : State) (n : Nat) : State :=
  let ws := s.net.filter (fun t => t.node == 4 && t.out == some (10 + n))
  let s := ws.foldl (fun s t => (s.dropTransit t.pkt.id).linkBusy t.pkt) s
  (s.setLink n { s.link n with st := .training, replays := 0 }).after (2000 * us) (.retrainTimeout false n)

/-- A replay request: the frames are resent from the one it names; the eighth replay without acceptance starts a retrain. -/
def execReplayRequestReceive (link fseq : Nat) (s : State) : Host.Outcome State Fault Refusal :=
  let x := s.link link
  if x.st ≠ .up then .next s
  else
    let s := (s.setLink link { x with replays := x.replays + 1 }).replayFrom link fseq
    .next (if x.replays + 1 ≥ 8 then s.trainLink link else s)

end Sys2Proof.Machine
end

