-- ==== Sys2Proof/Machine/Sha3.lean ====
section
/-! DEFINITION. SHA3-256 (FIPS 202), by which the Winter die measures and the device signs (14). The spec names the function; its
constants are those of the standard. -/

namespace Sys2Proof.Machine

open Sys2Proof

/-- The 25 lanes of the state, lane `x + 5 y` at that index. -/
abbrev Lanes := List (BitVec 64)

def lane (l : Lanes) (x y : Nat) : BitVec 64 := l.getD (x % 5 + 5 * (y % 5)) 0

def lanes (f : Nat → Nat → BitVec 64) : Lanes := (List.range 25).map (fun i => f (i % 5) (i / 5))

/-- Round constants. -/
def roundConstants : List (BitVec 64) :=
  [0x1, 0x8082, 0x800000000000808A, 0x8000000080008000, 0x808B, 0x80000001, 0x8000000080008081, 0x8000000000008009] ++
  [0x8A, 0x88, 0x80008009, 0x8000000A, 0x8000808B, 0x800000000000008B, 0x8000000000008089, 0x8000000000008003] ++
  [0x8000000000008002, 0x8000000000000080, 0x800A, 0x800000008000000A, 0x8000000080008081, 0x8000000000008080, 0x80000001,
    0x8000000080008008]

/-- Rotation of each lane. -/
def rotations : List Nat :=
  [0, 1, 62, 28, 27, 36, 44, 6, 55, 20, 3, 10, 43] ++ [25, 39, 41, 45, 15, 21, 8, 18, 2, 61, 56, 14]

def theta (a : Lanes) : Lanes :=
  let c : Lanes := (List.range 5).map (fun x => (List.range 5).foldl (fun v y => v ^^^ lane a x y) 0)
  lanes (fun x y => lane a x y ^^^ c.getD ((x + 4) % 5) 0 ^^^ (c.getD ((x + 1) % 5) 0).rotateLeft 1)

/-- Each lane rotated and moved to its place. -/
def rhoPi (a : Lanes) : Lanes :=
  lanes (fun x y =>
    let k := (x + 3 * y) % 5
    (lane a k x).rotateLeft (rotations.getD (k + 5 * x) 0))

def chi (a : Lanes) : Lanes := lanes (fun x y => lane a x y ^^^ (~~~(lane a (x + 1) y) &&& lane a (x + 2) y))

def iota (rc : BitVec 64) (a : Lanes) : Lanes :=
  match a with
  | [] => []
  | v :: r => (v ^^^ rc) :: r

/-- The permutation of 24 rounds. -/
def keccak (a : Lanes) : Lanes := roundConstants.foldl (fun a rc => iota rc (chi (rhoPi (theta a)))) a

/-- Bytes of a block. -/
def sha3Rate : Nat := 136

/-- A message with its suffix and padding, in whole blocks. -/
def sha3Pad (m : List Byte) : List Byte :=
  let n := sha3Rate - m.length % sha3Rate
  if n = 1 then m ++ [0x86] else m ++ [0x06] ++ List.replicate (n - 2) 0 ++ [0x80]

/-- A block is taken into the state. -/
def absorb (a : Lanes) (b : List Byte) : Lanes :=
  keccak (a.zipIdx.map (fun x => x.1 ^^^ BitVec.ofNat 64 (field b (8 * x.2) 8)))

/-- SHA3-256 of a byte string: the 32 bytes of the digest as a little-endian number. -/
def sha3 (m : List Byte) : BitVec 256 :=
  let p := sha3Pad m
  let a := (List.range (p.length / sha3Rate)).foldl (fun a i => absorb a ((p.drop (sha3Rate * i)).take sha3Rate)) (List.replicate 25 0)
  BitVec.ofNat 256 ((List.range 4).foldl (fun v i => v + (a.getD i 0).toNat * 2 ^ (64 * i)) 0)

end Sys2Proof.Machine
end

