-- ==== Sys2Proof/Machine/System.lean ====
section
/-! DEFINITION. Host ports, control messages, tenants, the Winter die with boot and attestation, service while running, error
banks, power and checkpoint (14). -/

namespace Sys2Proof.Machine

open Sys2Proof

/-! ## Queue pairs and host violations (R471, R472, R475) -/

def Port.qp (x : Port) (n : Nat) : QPair := mget x.qps n {}

def State.setQp (s : State) (port n : Nat) (q : QPair) : State :=
  let x := s.port port
  s.setPort port { x with qps := mset x.qps n q }

/-- NAK syndromes of RoCEv2. -/
def nakInvalid : Nat := 1
def nakAccess : Nat := 2
def nakOperational : Nat := 3

/-- A host violation (Table 14.1): the queue pair answers with a NAK, is frozen, and a record is sent, with the containment notice of a freeze
after it (R36). `op` is the RoCEv2 opcode. -/
def State.hostViolation (s : State) (port qpn cause op key va : Nat) : State :=
  let s := s.emit (.nak port qpn (if cause = 2 then nakAccess else nakInvalid))
  let s := s.setQp port qpn { (s.port port).qp qpn with frozen := true }
  s.sendRecord
    { kind := 0x11, engine := 10, place := s.chip * 4096, skind := 3, asid := 0, entry := 31
      detail := detail [(36, 1, cause), (37, 1, port), (38, 3, qpn), (41, 1, op), (48, 4, key), (56, 8, va)] } true

/-- A request reaches a connected queue pair of a port that is up; a frozen one performs none (R475). -/
def State.onQp (s : State) (port qpn : Nat) (f : State → State) : State :=
  let q := (s.port port).qp qpn
  if (s.port port).st ≠ .up ∨ q.connected = false then s
  else if q.frozen then s.emit (.nak port qpn nakOperational)
  else f s

/-- A port receives a frame (R470). One that is retraining drops what arrives (R496). `other` is the RoCEv2 opcode and the request
of an operation that R471 does not support, where the frame carries one: a violation (R475). -/
def execEthernetFrameReceive (port len : Nat) (fcsOk ip : Bool) (tags : Nat) (other : Option (Nat × HostOp)) (s : State) :
    Host.Outcome State Fault Refusal :=
  if (s.port port).st ≠ .up then .next s
  else if !fcsOk then .next (s.foundError { bank := 64, uncorrectable := false, rcd := bankRecord 10 port 0 0 2 0 })
  else if 9216 < len ∨ 1 < tags ∨ ip = false then .next s
  else
    match other with
    | none => .next s
    | some (op, o) =>
      .next (s.onQp port o.qpn (fun s => s.hostViolation port o.qpn (if o.qpn = 16 then 3 else 4) op o.key o.va))

/-- A port that has been released comes up. -/
def execPortLinkTraining (port : Nat) (s : State) : Host.Outcome State Fault Refusal :=
  let x := s.port port
  if port < 2 ∧ s.released.contains 4 ∧ x.st = .down then .next (s.setPort port { x with st := .up }) else .next s

/-- A queue pair is connected (R471). -/
def execCmConnection (port qpn mtu : Nat) (s : State) : Host.Outcome State Fault Refusal :=
  let q := (s.port port).qp qpn
  if (s.port port).st = .up ∧ qpn < 4096 ∧ [1024, 2048, 4096].contains mtu then
    .next ((s.setQp port qpn { q with connected := true, mtu := mtu }).emit (.connected port qpn))
  else .next s

/-! ## Host access to windows (R336, R337, R473, R474) -/

/-- The window that a key names, if it grants a host every byte of a request. Bits 11:10, which are to be zero, are ignored (R2). -/
def State.hostWindow (s : State) (key va n : Nat) : Option Win :=
  if bits key 15 15 ≠ 0 then none
  else
    (s.ctl (bits key 14 12)).wins.find? (fun w =>
      w.idx == bits key 9 0 && w.tag == bits key 31 16 && w.host && w.base ≤ va && va + n ≤ w.base + 64 * w.units)

/-- A piece of a host's bytes is performed at its home slice under the owner's ASID; whether it was. With its last piece a unit that is
written whole is no longer in error (R503), and its echo follows: `rest` are the pieces to come. -/
def State.hostPut (s : State) (w : Win) (o : HostOp) (b : List Byte) (x : Nat × Nat) (rest : List (Nat × Nat)) : State × Bool :=
  let va := o.va + x.1
  let line (y : Nat) : Nat := (o.va + y) / 64
  match s.globalPut w.owner va ((b.drop x.1).take x.2) with
  | (s, false) => (s, false)
  | (s, true) =>
    if x.2 != 0 && rest.all (fun y => line y.1 != line x.1) then
      let lo := max o.va (64 * line x.1)
      let n := min (o.va + b.length) (64 * line x.1 + 64) - lo
      let s := if n = 64 then s.mendGlobal w.owner lo else s
      (if w.echo then s.send (s.sliceName (homeSlice w.owner va)) 2 w.place 0 w.owner (.echo w.place w.wcn n) else s, true)
    else (s, true)

/-- A request goes on before any other of its unit. -/
def State.goOn (s : State) (e : Event) : State := { s with agenda := e :: s.agenda }

/-- A piece of a WRITE (R102); after the last, the immediate's add and the acknowledgement (R473, R474). -/
def State.hostWrite (s : State) (o : HostOp) (op : Nat) (b : List Byte) (imm : Option Nat) (next : HostOp → Event) : State :=
  s.onQp o.port o.qpn (fun s =>
    if o.qpn = 16 then s.hostViolation o.port o.qpn 3 op o.key o.va
    else
      match s.hostWindow o.key o.va b.length with
      | none => s.hostViolation o.port o.qpn 2 op o.key o.va
      | some w =>
        let (s, x, r) := s.nextPiece (o.todo.getD (pieces o.va b.length 8))
        match s.hostPut w o b x r with
        | (s, false) => s
        | (s, true) =>
          if !r.isEmpty then s.goOn (next { o with todo := some r })
          else
            let s := match imm with
              | none => s
              | some v =>
                if v / 32768 = 0 then s
                else
                  let k := bits v 14 12
                  (s.regionCommand k
                    { place := s.chip * 4096, act := 0, seq := 0, asid := w.owner, priv := false, entry := 31, pc := 0
                      window := false, fn := 2, ctl := k, v1 := s.regionName k (bits v 11 0), v2 := v / 32768 }).1
            s.emit (.ack o.port o.qpn))

def execRdmaWrite (o : HostOp) (bytes : List Byte) (s : State) : Host.Outcome State Fault Refusal :=
  .next (s.hostWrite o 0x0A bytes none (fun o => .rdmaWrite o bytes))

def execRdmaWriteWithImmediate (o : HostOp) (bytes : List Byte) (imm : BitVec 32) (s : State) :
    Host.Outcome State Fault Refusal :=
  .next (s.hostWrite o 0x0B bytes (some imm.toNat) (fun o => .rdmaWriteWithImmediate o bytes imm))

/-- A READ returns the bytes as they stand at the home slices when each unit of 64 bytes is read (R473). -/
def execRdmaRead (o : HostOp) (n : Nat) (s : State) : Host.Outcome State Fault Refusal :=
  .next (s.onQp o.port o.qpn (fun s =>
    if o.qpn = 16 then s.hostViolation o.port o.qpn 3 0x0C o.key o.va
    else
      match s.hostWindow o.key o.va n with
      | none => s.hostViolation o.port o.qpn 2 0x0C o.key o.va
      | some w =>
        let va := o.va + o.got.length
        match s.globalRead w.owner va (min (n - o.got.length) (64 - va % 64)) with
        | (s, some b) =>
          if n ≤ o.got.length + b.length then s.emit (.readData o.port o.qpn (o.got ++ b))
          else s.goOn (.rdmaRead { o with got := o.got ++ b } n)
        | (s, none) => s))

/-- A marked packet is answered with a congestion notification (R471). -/
def execEcnMarkedPacket (port qpn : Nat) (s : State) : Host.Outcome State Fault Refusal :=
  .next (if (s.port port).st = .up then s.emit (.cnp port qpn) else s)

/-- Each received notification halves a queue pair's rate for 50 µs. `half` counts the halvings in force. -/
def execCnpReceive (port qpn : Nat) (s : State) : Host.Outcome State Fault Refusal :=
  let q := (s.port port).qp qpn
  if (s.port port).st = .up ∧ q.connected then
    .next ((s.setQp port qpn { q with half := q.half + 1 }).after (50 * us) (.rateRestore port qpn))
  else .next s

def execRateRestore (port qpn : Nat) (s : State) : Host.Outcome State Fault Refusal :=
  let q := (s.port port).qp qpn
  .next (if q.half = 0 then s else s.setQp port qpn { q with half := q.half - 1 })

/-! ## Control messages (R476, R477) -/

/-- Every message from a queue pair but `EBANK` has status 3 while host control is locked. -/
def State.barred (s : State) (f : CtlFrom) : Bool :=
  s.locked && (match f.master with | .qp .. => true | .munte => false)

/-- A control operation: performed unless it is barred, or breaks a limit of Table 14.3 (R476). -/
def State.obey (s : State) (f : CtlFrom) (op : Nat) (ok : Bool) (g : State → State) : State :=
  if s.barred f then s.respond f op 3 else if !ok then s.respond f op 1 else g s

/-- An ASID has 13 bits. -/
def fitAsid (asid : Nat) : Bool := decide (asid < 8192)

def isMunte (f : CtlFrom) : Bool := match f.master with | .munte => true | .qp .. => false

/-- Whether the Autumn die, a Summer die or the host ports are down (R491). DEDUCED: the host ports are when none of them is up. -/
def State.degraded (s : State) : Bool :=
  (List.range 5).any (fun d => !s.released.contains d) || ((s.port 0).st != .up && (s.port 1).st != .up)

/-- Whether a number is a bank's (Table 14.8). -/
def fitBank (n : Nat) : Bool := n == 64 || n == 65 || (decide (n < 64) && decide (n % 16 ≤ 8))

/-- Whether queue pairs, addresses and keys are such as a checkpoint can name. -/
def fitStreams (qpn0 qpn1 va0 va1 key0 key1 : Nat) : Bool :=
  let qpn (n : Nat) : Bool := n < 4096 && n != 16
  qpn qpn0 && qpn qpn1 && decide (va0 < 2 ^ 64) && decide (va1 < 2 ^ 64) && decide (key0 < 2 ^ 32) && decide (key1 < 2 ^ 32)

/-- The message that 64 bytes hold (Table 14.3); none where it is malformed. -/
def parseControl (f : CtlFrom) (b : List Byte) : Option Event :=
  let at_ (o n : Nat) : Nat := field b o n
  let zero (o : Nat) : Bool := (b.drop o).all (· == 0)
  let op := at_ 0 1
  let asid := at_ 4 2
  let plain : Bool := b.length == 64 && at_ 1 1 == 0 && at_ 6 2 == 0 && asid < 8192 &&
    (asid == 0 || op == 1 || op == 2 || op == 3 || op == 4)
  let qpn (n : Nat) : Bool := n < 4096 && n != 16
  let host : Bool := at_ 11 1 == 0 && at_ 15 1 == 0 && at_ 28 4 == 0 && zero 44 && qpn (at_ 8 3) && qpn (at_ 12 3)
  if !plain then none
  else match op with
    | 0x01 => if at_ 8 8 % 64 = 0 ∧ zero 16 = true then some (.launch f asid (at_ 8 8)) else none
    | 0x02 => if zero 16 then some (.topen f asid (BitVec.ofNat 64 (at_ 8 8))) else none
    | 0x03 => if zero 8 then some (.tclose f asid) else none
    | 0x04 => if at_ 8 1 < 8 ∧ at_ 9 1 = 0 ∧ zero 20 = true then some (.tset f asid (at_ 8 1) (at_ 10 2) (at_ 12 4) (at_ 16 4)) else none
    | 0x05 => if at_ 8 1 < 2 ∧ at_ 9 3 < 4096 ∧ zero 12 = true then some (.qres f (at_ 8 1) (at_ 9 3)) else none
    | 0x06 => if at_ 8 1 < 4 ∧ at_ 9 7 = 0 then some (.supv f (at_ 8 1) (b.drop 16)) else none
    | 0x07 =>
      let t := at_ 9 1
      if !zero 10 then none
      else if at_ 8 1 = 1 then (if t < 16 then some (.svcClusterReset f t) else none)
      else if at_ 8 1 = 2 then (if t < 12 then some (.svcLinkRetrain f t) else none)
      else if at_ 8 1 = 3 then (if t < 2 then some (.svcPortRetrain f t) else none)
      else none
    | 0x08 =>
      if fitBank (at_ 8 1) = true ∧ at_ 9 1 < 2 ∧ at_ 10 1 < 2 ∧ zero 11 = true then
        some (.ebank f (at_ 8 1) (at_ 9 1) (at_ 10 1 == 1))
      else none
    | 0x09 => if host then some (.ckpt f (at_ 8 3) (at_ 12 3) (at_ 16 8) (at_ 32 8) (at_ 24 4) (at_ 40 4)) else none
    | 0x0A => if host then some (.crest f (at_ 8 3) (at_ 12 3) (at_ 16 8) (at_ 32 8) (at_ 24 4) (at_ 40 4)) else none
    | 0x0B => if isMunte f ∧ at_ 8 1 < 2 ∧ zero 9 = true then some (.lock f (at_ 8 1 == 1)) else none
    | _ => none

/-- A SEND: on a control queue pair a control message reaches the directory; on another it is a violation (R472). -/
def execControlSend (port qpn : Nat) (bytes : List Byte) (s : State) : Host.Outcome State Fault Refusal :=
  .next (s.onQp port qpn (fun s =>
    if qpn ≠ 16 then s.hostViolation port qpn 3 0x04 0 0
    else
      let f : CtlFrom := { master := .qp port qpn, seq := field bytes 2 2 }
      let s := s.emit (.ack port qpn)
      match parseControl f bytes with
      | some e => s.post e
      | none => s.post (.controlMalformed f (field bytes 0 1))))

/-- A message that is no control message is answered in its turn: it has no effect (R476, R477). -/
def State.malformedControl (s : State) (f : CtlFrom) (op : Nat) : State := s.respond f op (if s.barred f ∧ op ≠ 8 then 3 else 1)

/-- `LOCK`, from the Munte port. -/
def execLock (f : CtlFrom) (on : Bool) (s : State) : Host.Outcome State Fault Refusal :=
  .next (if isMunte f then ({ s with locked := on }).respond f 0x0B 0 else s.respond f 0x0B (if s.locked then 3 else 1))

/-! ## Tenants (R478 to R481) -/

/-- `LAUNCH` of a header that has been read. One record is handed to its scheduler, whose answer the directory awaits before any later
message (R434, R477); a gang is the directory's own. -/
def State.launchHeader (s : State) (f : CtlFrom) (asid va : Nat) (h : Launch) : State :=
  if launchMalformed h then
    let s := s.respond f 1 1
    match f.master with
    | .qp port qpn => s.hostViolation port qpn 1 0x04 0 va
    | .munte => s
  else if fitSpawn h then
    if !s.released.contains h.die then s.respond f 1 5
    else
      ({ s with control := some (.controlMalformed f 1) }).send s.dirName 3 (s.schedName h.die) 3 asid
        (.handoff h.die (recOf h asid) (.host f))
  else if h.gang ≠ 0 ∧ h.chunk = 1 then
    let (s, code, rid) := s.newGang h asid 200
    s.respond f 1 (if code = 0 then 0 else 6) (if code = 0 then leBytes 3 rid else [])
  else s.respond f 1 1

def execLaunch (f : CtlFrom) (asid va : Nat) (s : State) : Host.Outcome State Fault Refusal :=
  .next (s.obey f 1 (fitAsid asid && va % 64 == 0 && decide (va < 2 ^ 64)) (fun s =>
    if (isMunte f ∧ s.degraded = true) ∨ s.released.contains 0 = false then s.respond f 1 5
    else if !s.openAsids.contains asid then s.respond f 1 2
    else
      match s.globalRead asid va 64 with
      | (s, none) => s.respond f 1 1
      | (s, some b) => s.launchHeader f asid va (launchOf b)))

/-- The key slots of an ASID at the eight controllers. -/
def State.setKeys (s : State) (asid : Nat) (key : Option Nat) : State :=
  (List.range 8).foldl (fun s k =>
    let c := s.ctl k
    let l := c.keys.filter (fun x => x.1 != asid)
    s.setCtl k { c with keys := match key with | some n => (asid, n) :: l | none => l }) s

/-- A fresh key pair from the Winter die. -/
def State.freshKey (s : State) : Nat × State := (s.keyNo + 1, { s with keyNo := s.keyNo + 1 })

/-- Whether a word is a table pointer that may stand in the context table (R207, R208, R210). -/
def fitRoot (e : Nat) : Bool := bit e 0 && !bit e 1 && !badPointer e

/-- `TOPEN`: keys, then the context entry (R207, R479). A word that is no table pointer makes the message malformed. -/
def execTopen (f : CtlFrom) (asid : Nat) (entry : BitVec 64) (s : State) : Host.Outcome State Fault Refusal :=
  .next (s.obey f 2 (fitAsid asid) (fun s =>
    if !s.released.contains 0 then s.respond f 2 5
    else if s.openAsids.contains asid then s.respond f 2 2
    else if !fitRoot entry.toNat then s.respond f 2 1
    else
      let (n, s) := s.freshKey
      let s := (s.setKeys asid (some n)).writePhys (8 * asid) (s.devKey (8 * asid)) (leBytes 8 entry.toNat)
      ({ s with openAsids := asid :: s.openAsids }).respond f 2 0))

/-- Step 1 of a teardown (R460): an eviction that waits is answered, and the core is vacant. -/
def State.tearCore (s : State) (p : Nat) : State :=
  let s := match (s.core p).evict with
    | some j => s.schedReply (dieOf p) j.place j.act j.tag (2 * 2 ^ 60)
    | none => s
  s.vacate p

/-- Gangs of an ASID, with the cores reserved for them, and its join cells are freed. -/
def State.freeJobs (s : State) (asid : Nat) : State :=
  let kept := (s.gangs.filter (fun g => g.asid == asid)).flatMap (·.resv)
  { s with
    scheds := s.scheds.map (fun x => (x.1, { x.2 with resv := x.2.resv.filter (fun p => !kept.contains p) }))
    gangs := s.gangs.filter (fun g => g.asid != asid)
    forks := s.forks.map (fun x =>
      (x.1, { x.2 with cells := x.2.cells.map (fun y =>
        if y.2.asid = asid ∧ y.2.st ≠ 0 then (y.1, { y.2 with st := 0, team := [], busy := [], redo := [] }) else y) })) }

/-- The schedulers delete the records of an ASID, and their marks and settings for it. -/
def State.deleteRecs (s : State) (asid : Nat) : State :=
  { s with scheds := s.scheds.map (fun x =>
    let l := x.2.recs.filter (fun r => r.asid != asid)
    (x.1, { x.2 with recs := l, marks := x.2.marks.filter (fun m => m.1 != asid), cfg := x.2.cfg.filter (fun c => c.1 != asid)
                     loads := x.2.loads.filter (fun y => l.any (fun r => r.rid == y.rid)) })) }

/-- Routers discard the capsules of an ASID (R424). -/
def State.dropCapsules (s : State) (asid : Nat) : State :=
  { s with
    net := s.net.filter (fun t => match t.pkt.msg with | .capsule c => c.hdr.asid != asid | _ => true)
    cores := s.cores.map (fun x => (x.1, { x.2 with egress := x.2.egress.filter (fun g => g.cap.hdr.asid != asid) })) }

/-- The surviving ends of an ASID's channels close with code 19 (R282). -/
def State.closePeers (s : State) (asid : Nat) (gone : List Nat) : State :=
  let s := (s.cores.map (·.1)).foldl (fun s p =>
    ((s.core p).epsIn [.connected, .moving]).foldl (fun (s : State) (k : Fin 16) =>
      let c := s.core p
      let e := c.eps[k]
      if e.pkind = 0 ∧ gone.contains e.peer then
        s.setCore p ((c.setEp k (e.toClosed 19 false false)).tryMark (.endpoint k.val) s.now)
      else s) s) s
  { s with ctls := s.ctls.map (fun x => (x.1, { x.2 with conns := x.2.conns.filter (fun y => y.asid != asid) })) }

/-- Step 3: regions and windows are freed, and every slice writes back and drops the lines of the ASID. -/
def State.freeMemory (s : State) (asid : Nat) : State :=
  let s := (List.range 8).foldl (fun s k =>
    (((s.ctl k).regions.filter (fun x => x.2.owner == some asid)).map (·.1)).foldl (fun s i => s.freeRegion k i) s) s
  let s : State := { s with ctls := s.ctls.map (fun x => (x.1, { x.2 with wins := x.2.wins.filter (fun w => w.owner != asid) })) }
  (s.slices.map (·.1)).foldl (fun s h =>
    let s := ((s.slice h).lines.filter (fun l => l.asid == asid)).foldl (fun s l => s.writeBack l) s
    let x := s.slice h
    s.setSlice h { x with lines := x.lines.filter (fun l => l.asid != asid), kept := x.kept.filter (fun l => l.asid != asid) }) s

/-- A teardown in its four steps (R480). -/
def State.tearDown (s : State) (asid : Nat) : State :=
  let mine := (s.cores.filter (fun x => x.2.life != .vacant && x.2.asid == asid)).map (·.1)
  let s := mine.foldl (fun s p => s.tearCore p) s
  let s := (((s.freeJobs asid).deleteRecs asid).dropCapsules asid).closePeers asid mine
  let s := s.freeMemory asid
  let s := (s.writePhys (8 * asid) (s.devKey (8 * asid)) (List.replicate 8 0)).setKeys asid none
  { s with openAsids := s.openAsids.filter (· != asid) }

def execTclose (f : CtlFrom) (asid : Nat) (s : State) : Host.Outcome State Fault Refusal :=
  .next (s.obey f 3 (fitAsid asid) (fun s =>
    if asid = 0 then s.respond f 3 1
    else if !s.openAsids.contains asid then s.respond f 3 2
    else (s.tearDown asid).respond f 3 0))

/-- `TSET` (R481). -/
def execTset (f : CtlFrom) (asid mask qage high low : Nat) (s : State) : Host.Outcome State Fault Refusal :=
  .next (s.obey f 4 (fitAsid asid && decide (mask < 8) && decide (qage < 2 ^ 16) && decide (high < 2 ^ 32) && decide (low < 2 ^ 32)) (fun s =>
    if !s.openAsids.contains asid then s.respond f 4 2
    else
      let old := (s.sched 0).settings asid
      let x : SchedCfg := { qage := if bit mask 0 then qage else old.qage, high := if bit mask 1 then high else old.high
                            low := if bit mask 2 then low else old.low }
      if x.high ≤ x.low then s.respond f 4 1
      else
        ((List.range 4).foldl (fun s d =>
          let y := s.sched d
          (s.setSched d { y with cfg := mset y.cfg asid x }).settleMarks d asid) s).respond f 4 0))

/-- `QRES` (R482). -/
def execQres (f : CtlFrom) (port qpn : Nat) (s : State) : Host.Outcome State Fault Refusal :=
  .next (s.obey f 5 (decide (port < 2) && decide (qpn < 4096)) (fun s =>
    let q := (s.port port).qp qpn
    (if q.frozen then s.setQp port qpn { q with frozen := false } else s).respond f 5 0))

/-- `SUPV` (R482): the message is accepted by the supervisor core, or refused. While the core's router answers with retry replies it is
sent again every 1 µs without limit (R152), and the directory stays at it (R477). -/
def execSupv (f : CtlFrom) (die : Nat) (bytes : List Byte) (s : State) : Host.Outcome State Fault Refusal :=
  .next (({ s with control := none } : State).obey f 6 (decide (die < 4) && decide (bytes.length ≤ 48)) (fun s =>
    let p := s.supCore die
    let c := s.core p
    let m : SvcMsg := { kind := 3, src := s.dirName, dst := p, bytes := (bytes ++ List.replicate 64 0).take 64 }
    if (isMunte f ∧ s.degraded = true) ∨ s.released.contains die = false then s.respond f 6 5
    else
      match c.svcEntry 3 with
      | none => s.respond f 6 5
      | some k =>
        if c.life = .frozen ∨ c.life = .sealed then s.respond f 6 5
        else if c.life = .evicting ∨ s.resetting.contains (clusOf p) = true ∨ c.inbox.length ≥ 4 ∨ c.hdl[k].pend ≥ 65535 then
          ({ s with control := some (.supv f die bytes) }).after us (.supv f die bytes)
        else (s.does (execServiceMessageArrival m s)).respond f 6 0))

/-! ## Service while running (R495, R496) -/

def State.listed (s : State) (u : Nat) : List Nat := (s.cores.map (·.1)).filter (fun p => s.isCore p && clusOf p == u)

/-- A background operation starts unless one is in progress. -/
def State.background (s : State) (f : CtlFrom) (op : Nat) (ok : Bool) (g : State → State) : State :=
  s.obey f op ok (fun s => if s.back.isSome then s.respond f op 4 else g s)

/-- `SVC` action 1 (R495): the cluster is held, and its cores have up to 10 ms to end their activations. -/
def execSvcClusterReset (f : CtlFrom) (target : Nat) (s : State) : Host.Outcome State Fault Refusal :=
  .next (s.background f 7 (decide (target < 16)) (fun s =>
    if !s.released.contains (target / 4) then s.respond f 7 5
    else
      let s : State := { s with back := some (.cluster f target), resetting := target :: s.resetting }
      s.after (10000 * us) (.clusterResetTimeout target)))

/-- The join cells of a cluster are freed; a `join` on one returns code 1 (R465). -/
def State.freeCells (s : State) (u : Nat) : State :=
  let x := s.fork u
  let s := s.setFork u { cells := x.cells.map (fun y => (y.1, { gen := y.2.gen })), joins := [] }
  x.joins.foldl (fun s j => s.forkAnswer u j.place j.act j.tag (2 ^ 60)) s

/-- Steps 3 to 5 of a cluster's reset, from which its cores count their cycles and serials anew (R31, R175). -/
def State.clearCluster (s : State) (u : Nat) : State :=
  let ps := s.listed u
  let s := ps.foldl (fun (s : State) p =>
    let c := s.core p
    if c.act.isSome ∨ c.ctxs.isEmpty = false then s.sealCore p none else s) s
  let s := ps.foldl (fun s p => (s.runningOn p).foldl (fun s rid => s.restartRecord (dieOf p) rid) s) s
  let s := ps.foldl (fun (s : State) p => (s.tearCore p).modCore p (fun c => { c with serial := 0, born := s.now })) s
  let s := s.freeCells u
  (List.range 24).foldl (fun s k =>
    let g := s.group (24 * u + k)
    s.setGroup (24 * u + k) { g with wb := [], owner := none, bad := [], job := none }) s

/-- The wait for a cluster to be idle has ended: no core of it holds an activation, or 10 ms have passed. -/
def execClusterResetTimeout (clus : Nat) (s : State) : Host.Outcome State Fault Refusal :=
  let e : Event := .clusterResetTimeout clus
  let due : Bool := !s.timers.any (fun x => x.2 == e)
  let idle : Bool := (s.listed clus).all (fun p => (s.core p).act.isNone)
  if s.resetting.contains clus = false ∨ (due = false ∧ idle = false) then .next s
  else
    let s := s.clearCluster clus
    let s : State := { s with resetting := s.resetting.filter (· != clus), timers := s.timers.filter (fun x => x.2 != e) }
    match s.back with
    | some (.cluster f _) => .next (({ s with back := none }).respond f 7 0)
    | _ => .next s

def execSvcLinkRetrain (f : CtlFrom) (link : Nat) (s : State) : Host.Outcome State Fault Refusal :=
  .next (s.background f 7 (decide (link < 12)) (fun s =>
    if !s.released.contains 4 then s.respond f 7 5 else ({ s with back := some (.link f link) }).trainLink link))

def execSvcPortRetrain (f : CtlFrom) (port : Nat) (s : State) : Host.Outcome State Fault Refusal :=
  .next (s.background f 7 (decide (port < 2)) (fun s =>
    if !s.released.contains 4 then s.respond f 7 5
    else
      let s : State := { s with back := some (.port f port) }
      (s.setPort port { s.port port with st := .training }).after (2000 * us) (.retrainTimeout true port)))

/-- The answer to the retrain that a control message has asked for. -/
def State.retrained (s : State) (isPort : Bool) (n status : Nat) : State :=
  match s.back with
  | some (.link f m) => if isPort = false ∧ m = n then ({ s with back := none }).respond f 7 status else s
  | some (.port f m) => if isPort = true ∧ m = n then ({ s with back := none }).respond f 7 status else s
  | _ => s

def State.inTraining (s : State) (isPort : Bool) (n : Nat) : Bool :=
  if isPort then (s.port n).st == .training else (s.link n).st == .training

def State.setSt (s : State) (isPort : Bool) (n : Nat) (st : LinkSt) : State :=
  if isPort then s.setPort n { s.port n with st := st } else s.setLink n { s.link n with st := st }

/-- A retrain completes: a link resends from its oldest unacknowledged frame. -/
def execRetrainComplete (isPort : Bool) (n : Nat) (s : State) : Host.Outcome State Fault Refusal :=
  if !s.inTraining isPort n then .next s
  else
    let s := s.setSt isPort n .up
    let s : State := { s with timers := s.timers.filter (fun x => x.2 != .retrainTimeout isPort n) }
    let s := match isPort, (s.link n).replay with
      | false, f :: _ => s.replayFrom n f.fseq
      | _, _ => s
    .next (s.retrained isPort n 0)

def execRetrainTimeout (isPort : Bool) (n : Nat) (s : State) : Host.Outcome State Fault Refusal :=
  if s.inTraining isPort n then .next ((s.setSt isPort n .failed).retrained isPort n 5) else .next s

/-- The route table is written by the Munte port (R486). -/
def execRouteTableWrite (chip : Nat) (link : Option Nat) (s : State) : Host.Outcome State Fault Refusal :=
  let l := s.routes.filter (fun x => x.1 != chip)
  if 256 ≤ chip then .next s
  else
    match link with
    | none => .next { s with routes := l }
    | some n => .next (if n < 12 then { s with routes := (chip, n) :: l } else s)

/-! ## Error banks (R497, R498) -/

/-- The status word (Table 14.9). -/
def Bank.status (b : Bank) : Nat :=
  ofBool b.v * 2 ^ 63 + ofBool b.uc * 2 ^ 62 + ofBool b.ovf * 2 ^ 61 + b.ovfc * 2 ^ 32 + b.cec

def Bank.bytes (b : Bank) : List Byte := match b.rcd with | some r => recBytes r | none => List.replicate 64 0

def State.clearBank (s : State) (n : Nat) : State := { s with banks := mset s.banks n {} }

def execEbank (f : CtlFrom) (bank half : Nat) (clear : Bool) (s : State) : Host.Outcome State Fault Refusal :=
  let b := s.bank bank
  if !(fitBank bank && decide (half < 2)) then .next (s.respond f 8 1)
  else
  let s := if clear then s.clearBank bank else s
  .next (s.respond f 8 0 (leBytes 8 b.status ++ (b.bytes.drop (32 * half)).take 32))

def execPldmReadAndClear (bank : Nat) (s : State) : Host.Outcome State Fault Refusal :=
  let b := s.bank bank
  .next ((s.clearBank bank).emit (.pldm (leBytes 8 b.status ++ b.bytes)))

/-- The unit in which an uncorrectable error has been found is in error from then on (R503): of HBM, of a slice's lines, of a group's weight
buffer, or of a core's storage. -/
def State.spoil (s : State) (e : ErrorEv) : State :=
  let a := field e.rcd.detail 4 8
  let p := e.rcd.place
  if !e.uncorrectable || decide (64 ≤ e.bank) then s
  else if e.bank % 16 < 4 then
    match e.ls with
    | some l => s.modCore p (fun c => { c with bad := (l.num, a / 64) :: c.bad })
    | none => s
  else if e.bank % 16 = 5 ∨ e.bank % 16 = 6 then
    let k := stackOf a
    s.setCtl k { s.ctl k with bad := a / 64 :: (s.ctl k).bad }
  else if e.bank % 16 = 7 then
    let x := s.slice (p % 128)
    s.setSlice (p % 128) { x with lines := x.lines.map (fun l => if l.pa = a / 64 * 64 then { l with bad := true } else l) }
  else if e.bank % 16 = 8 ∧ e.ls = some .wb then
    let g := groupOf p
    s.setGroup g { s.group g with bad := a / 64 :: (s.group g).bad }
  else s

def execErrorArrival (e : ErrorEv) (s : State) : Host.Outcome State Fault Refusal := .next ((s.spoil e).foundError e)

/-! ## Checkpoint (R500, R501) -/

/-- Every slice writes back its dirty lines and keeps them. -/
def State.cleanSlices (s : State) : State :=
  (s.slices.map (·.1)).foldl (fun s h =>
    let s := (s.slice h).lines.foldl (fun s l => s.writeBack l) s
    let x := s.slice h
    s.setSlice h { x with lines := x.lines.map (fun l => { l with dirty := false }) }) s

/-- All of HBM as it is stored: what lies outside the queue memories, and in them the records of the schedulers (R428). -/
def State.stored (s : State) : Mem :=
  (List.range 8).flatMap (fun k =>
    s.hbm.filter (fun x => stackOf x.1 == k && (queueDie x.1).isNone) ++ (if k % 2 = 0 then s.queueCells (k / 2) else []))

/-- The bytes of a stack as they are stored, from address 0 of the stack. -/
def State.stackCells (s : State) (k : Nat) : Mem :=
  (s.stored.filter (fun x => stackOf x.1 == k)).map (fun x => (x.1 % 2 ^ 36, x.2))

/-- The keys of the lines that are stored; a record is stored under the device slot's. -/
def State.storedKeys (s : State) : List (Nat × Nat) :=
  (List.range 8).flatMap (fun k =>
    s.hbmKeys.filter (fun x => stackOf (64 * x.1) == k && (queueDie (64 * x.1)).isNone) ++
      if k % 2 = 0 then (bySlot (s.sched (k / 2)).recs).map (fun r => (queueBase (k / 2) / 64 + r.slot, (s.ctl k).dev)) else [])

/-- The keys of a stack's lines, from line 0 of the stack. -/
def State.stackKeys (s : State) (k : Nat) : List (Nat × Nat) :=
  (s.storedKeys.filter (fun x => stackOf (64 * x.1) == k)).map (fun x => (x.1 % 2 ^ 30, x.2))

/-- Whether a queue pair can carry the device's own writes and reads. -/
def State.carries (s : State) (port qpn : Nat) : Bool :=
  let q := (s.port port).qp qpn
  (s.port port).st == .up && q.connected && !q.frozen

/-- The number by which the device slot stands among the key slots of a controller, after the 8,192 of the ASIDs. -/
def deviceSlot : Nat := 8192

/-- The key slots of the eight controllers: of each the slots of ASIDs and the device slot (R342). -/
def State.keySlots (s : State) : List (List (Nat × Nat)) :=
  (List.range 8).map (fun k => (s.ctl k).keys ++ [(deviceSlot, (s.ctl k).dev)])

/-- The trailer of 1 MiB for key slots and an image: the wrapped key slots, and the signature over the digest of the image in ciphertext
with them. -/
def trailerOf (slots : List (List (Nat × Nat))) (cells : Mem) (lines : List (Nat × Nat)) : List Byte :=
  let keys := Config.wrap slots
  let t := keys ++ Config.sign (leBytes 32 (sha3 (Config.cipher cells lines ++ keys)).toNat)
  (t ++ List.replicate (2 ^ 20 - t.length) 0).take (2 ^ 20)

def State.trailer (s : State) : List Byte := trailerOf s.keySlots s.stored s.storedKeys

def execCkpt (f : CtlFrom) (qpn0 qpn1 va0 va1 key0 key1 : Nat) (s : State) : Host.Outcome State Fault Refusal :=
  .next (s.background f 9 (fitStreams qpn0 qpn1 va0 va1 key0 key1) (fun s =>
    if !(s.carries 0 qpn0 && s.carries 1 qpn1) then s.respond f 9 5
    else
      let s := s.cleanSlices
      let s := (List.range 8).foldl (fun s k =>
        let (q, va, key) := if k % 2 = 0 then (qpn0, va0, key0) else (qpn1, va1, key1)
        s.emit (.image (k % 2) q key (va + k / 2 * 2 ^ 36) (2 ^ 36) (s.stackCells k) (s.stackKeys k))) s
      let s := s.emit (.write 0 qpn0 key0 (va0 + 4 * 2 ^ 36) s.trailer)
      { s with back := some (.ckpt f qpn0 qpn1 va0 va1 key0 key1), wrapped := s.wrapped ++ [(s.keySlots, s.storedKeys)] }))

/-- Every write of a checkpoint has been acknowledged, or one has failed. -/
def execCkptComplete (ok : Bool) (s : State) : Host.Outcome State Fault Refusal :=
  match s.back with
  | some (.ckpt f ..) => .next (({ s with back := none }).respond f 9 (if ok then 0 else 5))
  | _ => .next s

/-- `CREST` is accepted when no tenant's ASID is open and no core holds a tenant; the image is read in the same layout. -/
def execCrest (f : CtlFrom) (qpn0 qpn1 va0 va1 key0 key1 : Nat) (s : State) : Host.Outcome State Fault Refusal :=
  .next (s.background f 10 (fitStreams qpn0 qpn1 va0 va1 key0 key1) (fun s =>
    if s.openAsids.any (· != 0) || s.cores.any (fun x => x.2.life != .vacant && x.2.asid != 0) then s.respond f 10 2
    else if !(s.carries 0 qpn0 && s.carries 1 qpn1) then s.respond f 10 5
    else
      let s := (List.range 8).foldl (fun s k =>
        let (q, va, key) := if k % 2 = 0 then (qpn0, va0, key0) else (qpn1, va1, key1)
        s.emit (.read (k % 2) q key (va + k / 2 * 2 ^ 36) (2 ^ 36))) s
      let s := s.emit (.read 0 qpn0 key0 (va0 + 4 * 2 ^ 36) (2 ^ 20))
      { s with back := some (.crest f qpn0 qpn1 va0 va1 key0 key1) }))

/-- The wrapped key slots that the trailer of an image opens to on this device, and the keys of the image's lines (R501): the trailer is the
one that the device writes for them and for this image, so that keys that it has not wrapped, and a signature that fails, open to none. -/
def State.opened (s : State) (image : Mem) : Option (List (List (Nat × Nat)) × List (Nat × Nat)) :=
  let cells := image.filter (fun x => x.1 < 2 ^ 39)
  s.wrapped.find? (fun e => trailerOf e.1 cells e.2 == image.readN (2 ^ 39) (2 ^ 20))

/-- The key slots of a controller are filled. -/
def State.setSlots (s : State) (k : Nat) (l : List (Nat × Nat)) : State :=
  s.setCtl k { s.ctl k with keys := l.filter (fun x => x.1 != deviceSlot), dev := mget l deviceSlot 0, bad := [] }

/-- The reads of an image have finished. Its bytes are named by physical address, its trailer's from 2^39 on. An image that
opens on this device is written, the schedulers' records with it, and its ASIDs are open with their keys; another changes nothing. What is
written whole is no longer in error (R503). -/
def execCrestComplete (ok : Bool) (image : List (Nat × Byte)) (s : State) : Host.Outcome State Fault Refusal :=
  match s.back with
  | some (.crest f ..) =>
    let s : State := { s with back := none }
    let whole := image.foldl (fun (m : Mem) x => m.write x.1 [x.2]) []
    match (if ok then s.opened whole else none) with
    | none => .next (s.respond f 10 5)
    | some (slots, lines) =>
      let m := whole.filter (fun x => x.1 < 2 ^ 39)
      let s : State := { s with hbm := m.filter (fun x => (queueDie x.1).isNone), slices := []
                                hbmKeys := lines.filter (fun x => (queueDie (64 * x.1)).isNone) }
      let s := (List.range 4).foldl (fun (s : State) d => s.modRecs d (fun _ => recordsIn d s.now m)) s
      let s := (List.range 8).foldl (fun (s : State) k => s.setSlots k (slots.getD k [])) s
      let open_ : List Nat := ((slots.flatten.map (·.1)).filter (· != deviceSlot) ++ s.openAsids).eraseDups
      .next (({ s with openAsids := open_ }).respond f 10 0)
  | _ => .next s

/-! ## The Winter die: attestation (R487 to R489) -/

/-- A response of the SPDM responder: version, code and two parameters, then what it carries (DSP0274). -/
def State.spdm (s : State) (code p1 p2 : Nat) (b : List Byte) : State :=
  s.emit (.spdm (leBytes 1 (if code = 0x04 then 0x10 else 0x13) ++ leBytes 1 code ++ leBytes 1 p1 ++ leBytes 1 p2 ++ b))

def State.spdmFails (s : State) (code : Nat) : State := s.spdm 0x7F code 0 []

def execGetVersion (s : State) : Host.Outcome State Fault Refusal :=
  .next (s.spdm 0x04 0 0 (leBytes 1 0 ++ leBytes 1 1 ++ leBytes 2 0x1300))

def execGetCapabilities (s : State) : Host.Outcome State Fault Refusal :=
  .next (s.spdm 0x61 0 0 (leBytes 4 0 ++ leBytes 4 0x16))

/-- The algorithms are fixed: SHA3-256, and ML-DSA-44 through the extended algorithm field. -/
def execNegotiateAlgorithms (s : State) : Host.Outcome State Fault Refusal :=
  .next (s.spdm 0x63 0 0 (leBytes 4 0x08 ++ leBytes 4 Config.algorithm))

def execGetDigests (s : State) : Host.Outcome State Fault Refusal :=
  .next (s.spdm 0x01 0 1 (leBytes 32 (sha3 s.flash.certs).toNat))

/-- Slot 0 holds the device certificate chain. -/
def execGetCertificate (slot offset len : Nat) (s : State) : Host.Outcome State Fault Refusal :=
  if slot ≠ 0 ∨ s.flash.certs.length < offset then .next (s.spdmFails 1)
  else
    let b := (s.flash.certs.drop offset).take len
    .next (s.spdm 0x02 0 0 (leBytes 2 b.length ++ leBytes 2 (s.flash.certs.length - offset - b.length) ++ b))

/-- The bytes of the measurement blocks, in rising order of index (Table 14.6). -/
def measBytes (l : List (Nat × BitVec 256)) : List Byte :=
  l.flatMap (fun x => leBytes 1 x.1 ++ leBytes 32 x.2.toNat)

/-- A response that ends with a nonce and a signature over what it answers and carries. -/
def State.signed (s : State) (code p1 p2 : Nat) (asked b : List Byte) : State :=
  let (n, s) := s.takeFresh
  let b := b ++ leBytes 32 (Config.nonce n).toNat
  s.spdm code p1 p2 (b ++ Config.sign (asked ++ b))

def execChallenge (slot : Nat) (nonce : List Byte) (s : State) : Host.Outcome State Fault Refusal :=
  if slot ≠ 0 then .next (s.spdmFails 1)
  else .next (s.signed 0x03 0 1 nonce (leBytes 32 (sha3 s.flash.certs).toNat))

/-- Measurement blocks: all of them for index 255, their number for index 0, else one. -/
def execGetMeasurements (index : Nat) (sign : Bool) (nonce : List Byte) (s : State) : Host.Outcome State Fault Refusal :=
  let l := if index = 255 then s.meas else s.meas.filter (fun x => x.1 == index)
  if index ≠ 0 ∧ l.isEmpty then .next (s.spdmFails 1)
  else
    let n := if index = 0 then s.meas.length else 0
    let b := if index = 0 then [] else measBytes l
    if sign then .next (s.signed 0x60 n 0 nonce b) else .next (s.spdm 0x60 n 0 b)

/-- Anything else has an `ERROR`. -/
def execSpdmError (code : Nat) (s : State) : Host.Outcome State Fault Refusal := .next (s.spdmFails code)

/-! ## The Munte port, power and cooling (R491, R492, R499) -/

/-- The state set of a chip link or a host port: 1 connected, 2 not. PRESUMED: the values of DSP0249's link state. DESIGN CHOICE: the sensors
of links 0 to 11 have numbers 64 to 75, and those of ports 0 and 1 have 76 and 77. -/
def State.stateSensor (s : State) (n : Nat) : Option Nat :=
  let set (x : LinkSt) : Nat := if x = .up then 1 else 2
  if 64 ≤ n ∧ n < 76 then some (set (s.link (n - 64)).st)
  else if n = 76 ∨ n = 77 then some (set (s.port (n - 76)).st)
  else none

/-- A sensor of Table 14.7: the state of a link or a port is the machine's; powers and temperatures are the environment's. -/
def execPldmSensorRead (sensor : Nat) (s : State) : Host.Outcome State Fault Refusal :=
  match s.stateSensor sensor with
  | some v => .next (s.emit (.pldm (leBytes 4 v)))
  | none =>
    let (n, s) := s.takeFresh
    .next (s.emit (.pldm (leBytes 4 (Config.sensor sensor n).toNat)))

/-- The power cap effecter takes 600 to 2,400 W. -/
def execPowerCapSet (watts : Nat) (s : State) : Host.Outcome State Fault Refusal :=
  .next (if 600 ≤ watts ∧ watts ≤ 2400 then { s with cap := watts } else s)

/-- Restraint changes timing only: it lasts from an average above the cap until one below it. -/
def execPowerCapRestraint (average : Nat) (s : State) : Host.Outcome State Fault Refusal :=
  .next (if s.cap < average then { s with restraint := true }
    else if average < s.cap then { s with restraint := false } else s)

/-- A die's hottest point crosses a threshold of Table 14.10: restraint from 100 °C until it is below 95 °C. -/
def execThermalRestraint (die temp : Nat) (s : State) : Host.Outcome State Fault Refusal :=
  let hot : Bool := s.thermal.any (fun x => x.1 == die)
  .next (if 100 ≤ temp ∧ hot = false then ({ s with thermal := (die, temp) :: s.thermal }).emit (.alert 4)
    else if temp < 95 ∧ hot = true then ({ s with thermal := s.thermal.filter (fun x => x.1 != die) }).emit (.alert 4)
    else s)

/-! ## Power-on (R5, R488, R490, R493, R494) -/

/-- What stays when every die but the Winter die is held in reset. -/
def State.held (s : State) : State :=
  { State.reset with
    agenda := [], flash := s.flash, meas := s.meas, keyNo := s.keyNo, wrapped := s.wrapped, banks := s.banks.filter (fun x => x.1 == 65), cap := s.cap
    locked := s.locked, now := s.now, out := s.out, who := s.who, tape := s.tape, fresh := s.fresh, pktNo := s.pktNo }

/-- At 110 °C every die but the Winter die is held in reset; the contents of HBM are lost. -/
def execThermalTrip (temp : Nat) (s : State) : Host.Outcome State Fault Refusal :=
  .next (if 110 ≤ temp then ({ s.held with tripped := true }).emit (.alert 4) else s)

/-- A reset that the Munte port requests repeats power-on; only the flash memory survives it. -/
def execMunteReset (s : State) : Host.Outcome State Fault Refusal :=
  .next { State.reset with
    flash := s.flash, keyNo := s.keyNo, wrapped := s.wrapped, now := s.now, out := s.out, who := s.who, tape := s.tape, fresh := s.fresh
    pktNo := s.pktNo, agenda := [.powerOn] }

/-- What a block measures (Table 14.6): a die's image followed by its fuses; the route table and the chip number; the manifest with the
service image (R494). -/
def Flash.measured (x : Flash) (index : Nat) : List Byte :=
  match index with
  | 7 => Config.routeBytes (x.chip % 256) x.routes
  | 8 =>
    Config.manifestBytes x.manifest ([x.svc.code, leBytes 8 x.svc.va, leBytes 4 x.svc.lim, leBytes 8 x.svc.ctxEntry] ++ x.svc.handlers ++
      x.svc.frames.flatMap (fun f => [leBytes 8 f.1, f.2]))
  | i => mget x.images i []

/-- A block is measured: its digest is kept. A die passes if the signed manifest holds the same. -/
def State.measure (s : State) (index : Nat) : State × Bool :=
  let d := sha3 (s.flash.measured index)
  let s : State := { s with meas := mset s.meas index d }
  match s.flash.manifest.find? (fun x => x.1 == index) with
  | some x => (s, s.flash.signed && x.2 == d)
  | none => (s, false)

/-- A die leaves reset, or stays there with an alert. -/
def State.release (s : State) (index die : Nat) : State :=
  match s.measure index with
  | (s, true) => { s with released := die :: s.released }
  | (s, false) => s.emit (.alert 3)

/-- The device key slots of a die's two controllers are filled with fresh key pairs (R490, R493). -/
def State.fillDevice (s : State) (d : Nat) : State :=
  [2 * d, 2 * d + 1].foldl (fun (s : State) k =>
    let (n, s) := s.freshKey
    s.setCtl k { s.ctl k with dev := n }) s

/-- A Summer die is measured with its Spring die and released (R493). -/
def State.releaseDie (s : State) (d : Nat) : State :=
  let s := s.release (3 + d) d
  if s.released.contains d then s.fillDevice d else s

/-- A service or supervisor core is loaded with the service image (R494). -/
def State.loadService (s : State) (p : Nat) : State :=
  let x := s.flash.svc
  let c := ((({} : Core).admitted 0).put .code 0 (x.code.take 32768)).setCodeLim x.lim
  let c : Core := { c with codeTag := bits x.va 51 6 }
  s.setCore p ((x.handlers.take 20).foldl (fun c d => c.commit (field d 0 8) (field d 8 8)) c)

/-- The rest of step 3 of R493 in one released die: its scheduler starts, and its service and supervisor cores are loaded. -/
def State.startDie (s : State) (d : Nat) : State :=
  let s := s.setSched d { s.sched d with down := false }
  let s := s.after (2 * us) (.stealRequest d)
  let ps := (List.range 4).map (fun c => s.svcCore (4 * d + c)) ++ [s.supCore d]
  ps.foldl (fun s p => s.loadService p) s

/-- ASID 0 is opened: its page-table set, its context entry and key slot 0 of every controller (R494). -/
def State.openService (s : State) : State :=
  let (n, s) := s.freshKey
  let s := s.flash.svc.frames.foldl (fun s x => s.writePhys x.1 (s.devKey x.1) x.2) s
  let s := (s.writePhys 0 (s.devKey 0) (leBytes 8 s.flash.svc.ctxEntry)).setKeys 0 (some n)
  { s with openAsids := [0] }

/-- Power-on, in the order of R493. A link that the route table names comes up. The count of cycles begins anew (R175). -/
def execPowerOn (s : State) : Host.Outcome State Fault Refusal :=
  if s.tripped ∨ s.released ≠ [] then .next s
  else
    let s : State := [1, 7, 8].foldl (fun (s : State) i => (s.measure i).1) s
    let s : State := { s with chip := s.flash.chip % 256, now := 0 }
    let s := s.release 2 4
    let s : State := if s.released.contains 4 then { s with routes := s.flash.routes } else s
    let s := (s.routes.map (·.2)).foldl (fun s n => s.setLink n { s.link n with st := .up }) s
    let s := s.releaseDie 0
    let s := if s.released.contains 0 then s.openService else s
    let s := ((s.releaseDie 1).releaseDie 2).releaseDie 3
    .next ((List.range 4).foldl (fun s d => if s.released.contains d then s.startDie d else s) s)

end Sys2Proof.Machine
end

