-- ==== Sys2Proof/Machine/Events.lean ====
section
/-! DEFINITION. A step that is not an instruction word, as the state holds it: each runs the meaning that `exec` calls for
the constructor of the same name. -/

namespace Sys2Proof.Machine

open Sys2Proof

def runEvent (e : Event) (s : State) : Host.Outcome State Fault Refusal :=
  match e with
  | .hdLoWrite st v => execHdLoWrite st v s
  | .hdHiWrite st v => execHdHiWrite st v s
  | .codeLimWrite st v => execCodeLimWrite st v s
  | .sysregWrite st c v => execSysregWrite st c v s
  | .illegalEncoding st w cause => execIllegalEncoding st w cause s
  | .illegalHintSequence st hw w => execIllegalHintSequence st hw w s
  | .entryMark place w => execEntryMark place w s
  | .serviceMessageArrival m => execServiceMessageArrival m s
  | .serviceMessageResend m => execServiceMessageResend m s
  | .dispatch place => execDispatch place s
  | .park place => execPark place s
  | .resumable place k => execResumable place k s
  | .watchdogExpiry place => execWatchdogExpiry place s
  | .routerArbitration node out => execRouterArbitration node out s
  | .ageTick id => execAgeTick id s
  | .packetReceive id => execPacketReceive id s
  | .coreRouterAnswer p => execCoreRouterAnswer p s
  | .sliceAccess h r => execSliceAccess h r s
  | .globalReply r => execGlobalReply r s
  | .storeAck r => execStoreAck r s
  | .pageFaultReply r => execPageFaultReply r s
  | .connectionRequestArrival m => execConnectionRequestArrival m s
  | .connectionAnswerArrival m => execConnectionAnswerArrival m s
  | .channelMessageArrival m => execChannelMessageArrival m s
  | .closeNoticeArrival m => execCloseNoticeArrival m s
  | .errorNoticeArrival m => execErrorNoticeArrival m s
  | .endpointMessageArrival m => execEndpointMessageArrival m s
  | .adopterNameArrival m => execAdopterNameArrival m s
  | .redirectArrival m => execRedirectArrival m s
  | .redirectAckArrival m => execRedirectAckArrival m s
  | .forwardedMessageArrival m => execForwardedMessageArrival m s
  | .stubEndArrival m => execStubEndArrival m s
  | .channelRetryResend m => execChannelRetryResend m s
  | .postArrival m => execPostArrival m s
  | .postAnswerArrival place act tag seq code => execPostAnswerArrival place act tag seq code s
  | .controllerConversation ctl m => execControllerConversation ctl m s
  | .transferTake place => execTransferTake place s
  | .copySegmentTranslation r => execCopySegmentTranslation r s
  | .copyUnitArrival u => execCopyUnitArrival u s
  | .copyGetRequestArrival g => execCopyGetRequestArrival g s
  | .copyGetDataArrival d => execCopyGetDataArrival d s
  | .copyRetryResend m => execCopyRetryResend m s
  | .copyRefusalArrival r => execCopyRefusalArrival r s
  | .fillTouch place w unit => execFillTouch place w unit s
  | .fillComplete place w unit => execFillComplete place w unit s
  | .syncWordRaise place spa n => execSyncWordRaise place spa n s
  | .putAckArrival place wcn n => execPutAckArrival place wcn n s
  | .windowPutCheck u => execWindowPutCheck u s
  | .echoRaise place wcn n => execEchoRaise place wcn n s
  | .windowCounterRetry place wcn n tries => execWindowCounterRetry place wcn n tries s
  | .countReport ctl pa n => execCountReport ctl pa n s
  | .arrivalReport ctl idx n => execArrivalReport ctl idx n s
  | .aggregateTimer ctl home idx => execAggregateTimer ctl home idx s
  | .actionAttemptAnswer ctl idx a => execActionAttemptAnswer ctl idx a s
  | .actionRetry ctl idx => execActionRetry ctl idx s
  | .generationAdvance place spa ctl idx => execGenerationAdvance place spa ctl idx s
  | .taskLaunchHandoff die rcd src => execTaskLaunchHandoff die rcd src s
  | .matrixTileGrant grp => execMatrixTileGrant grp s
  | .matrixTileDrain grp diff => execMatrixTileDrain grp diff s
  | .capsuleArrival place c => execCapsuleArrival place c s
  | .capsuleRetryReply c => execCapsuleRetryReply c s
  | .capsuleRetryResend c => execCapsuleRetryResend c s
  | .capsuleEgressSend place => execCapsuleEgressSend place s
  | .dispatchOffer die => execDispatchOffer die s
  | .dispatchArrival place ent rcd => execDispatchArrival place ent rcd s
  | .dispatchAnswerArrival die rid ok => execDispatchAnswerArrival die rid ok s
  | .taskFinishedArrival die rid => execTaskFinishedArrival die rid s
  | .codeImageLoad die place rid => execCodeImageLoad die place rid s
  | .codeImageLoadDone die place rid cls cause => execCodeImageLoadDone die place rid cls cause s
  | .schedulerRestart die => execSchedulerRestart die s
  | .taskTableQuery place die rid => execTaskTableQuery place die rid s
  | .stealRequest die => execStealRequest die s
  | .stealRequestArrival die src pairs => execStealRequestArrival die src pairs s
  | .stolenRecordArrival die src rcd => execStolenRecordArrival die src rcd s
  | .stealAckArrival die src tag => execStealAckArrival die src tag s
  | .lendTimerExpiry die tag => execLendTimerExpiry die tag s
  | .confirmationArrival die src tag => execConfirmationArrival die src tag s
  | .revocationArrival die src tag => execRevocationArrival die src tag s
  | .takenArrival die src tag => execTakenArrival die src tag s
  | .lentQueryArrival die src tag => execLentQueryArrival die src tag s
  | .heldAnswerArrival die src tag => execHeldAnswerArrival die src tag s
  | .unknownAnswerArrival die src tag => execUnknownAnswerArrival die src tag s
  | .heldQueryArrival die src tag => execHeldQueryArrival die src tag s
  | .gangReserve gang asid => execGangReserve gang asid s
  | .gangHoldExpiry gang asid epoch => execGangHoldExpiry gang asid epoch s
  | .forkChunkDispatch unit cell => execForkChunkDispatch unit cell s
  | .childDoneCount unit cell gen chunk place => execChildDoneCount unit cell gen chunk place s
  | .continuationResend place w => execContinuationResend place w s
  | .childFailure unit cell gen chunk place sealed => execChildFailure unit cell gen chunk place sealed s
  | .pairedHashArrival p engine num h => execPairedHashArrival p engine num h s
  | .pairedInputCopy q p => execPairedInputCopy q p s
  | .pairedHashTimeout p engine num => execPairedHashTimeout p engine num s
  | .pairedFreezeTimeout p => execPairedFreezeTimeout p s
  | .evictionStream place => execEvictionStream place s
  | .ethernetFrameReceive port len fcsOk ip tags other => execEthernetFrameReceive port len fcsOk ip tags other s
  | .portLinkTraining port => execPortLinkTraining port s
  | .cmConnection port qpn mtu => execCmConnection port qpn mtu s
  | .rdmaWrite o bytes => execRdmaWrite o bytes s
  | .rdmaWriteWithImmediate o bytes imm => execRdmaWriteWithImmediate o bytes imm s
  | .rdmaRead o n => execRdmaRead o n s
  | .controlSend port qpn bytes => execControlSend port qpn bytes s
  | .ecnMarkedPacket port qpn => execEcnMarkedPacket port qpn s
  | .cnpReceive port qpn => execCnpReceive port qpn s
  | .rateRestore port qpn => execRateRestore port qpn s
  | .launch f asid va => execLaunch f asid va s
  | .topen f asid entry => execTopen f asid entry s
  | .tclose f asid => execTclose f asid s
  | .tset f asid mask qage high low => execTset f asid mask qage high low s
  | .qres f port qpn => execQres f port qpn s
  | .supv f die bytes => execSupv f die bytes s
  | .svcClusterReset f target => execSvcClusterReset f target s
  | .clusterResetTimeout clus => execClusterResetTimeout clus s
  | .svcLinkRetrain f link => execSvcLinkRetrain f link s
  | .svcPortRetrain f port => execSvcPortRetrain f port s
  | .retrainComplete isPort n => execRetrainComplete isPort n s
  | .retrainTimeout isPort n => execRetrainTimeout isPort n s
  | .ebank f bank half clear => execEbank f bank half clear s
  | .ckpt f qpn0 qpn1 va0 va1 key0 key1 => execCkpt f qpn0 qpn1 va0 va1 key0 key1 s
  | .ckptComplete ok => execCkptComplete ok s
  | .crest f qpn0 qpn1 va0 va1 key0 key1 => execCrest f qpn0 qpn1 va0 va1 key0 key1 s
  | .lock f on => execLock f on s
  | .linkFrameReceive link f => execLinkFrameReceive link f s
  | .replayRequestReceive link fseq => execReplayRequestReceive link fseq s
  | .routeTableWrite chip link => execRouteTableWrite chip link s
  | .getVersion => execGetVersion s
  | .getCapabilities => execGetCapabilities s
  | .negotiateAlgorithms => execNegotiateAlgorithms s
  | .getDigests => execGetDigests s
  | .getCertificate slot offset len => execGetCertificate slot offset len s
  | .challenge slot nonce => execChallenge slot nonce s
  | .getMeasurements index sign nonce => execGetMeasurements index sign nonce s
  | .spdmError code => execSpdmError code s
  | .pldmSensorRead sensor => execPldmSensorRead sensor s
  | .powerCapSet watts => execPowerCapSet watts s
  | .pldmReadAndClear bank => execPldmReadAndClear bank s
  | .errorArrival e => execErrorArrival e s
  | .powerOn => execPowerOn s
  | .munteReset => execMunteReset s
  | .powerCapRestraint average => execPowerCapRestraint average s
  | .thermalRestraint die temp => execThermalRestraint die temp s
  | .thermalTrip temp => execThermalTrip temp s
  | .schedulerResetOrPowerGating die => execSchedulerResetOrPowerGating die s
  | .schedulerMessageResend p tries => execSchedulerMessageResend p tries s
  | .egressQueueAcceptanceReport place act seq part => execEgressQueueAcceptanceReport place act seq part s
  | .regionCommandAcknowledgement place act seq val => execRegionCommandAcknowledgement place act seq val s
  | .crestComplete ok image => execCrestComplete ok image s
  | .deliver p => .next (s.deliverPkt p)
  | .controlMalformed f op => .next (s.malformedControl f op)

end Sys2Proof.Machine
end

