-- ==== Sys2Proof/Machine/Agents.lean ====
section
/-! DEFINITION. Who could move next: the queues of inputs of each unit, due timers, the engines' own steps, streams that
could issue, and the passing of time. -/

namespace Sys2Proof.Machine

open Sys2Proof

/-! ## The inputs that are taken next -/

/-- The age of a request that waits at a slice or a bank. What a unit has begun goes first. -/
def ageOfInput (e : Event) : Nat :=
  match e with
  | .deliver k | .coreRouterAnswer k => k.age
  | _ => 4096

/-- The source of a packet that waits. -/
def sourceOfInput (e : Event) : Option (Nat × Nat) :=
  match e with
  | .deliver k | .coreRouterAnswer k => some (k.skind, k.src)
  | _ => none

/-- A request for the banks of a core's SP: a unit to write or to read. -/
def bankRequest (e : Event) : Bool :=
  match e with
  | .coreRouterAnswer k =>
    match k.msg with
    | .copyUnit _ | .getReq _ => true
    | _ => false
  | .copyUnitArrival _ | .windowPutCheck _ | .copyGetRequestArrival _ => true
  | _ => false

/-- What reaches a capsule router, which waits while a record of its own has not been accepted (R34, R426). -/
def capsuleTraffic (e : Event) : Bool :=
  match e with
  | .coreRouterAnswer k =>
    match k.msg with
    | .capsule _ | .capRetry _ | .capRefused _ => true
    | _ => false
  | .capsuleArrival .. => true
  | _ => false

/-- The line of global memory that a request at a slice touches. -/
def lineOfInput (e : Event) : Option (Nat × Nat) :=
  match e with
  | .deliver k =>
    match k.msg with
    | .access _ r => some (r.asid, r.va / 64)
    | .copyUnit u => match u.dst with | .glob va | .chipGlob _ va => some (u.asid, va / 64) | _ => none
    | .getReq g => match g.src with | .glob va | .chipGlob _ va => some (g.asid, va / 64) | _ => none
    | _ => none
  | _ => none

/-- Whether a request may not pass another that came before it: it has the same source, or touches the same line, whose requests a slice
serves in the order in which the fabric brought them (R93). -/
def keepsBehind (x e : Event) : Bool :=
  sourceOfInput x == sourceOfInput e || (match lineOfInput x with | some l => lineOfInput e == some l | none => false)

/-- The requests that none before them holds back. -/
def unheld : List Event → List Event → List Event
  | _, [] => []
  | before, e :: r => if before.any (fun x => keepsBehind x e) then unheld (before ++ [e]) r else e :: unheld (before ++ [e]) r

/-- The input that a slice or a bank serves next: the oldest, as in R26, of those that none before them holds back (R106). All come by
one input, that of the router at which the unit attaches, so that R26's loss counts and input numbers tell none of equal age apart: the first
that came goes first. -/
def oldest (q : List Event) : Option Event :=
  firstBy (fun x y => decide (ageOfInput y < ageOfInput x)) (unheld [] q)

/-- The inputs of which a unit takes one next: a slice the oldest; a core the oldest of those for its banks (R106), the first of its capsule
traffic, or the first of the others; another unit the first that came. -/
def nextInputs (u : Nat × Nat) (q : List Event) : List Event :=
  if u.1 = 2 then (oldest q).toList
  else if u.1 = 0 then (oldest (q.filter bankRequest)).toList ++ (q.find? capsuleTraffic).toList ++
    (q.find? (fun e => !bankRequest e && !capsuleTraffic e)).toList
  else q.head?.toList

/-- The inputs that the units may take next. -/
def heads (l : List Event) : List Event :=
  (l.map inputOf).eraseDups.flatMap (fun u => nextInputs u (l.filter (fun e => inputOf e == u)))

/-- The input that a slice serves next. -/
def State.sliceNext (s : State) (h : Nat) : Option Event := oldest (s.agenda.filter (fun e => inputOf e == (2, h)))

/-- The address that a slice has to walk for the request it serves next: of an access whose translation it does not keep and, for a read,
whose line it does not hold (R202, R211). -/
def State.walkFor (s : State) (h : Nat) : Option (Nat × Nat) :=
  match s.sliceNext h with
  | some (.deliver k) =>
    match k.msg with
    | .access _ r =>
      let hit := ((s.slice h).line r.asid r.va).isSome
      let needs := match r.op with
        | .xprobe | .pf => false
        | .load => !hit
        | _ => true
      if needs && !r.win && ((s.slice h).keptFor r.asid r.va).isNone && (s.keyOf (stackOf (8 * r.asid)) r.asid).isSome then
        some (r.asid, r.va) else none
    | _ => none
  | _ => none

/-- A slice reads one entry of its walk (R211); what it has read so far is kept for the request. -/
def State.walkTurn (s : State) (h : Nat) : State :=
  match s.walkFor h with
  | none => s
  | some (asid, va) =>
    let x := s.slice h
    s.setSlice h { x with walking := some { asid := asid, va := va, at_ := s.walkStep asid va (x.walkAt asid va) } }

/-- The slices at which inputs wait. -/
def State.busySlices (s : State) : List Nat :=
  ((s.agenda.map inputOf).filterMap (fun u => if u.1 = 2 then some u.2 else none)).eraseDups

/-- Whether the unit that takes an input waits until a record of it has been accepted (R34), or the directory until it has performed the
control message that it is at (R477). A gang's records are its die's scheduler's. -/
def State.pausedFor (s : State) (e : Event) : Bool :=
  let out (kind name : Nat) : Bool := s.recFly.any (fun x => x.1 == kind * 2 ^ 20 + name)
  match inputOf e with
  | (1, k) => out 1 (s.ctlName k)
  | (3, d) => out 3 (s.schedName d)
  | (6, _) => out 4 (s.chip * 4096)
  | (9, _) => (match s.control with | some x => x != e | none => false) || out 4 (s.chip * 4096)
  | _ =>
    match e with
    | .coreRouterAnswer k => capsuleTraffic e && s.routerPaused k.dst
    | .capsuleArrival p _ | .capsuleEgressSend p => s.routerPaused p
    | .capsuleRetryReply m | .capsuleRetryResend m => s.routerPaused m.sender
    | .aggregateTimer k .. => out 1 (s.ctlName k)
    | .dispatchOffer d | .codeImageLoad d .. | .stealRequest d | .lendTimerExpiry d _ => out 3 (s.schedName d)
    | .gangReserve g a | .gangHoldExpiry g a _ =>
      match s.gangs.find? (fun x => x.gang == g && x.asid == a) with
      | some x => out 3 (s.schedName (match x.members.head? with | some r => r.die | none => 0))
      | none => false
    | _ => false

/-- The timers that are due. -/
def State.dueEvents (s : State) : List Event := (s.timers.filter (fun x => x.1 ≤ s.now)).map (·.2)

/-! ## Steps that units take of themselves -/

/-- Steps of the table that a core's units may take. -/
def State.coreEvents (s : State) (p : Nat) : List Event :=
  let c := s.core p
  [.dispatch p, .park p, .watchdogExpiry p, .transferTake p, .capsuleEgressSend p, .evictionStream p] ++
    (List.range c.ctxs.length).map (.resumable p) ++
    (List.range 4).flatMap (fun w => (List.range 64).map (.fillTouch p w)) ++ c.filling.map (fun f => .fillComplete p f.win f.unit)

/-- Steps of the fabric. -/
def State.netEvents (s : State) : List Event :=
  s.net.flatMap (fun t =>
    [.packetReceive t.pkt.id, .ageTick t.pkt.id] ++
      match t.out with
      | some o => [.routerArbitration t.node o]
      | none => [])

/-- Steps of the schedulers, the directory and the fork units. -/
def State.schedEvents (s : State) : List Event :=
  (List.range 4).flatMap (fun d =>
    .dispatchOffer d :: (match s.firstReady d (fun _ => true) with
      | some r => (s.diePlaces d).map (fun p => .codeImageLoad d p r.rid)
      | none => [])) ++
    s.gangs.map (fun g => .gangReserve g.gang g.asid) ++
    s.forks.flatMap (fun x => x.2.cells.map (fun y => .forkChunkDispatch x.1 y.1))

/-- What links, ports and a cluster's reset may do. -/
def State.systemEvents (s : State) : List Event :=
  s.resetting.map .clusterResetTimeout ++ (s.links.map (fun x => .retrainComplete false x.1)) ++
    (s.ports.map (fun x => .retrainComplete true x.1))

/-- Whether a core's activation has held it for more cycles than `wdog.lim` (R169). -/
def Core.expired (c : Core) : Bool :=
  c.life == .running && (match c.act with | some a => c.wdogLim < a.cyc | none => false)

/-- All that could take a turn; time can always pass. While an activation has exceeded `wdog.lim`, only its core's watchdog can
(R169, R170). -/
def State.turns (s : State) : List Turn :=
  let ps := s.cores.map (·.1)
  let late := ps.filter (fun p => (s.core p).expired)
  if !late.isEmpty then late.map (fun p => .event (.watchdogExpiry p)) else
  let es := heads s.agenda ++ s.dueEvents ++ ps.flatMap s.coreEvents ++
    s.groups.flatMap (fun g => [.matrixTileGrant g.1, .matrixTileDrain g.1 []]) ++ ps.map (fun p => .matrixTileGrant (groupOf p)) ++
    s.netEvents ++ s.schedEvents ++ s.systemEvents
  (es.filter (fun e => !s.pausedFor e)).map .event ++
    ps.flatMap (fun p => [.issue p .a, .issue p .e, .both p]) ++
    ps.flatMap (fun p => [2, 3, 5, 6, 7, 8, 9].map (.drain p)) ++
    ps.flatMap (fun p => (s.core p).lsq.map (fun x => .lsu p x.cmd.seq)) ++
    ps.flatMap (fun p => (s.core p).xfers.map (fun x => .copyUnit p x.ctx)) ++
    ps.flatMap (fun p => (s.core p).filling.map (fun f => .fillUnit p f.win f.unit)) ++
    s.groups.map (fun g => .array g.1) ++ s.busySlices.map .walk ++ [.replay, .tick]

/-! ## Both streams in one cycle (R124) -/

/-- A core whose access stream has just faulted, as its execute stream sees it in the same cycle. -/
def State.sameCycle (s t : State) (p : Nat) : State :=
  if (s.core p).life = .running ∧ (t.core p).life = .frozen then t.modCore p (fun c => { c with life := .running }) else t

/-- What both streams' words have done: `t` is the state after the access stream's word and `u` after the execute stream's. The
execute stream's counts only where both have faulted. -/
def State.bothFaulted (s t u : State) (p : Nat) : State :=
  if (s.core p).life = .running ∧ (t.core p).life = .frozen ∧ (u.core p).life = .frozen then u else t

/-! ## Time (R3, R169) -/

/-- A request that waits at a slice or a bank for another 32 fabric cycles ages by one more, as in a router's buffer (R25), so that its
wait is bounded (R106). -/
def olderInput (e : Event) : Event :=
  match e with
  | .deliver k => .deliver { k with age := min 4095 (k.age + 1) }
  | .coreRouterAnswer k => .coreRouterAnswer { k with age := min 4095 (k.age + 1) }
  | e => e

/-- A core cycle passes: an activation that holds its core counts it, and a core that is not free will be so in the next at the
earliest (R444). -/
def State.tick (s : State) : State :=
  { s with
    now := s.now + 1
    agenda := if (s.now + 1) % (32 * fabricCycle) = 0 then s.agenda.map olderInput else s.agenda
    cores := s.cores.map (fun x =>
      let c := if x.2.idle then x.2 else { x.2 with freeAt := s.now + 1 }
      (x.1, if c.life = .running then { c with act := c.act.map c.heldCycle } else c)) }

/-- An event of the agenda, or one that is due, is taken from there. -/
def State.takeEvent (s : State) (e : Event) : State :=
  if s.agenda.contains e then { s with agenda := s.agenda.erase e }
  else
    match s.timers.findIdx? (fun x => x.1 ≤ s.now && x.2 == e) with
    | some i => { s with timers := s.timers.eraseIdx i }
    | none => s

end Sys2Proof.Machine
end

