-- ==== Sys2Proof/Machine/Dispatch.lean ====
section
/-! DEFINITION. `exec`: each instruction and event has one arm, which calls its meaning. -/

namespace Sys2Proof.Machine

open Sys2Proof

def exec (i : Instr) (s : State) : Host.Outcome State Fault Refusal :=
  match i with
  | .hintImm st n => Sys2Proof.Machine.execHintImm st n s
  | .hintRnd st m => Sys2Proof.Machine.execHintRnd st m s
  | .hintSat st => Sys2Proof.Machine.execHintSat st s
  | .hintSched st k => Sys2Proof.Machine.execHintSched st k s
  | .hintNt st => Sys2Proof.Machine.execHintNt st s
  | .add st d a b => Sys2Proof.Machine.execAdd st d a b s
  | .sub st d a b => Sys2Proof.Machine.execSub st d a b s
  | .and st d a b => Sys2Proof.Machine.execAnd st d a b s
  | .or st d a b => Sys2Proof.Machine.execOr st d a b s
  | .xor st d a b => Sys2Proof.Machine.execXor st d a b s
  | .andn st d a b => Sys2Proof.Machine.execAndn st d a b s
  | .orn st d a b => Sys2Proof.Machine.execOrn st d a b s
  | .sll st d a b => Sys2Proof.Machine.execSll st d a b s
  | .srl st d a b => Sys2Proof.Machine.execSrl st d a b s
  | .sra st d a b => Sys2Proof.Machine.execSra st d a b s
  | .rol st d a b => Sys2Proof.Machine.execRol st d a b s
  | .slt st d a b => Sys2Proof.Machine.execSlt st d a b s
  | .sltu st d a b => Sys2Proof.Machine.execSltu st d a b s
  | .seq st d a b => Sys2Proof.Machine.execSeq st d a b s
  | .sne st d a b => Sys2Proof.Machine.execSne st d a b s
  | .min st d a b => Sys2Proof.Machine.execMin st d a b s
  | .max st d a b => Sys2Proof.Machine.execMax st d a b s
  | .minu st d a b => Sys2Proof.Machine.execMinu st d a b s
  | .maxu st d a b => Sys2Proof.Machine.execMaxu st d a b s
  | .sel st d a b c => Sys2Proof.Machine.execSel st d a b c s
  | .mul st d a b => Sys2Proof.Machine.execMul st d a b s
  | .mulh st d a b => Sys2Proof.Machine.execMulh st d a b s
  | .mulhu st d a b => Sys2Proof.Machine.execMulhu st d a b s
  | .div st d a b => Sys2Proof.Machine.execDiv st d a b s
  | .divu st d a b => Sys2Proof.Machine.execDivu st d a b s
  | .rem st d a b => Sys2Proof.Machine.execRem st d a b s
  | .remu st d a b => Sys2Proof.Machine.execRemu st d a b s
  | .clz st d a => Sys2Proof.Machine.execClz st d a s
  | .ctz st d a => Sys2Proof.Machine.execCtz st d a s
  | .popc st d a => Sys2Proof.Machine.execPopc st d a s
  | .bswap st d a => Sys2Proof.Machine.execBswap st d a s
  | .addi st d a im => Sys2Proof.Machine.execAddi st d a im s
  | .andi st d a im => Sys2Proof.Machine.execAndi st d a im s
  | .ori st d a im => Sys2Proof.Machine.execOri st d a im s
  | .xori st d a im => Sys2Proof.Machine.execXori st d a im s
  | .slti st d a im => Sys2Proof.Machine.execSlti st d a im s
  | .sltiu st d a im => Sys2Proof.Machine.execSltiu st d a im s
  | .slli st d a h => Sys2Proof.Machine.execSlli st d a h s
  | .srli st d a h => Sys2Proof.Machine.execSrli st d a h s
  | .srai st d a h => Sys2Proof.Machine.execSrai st d a h s
  | .lim st d im => Sys2Proof.Machine.execLim st d im s
  | .bfx st d a p l => Sys2Proof.Machine.execBfx st d a p l s
  | .bfxu st d a p l => Sys2Proof.Machine.execBfxu st d a p l s
  | .bfi st d a p l => Sys2Proof.Machine.execBfi st d a p l s
  | .beq st h a b o => Sys2Proof.Machine.execBeq st h a b o s
  | .bne st h a b o => Sys2Proof.Machine.execBne st h a b o s
  | .blt st h a b o => Sys2Proof.Machine.execBlt st h a b o s
  | .bge st h a b o => Sys2Proof.Machine.execBge st h a b o s
  | .bltu st h a b o => Sys2Proof.Machine.execBltu st h a b o s
  | .bgeu st h a b o => Sys2Proof.Machine.execBgeu st h a b o s
  | .j st t => Sys2Proof.Machine.execJ st t s
  | .jal st d t => Sys2Proof.Machine.execJal st d t s
  | .jr st a => Sys2Proof.Machine.execJr st a s
  | .jalr st d a => Sys2Proof.Machine.execJalr st d a s
  | .done st => Sys2Proof.Machine.execDone st s
  | .csrr st d c => Sys2Proof.Machine.execCsrr st d c s
  | .csrw st a c => Sys2Proof.Machine.execCsrw st a c s
  | .csrs st a c => Sys2Proof.Machine.execCsrs st a c s
  | .csrc st a c => Sys2Proof.Machine.execCsrc st a c s
  | .nop st => Sys2Proof.Machine.execNop st s
  | .wfld st d q => Sys2Proof.Machine.execWfld st d q s
  | .qcnt st d q => Sys2Proof.Machine.execQcnt st d q s
  | .hdLoWrite st v => Sys2Proof.Machine.execHdLoWrite st v s
  | .hdHiWrite st v => Sys2Proof.Machine.execHdHiWrite st v s
  | .codeLimWrite st v => Sys2Proof.Machine.execCodeLimWrite st v s
  | .sysregWrite st c v => Sys2Proof.Machine.execSysregWrite st c v s
  | .lds d a z o => Sys2Proof.Machine.execLds d a z o s
  | .sts b a z o => Sys2Proof.Machine.execSts b a z o s
  | .ldg d a z o => Sys2Proof.Machine.execLdg d a z o s
  | .stg b a z o => Sys2Proof.Machine.execStg b a z o s
  | .amoAddSp d a b z => Sys2Proof.Machine.execAmoAddSp d a b z s
  | .amoAndSp d a b z => Sys2Proof.Machine.execAmoAndSp d a b z s
  | .amoOrSp d a b z => Sys2Proof.Machine.execAmoOrSp d a b z s
  | .amoXorSp d a b z => Sys2Proof.Machine.execAmoXorSp d a b z s
  | .amoMinSp d a b z => Sys2Proof.Machine.execAmoMinSp d a b z s
  | .amoMaxSp d a b z => Sys2Proof.Machine.execAmoMaxSp d a b z s
  | .amoMinuSp d a b z => Sys2Proof.Machine.execAmoMinuSp d a b z s
  | .amoMaxuSp d a b z => Sys2Proof.Machine.execAmoMaxuSp d a b z s
  | .amoSwapSp d a b z => Sys2Proof.Machine.execAmoSwapSp d a b z s
  | .casSp d a b c z => Sys2Proof.Machine.execCasSp d a b c z s
  | .amoAddGlobal d a b z => Sys2Proof.Machine.execAmoAddGlobal d a b z s
  | .amoAndGlobal d a b z => Sys2Proof.Machine.execAmoAndGlobal d a b z s
  | .amoOrGlobal d a b z => Sys2Proof.Machine.execAmoOrGlobal d a b z s
  | .amoXorGlobal d a b z => Sys2Proof.Machine.execAmoXorGlobal d a b z s
  | .amoMinGlobal d a b z => Sys2Proof.Machine.execAmoMinGlobal d a b z s
  | .amoMaxGlobal d a b z => Sys2Proof.Machine.execAmoMaxGlobal d a b z s
  | .amoMinuGlobal d a b z => Sys2Proof.Machine.execAmoMinuGlobal d a b z s
  | .amoMaxuGlobal d a b z => Sys2Proof.Machine.execAmoMaxuGlobal d a b z s
  | .amoSwapGlobal d a b z => Sys2Proof.Machine.execAmoSwapGlobal d a b z s
  | .casGlobal d a b c z => Sys2Proof.Machine.execCasGlobal d a b c z s
  | .fence sc => Sys2Proof.Machine.execFence sc s
  | .fenceQ m => Sys2Proof.Machine.execFenceQ m s
  | .xprobe d a o => Sys2Proof.Machine.execXprobe d a o s
  | .pf a o => Sys2Proof.Machine.execPf a o s
  | .send e a b t => Sys2Proof.Machine.execSend e a b t s
  | .recv e d a t => Sys2Proof.Machine.execRecv e d a t s
  | .offer e d => Sys2Proof.Machine.execOffer e d s
  | .select e l => Sys2Proof.Machine.execSelect e l s
  | .close e st => Sys2Proof.Machine.execClose e st s
  | .deleg e x => Sys2Proof.Machine.execDeleg e x s
  | .adopt e x => Sys2Proof.Machine.execAdopt e x s
  | .epBind e a => Sys2Proof.Machine.execEpBind e a s
  | .epConn e d a b => Sys2Proof.Machine.execEpConn e d a b s
  | .epAcc e d a => Sys2Proof.Machine.execEpAcc e d a s
  | .epSt e d => Sys2Proof.Machine.execEpSt e d s
  | .atLoad e d a => Sys2Proof.Machine.execAtLoad e d a s
  | .epShr e d a => Sys2Proof.Machine.execEpShr e d a s
  | .post d a b => Sys2Proof.Machine.execPost d a b s
  | .cpGet a b c l => Sys2Proof.Machine.execCpGet a b c l s
  | .cpPut a b c l => Sys2Proof.Machine.execCpPut a b c l s
  | .cpGath a b c l => Sys2Proof.Machine.execCpGath a b c l s
  | .cpScat a b c l => Sys2Proof.Machine.execCpScat a b c l s
  | .cpUnpk a b c l => Sys2Proof.Machine.execCpUnpk a b c l s
  | .cpPack a b c l => Sys2Proof.Machine.execCpPack a b c l s
  | .cpFill a b c l => Sys2Proof.Machine.execCpFill a b c l s
  | .cpSeal d => Sys2Proof.Machine.execCpSeal d s
  | .cpWait a => Sys2Proof.Machine.execCpWait a s
  | .cpSt d a => Sys2Proof.Machine.execCpSt d a s
  | .fwSet a b c => Sys2Proof.Machine.execFwSet a b c s
  | .fwClr a => Sys2Proof.Machine.execFwClr a s
  | .swInit a b => Sys2Proof.Machine.execSwInit a b s
  | .swWait a b => Sys2Proof.Machine.execSwWait a b s
  | .swRd d a => Sys2Proof.Machine.execSwRd d a s
  | .rgArm a b c => Sys2Proof.Machine.execRgArm a b c s
  | .rgDisarm a => Sys2Proof.Machine.execRgDisarm a s
  | .rgAdd a b => Sys2Proof.Machine.execRgAdd a b s
  | .rgRd d a => Sys2Proof.Machine.execRgRd d a s
  | .rgBind a b => Sys2Proof.Machine.execRgBind a b s
  | .wnReg d a b w => Sys2Proof.Machine.execWnReg d a b w s
  | .wnUnreg a => Sys2Proof.Machine.execWnUnreg a s
  | .wnCc d w => Sys2Proof.Machine.execWnCc d w s
  | .wnWait a w => Sys2Proof.Machine.execWnWait a w s
  | .capNew d a p => Sys2Proof.Machine.execCapNew d a p s
  | .capFwd p => Sys2Proof.Machine.execCapFwd p s
  | .capIns a k p => Sys2Proof.Machine.execCapIns a k p s
  | .capDel k p => Sys2Proof.Machine.execCapDel k p s
  | .capRep a k p => Sys2Proof.Machine.execCapRep a k p s
  | .capRd d k p => Sys2Proof.Machine.execCapRd d k p s
  | .capDiv a p => Sys2Proof.Machine.execCapDiv a p s
  | .capRet p => Sys2Proof.Machine.execCapRet p s
  | .capKill p => Sys2Proof.Machine.execCapKill p s
  | .capHdr d a p => Sys2Proof.Machine.execCapHdr d a p s
  | .vadd d a b sl => Sys2Proof.Machine.execVadd d a b sl s
  | .vsub d a b sl => Sys2Proof.Machine.execVsub d a b sl s
  | .vmul d a b sl => Sys2Proof.Machine.execVmul d a b sl s
  | .vfma d a b sl => Sys2Proof.Machine.execVfma d a b sl s
  | .vfms d a b sl => Sys2Proof.Machine.execVfms d a b sl s
  | .vmax d a b sl => Sys2Proof.Machine.execVmax d a b sl s
  | .vmin d a b sl => Sys2Proof.Machine.execVmin d a b sl s
  | .vabs d a sl => Sys2Proof.Machine.execVabs d a sl s
  | .vneg d a sl => Sys2Proof.Machine.execVneg d a sl s
  | .vcmpEq d a b sl => Sys2Proof.Machine.execVcmpEq d a b sl s
  | .vcmpNe d a b sl => Sys2Proof.Machine.execVcmpNe d a b sl s
  | .vcmpLt d a b sl => Sys2Proof.Machine.execVcmpLt d a b sl s
  | .vcmpLe d a b sl => Sys2Proof.Machine.execVcmpLe d a b sl s
  | .vrsum d a sl => Sys2Proof.Machine.execVrsum d a sl s
  | .vrmax d a sl => Sys2Proof.Machine.execVrmax d a sl s
  | .vexp2 d a sl => Sys2Proof.Machine.execVexp2 d a sl s
  | .vlog2 d a sl => Sys2Proof.Machine.execVlog2 d a sl s
  | .vrcp d a sl => Sys2Proof.Machine.execVrcp d a sl s
  | .vrsqrt d a sl => Sys2Proof.Machine.execVrsqrt d a sl s
  | .vaddI d a b sl => Sys2Proof.Machine.execVaddI d a b sl s
  | .vsubI d a b sl => Sys2Proof.Machine.execVsubI d a b sl s
  | .vmli d a b sl => Sys2Proof.Machine.execVmli d a b sl s
  | .vmaxI d a b sl => Sys2Proof.Machine.execVmaxI d a b sl s
  | .vminI d a b sl => Sys2Proof.Machine.execVminI d a b sl s
  | .vabsI d a sl => Sys2Proof.Machine.execVabsI d a sl s
  | .vnegI d a sl => Sys2Proof.Machine.execVnegI d a sl s
  | .vand d a b sl => Sys2Proof.Machine.execVand d a b sl s
  | .vor d a b sl => Sys2Proof.Machine.execVor d a b sl s
  | .vxor d a b sl => Sys2Proof.Machine.execVxor d a b sl s
  | .vshl d a b sl => Sys2Proof.Machine.execVshl d a b sl s
  | .vshr d a b sl => Sys2Proof.Machine.execVshr d a b sl s
  | .vsra d a b sl => Sys2Proof.Machine.execVsra d a b sl s
  | .vcmpEqI d a b sl => Sys2Proof.Machine.execVcmpEqI d a b sl s
  | .vcmpNeI d a b sl => Sys2Proof.Machine.execVcmpNeI d a b sl s
  | .vcmpLtI d a b sl => Sys2Proof.Machine.execVcmpLtI d a b sl s
  | .vcmpLeI d a b sl => Sys2Proof.Machine.execVcmpLeI d a b sl s
  | .vcmpLtu d a b sl => Sys2Proof.Machine.execVcmpLtu d a b sl s
  | .vrsumI d a sl => Sys2Proof.Machine.execVrsumI d a sl s
  | .vrmaxI d a sl => Sys2Proof.Machine.execVrmaxI d a sl s
  | .vclmul d a b sl => Sys2Proof.Machine.execVclmul d a b sl s
  | .vclmulh d a b sl => Sys2Proof.Machine.execVclmulh d a b sl s
  | .vmov d a sl => Sys2Proof.Machine.execVmov d a sl s
  | .vsel d a b sl => Sys2Proof.Machine.execVsel d a b sl s
  | .vtr d a => Sys2Proof.Machine.execVtr d a s
  | .vperm d a b sl => Sys2Proof.Machine.execVperm d a b sl s
  | .vrot d a b sl => Sys2Proof.Machine.execVrot d a b sl s
  | .vcvtFb d a sl => Sys2Proof.Machine.execVcvtFb d a sl s
  | .vcvtBf d a sl => Sys2Proof.Machine.execVcvtBf d a sl s
  | .vcvtFi d a sl => Sys2Proof.Machine.execVcvtFi d a sl s
  | .vcvtIf d a sl => Sys2Proof.Machine.execVcvtIf d a sl s
  | .vcvtI8 d a sl => Sys2Proof.Machine.execVcvtI8 d a sl s
  | .vbcast t r sl => Sys2Proof.Machine.execVbcast t r sl s
  | .vins t r ix io => Sys2Proof.Machine.execVins t r ix io s
  | .vext t r ix io => Sys2Proof.Machine.execVext t r ix io s
  | .ltab t n ix io => Sys2Proof.Machine.execLtab t n ix io s
  | .vld t b p sl => Sys2Proof.Machine.execVld t b p sl s
  | .vst t b p sl => Sys2Proof.Machine.execVst t b p sl s
  | .vunpkF t b p sl => Sys2Proof.Machine.execVunpkF t b p sl s
  | .vunpkBf t b p sl => Sys2Proof.Machine.execVunpkBf t b p sl s
  | .vpkE2m1 t b p sl => Sys2Proof.Machine.execVpkE2m1 t b p sl s
  | .vpkLut4 t b p sl => Sys2Proof.Machine.execVpkLut4 t b p sl s
  | .vpkE4m3 t b p sl => Sys2Proof.Machine.execVpkE4m3 t b p sl s
  | .vpkE5m2 t b p sl => Sys2Proof.Machine.execVpkE5m2 t b p sl s
  | .vpkInt8 t b p sl => Sys2Proof.Machine.execVpkInt8 t b p sl s
  | .mma x y w c => Sys2Proof.Machine.execMma x y w c s
  | .mmaBf16 x y w c => Sys2Proof.Machine.execMmaBf16 x y w c s
  | .mmZero c => Sys2Proof.Machine.execMmZero c s
  | .mmSt x => Sys2Proof.Machine.execMmSt x s
  | .mmFence => Sys2Proof.Machine.execMmFence s
  | .mmCfg x => Sys2Proof.Machine.execMmCfg x s
  | .spawn d a => Sys2Proof.Machine.execSpawn d a s
  | .gang d a b => Sys2Proof.Machine.execGang d a b s
  | .fork d a b => Sys2Proof.Machine.execFork d a b s
  | .join d a => Sys2Proof.Machine.execJoin d a s
  | .hpri a h => Sys2Proof.Machine.execHpri a h s
  | .hmsk h => Sys2Proof.Machine.execHmsk h s
  | .humsk h => Sys2Proof.Machine.execHumsk h s
  | .rpl => Sys2Proof.Machine.execRpl s
  | .sealCore a => Sys2Proof.Machine.execSealCore a s
  | .thaw a => Sys2Proof.Machine.execThaw a s
  | .evict d a => Sys2Proof.Machine.execEvict d a s
  | .rstr d a => Sys2Proof.Machine.execRstr d a s
  | .illegalEncoding st w cause => Sys2Proof.Machine.execIllegalEncoding st w cause s
  | .illegalHintSequence st hw w => Sys2Proof.Machine.execIllegalHintSequence st hw w s
  | .entryMark place w => Sys2Proof.Machine.execEntryMark place w s
  | .serviceMessageArrival m => Sys2Proof.Machine.execServiceMessageArrival m s
  | .serviceMessageResend m => Sys2Proof.Machine.execServiceMessageResend m s
  | .dispatch place => Sys2Proof.Machine.execDispatch place s
  | .park place => Sys2Proof.Machine.execPark place s
  | .resumable place k => Sys2Proof.Machine.execResumable place k s
  | .watchdogExpiry place => Sys2Proof.Machine.execWatchdogExpiry place s
  | .routerArbitration node out => Sys2Proof.Machine.execRouterArbitration node out s
  | .ageTick id => Sys2Proof.Machine.execAgeTick id s
  | .packetReceive id => Sys2Proof.Machine.execPacketReceive id s
  | .coreRouterAnswer p => Sys2Proof.Machine.execCoreRouterAnswer p s
  | .sliceAccess h r => Sys2Proof.Machine.execSliceAccess h r s
  | .globalReply r => Sys2Proof.Machine.execGlobalReply r s
  | .storeAck r => Sys2Proof.Machine.execStoreAck r s
  | .pageFaultReply r => Sys2Proof.Machine.execPageFaultReply r s
  | .connectionRequestArrival m => Sys2Proof.Machine.execConnectionRequestArrival m s
  | .connectionAnswerArrival m => Sys2Proof.Machine.execConnectionAnswerArrival m s
  | .channelMessageArrival m => Sys2Proof.Machine.execChannelMessageArrival m s
  | .closeNoticeArrival m => Sys2Proof.Machine.execCloseNoticeArrival m s
  | .errorNoticeArrival m => Sys2Proof.Machine.execErrorNoticeArrival m s
  | .endpointMessageArrival m => Sys2Proof.Machine.execEndpointMessageArrival m s
  | .adopterNameArrival m => Sys2Proof.Machine.execAdopterNameArrival m s
  | .redirectArrival m => Sys2Proof.Machine.execRedirectArrival m s
  | .redirectAckArrival m => Sys2Proof.Machine.execRedirectAckArrival m s
  | .forwardedMessageArrival m => Sys2Proof.Machine.execForwardedMessageArrival m s
  | .stubEndArrival m => Sys2Proof.Machine.execStubEndArrival m s
  | .channelRetryResend m => Sys2Proof.Machine.execChannelRetryResend m s
  | .postArrival m => Sys2Proof.Machine.execPostArrival m s
  | .postAnswerArrival place act tag seq code => Sys2Proof.Machine.execPostAnswerArrival place act tag seq code s
  | .controllerConversation ctl m => Sys2Proof.Machine.execControllerConversation ctl m s
  | .transferTake place => Sys2Proof.Machine.execTransferTake place s
  | .copySegmentTranslation r => Sys2Proof.Machine.execCopySegmentTranslation r s
  | .copyUnitArrival u => Sys2Proof.Machine.execCopyUnitArrival u s
  | .copyGetRequestArrival g => Sys2Proof.Machine.execCopyGetRequestArrival g s
  | .copyGetDataArrival d => Sys2Proof.Machine.execCopyGetDataArrival d s
  | .copyRetryResend m => Sys2Proof.Machine.execCopyRetryResend m s
  | .copyRefusalArrival r => Sys2Proof.Machine.execCopyRefusalArrival r s
  | .fillTouch place w unit => Sys2Proof.Machine.execFillTouch place w unit s
  | .fillComplete place w unit => Sys2Proof.Machine.execFillComplete place w unit s
  | .syncWordRaise place spa n => Sys2Proof.Machine.execSyncWordRaise place spa n s
  | .putAckArrival place wcn n => Sys2Proof.Machine.execPutAckArrival place wcn n s
  | .windowPutCheck u => Sys2Proof.Machine.execWindowPutCheck u s
  | .echoRaise place wcn n => Sys2Proof.Machine.execEchoRaise place wcn n s
  | .windowCounterRetry place wcn n tries => Sys2Proof.Machine.execWindowCounterRetry place wcn n tries s
  | .countReport ctl pa n => Sys2Proof.Machine.execCountReport ctl pa n s
  | .arrivalReport ctl idx n => Sys2Proof.Machine.execArrivalReport ctl idx n s
  | .aggregateTimer ctl home idx => Sys2Proof.Machine.execAggregateTimer ctl home idx s
  | .actionAttemptAnswer ctl idx a => Sys2Proof.Machine.execActionAttemptAnswer ctl idx a s
  | .actionRetry ctl idx => Sys2Proof.Machine.execActionRetry ctl idx s
  | .generationAdvance place spa ctl idx => Sys2Proof.Machine.execGenerationAdvance place spa ctl idx s
  | .taskLaunchHandoff die rcd src => Sys2Proof.Machine.execTaskLaunchHandoff die rcd src s
  | .matrixTileGrant grp => Sys2Proof.Machine.execMatrixTileGrant grp s
  | .matrixTileDrain grp diff => Sys2Proof.Machine.execMatrixTileDrain grp diff s
  | .capsuleArrival place c => Sys2Proof.Machine.execCapsuleArrival place c s
  | .capsuleRetryReply c => Sys2Proof.Machine.execCapsuleRetryReply c s
  | .capsuleRetryResend c => Sys2Proof.Machine.execCapsuleRetryResend c s
  | .capsuleEgressSend place => Sys2Proof.Machine.execCapsuleEgressSend place s
  | .dispatchOffer die => Sys2Proof.Machine.execDispatchOffer die s
  | .dispatchArrival place ent rcd => Sys2Proof.Machine.execDispatchArrival place ent rcd s
  | .dispatchAnswerArrival die rid ok => Sys2Proof.Machine.execDispatchAnswerArrival die rid ok s
  | .taskFinishedArrival die rid => Sys2Proof.Machine.execTaskFinishedArrival die rid s
  | .codeImageLoad die place rid => Sys2Proof.Machine.execCodeImageLoad die place rid s
  | .codeImageLoadDone die place rid cls cause => Sys2Proof.Machine.execCodeImageLoadDone die place rid cls cause s
  | .schedulerRestart die => Sys2Proof.Machine.execSchedulerRestart die s
  | .taskTableQuery place die rid => Sys2Proof.Machine.execTaskTableQuery place die rid s
  | .stealRequest die => Sys2Proof.Machine.execStealRequest die s
  | .stealRequestArrival die src pairs => Sys2Proof.Machine.execStealRequestArrival die src pairs s
  | .stolenRecordArrival die src rcd => Sys2Proof.Machine.execStolenRecordArrival die src rcd s
  | .stealAckArrival die src tag => Sys2Proof.Machine.execStealAckArrival die src tag s
  | .lendTimerExpiry die tag => Sys2Proof.Machine.execLendTimerExpiry die tag s
  | .confirmationArrival die src tag => Sys2Proof.Machine.execConfirmationArrival die src tag s
  | .revocationArrival die src tag => Sys2Proof.Machine.execRevocationArrival die src tag s
  | .takenArrival die src tag => Sys2Proof.Machine.execTakenArrival die src tag s
  | .lentQueryArrival die src tag => Sys2Proof.Machine.execLentQueryArrival die src tag s
  | .heldAnswerArrival die src tag => Sys2Proof.Machine.execHeldAnswerArrival die src tag s
  | .unknownAnswerArrival die src tag => Sys2Proof.Machine.execUnknownAnswerArrival die src tag s
  | .heldQueryArrival die src tag => Sys2Proof.Machine.execHeldQueryArrival die src tag s
  | .gangReserve gang asid => Sys2Proof.Machine.execGangReserve gang asid s
  | .gangHoldExpiry gang asid epoch => Sys2Proof.Machine.execGangHoldExpiry gang asid epoch s
  | .forkChunkDispatch unit cell => Sys2Proof.Machine.execForkChunkDispatch unit cell s
  | .childDoneCount unit cell gen chunk place => Sys2Proof.Machine.execChildDoneCount unit cell gen chunk place s
  | .continuationResend place w => Sys2Proof.Machine.execContinuationResend place w s
  | .childFailure unit cell gen chunk place sealed => Sys2Proof.Machine.execChildFailure unit cell gen chunk place sealed s
  | .pairedHashArrival p engine num h => Sys2Proof.Machine.execPairedHashArrival p engine num h s
  | .pairedInputCopy q p => Sys2Proof.Machine.execPairedInputCopy q p s
  | .pairedHashTimeout p engine num => Sys2Proof.Machine.execPairedHashTimeout p engine num s
  | .pairedFreezeTimeout p => Sys2Proof.Machine.execPairedFreezeTimeout p s
  | .evictionStream place => Sys2Proof.Machine.execEvictionStream place s
  | .ethernetFrameReceive port len fcsOk ip tags other => Sys2Proof.Machine.execEthernetFrameReceive port len fcsOk ip tags other s
  | .portLinkTraining port => Sys2Proof.Machine.execPortLinkTraining port s
  | .cmConnection port qpn mtu => Sys2Proof.Machine.execCmConnection port qpn mtu s
  | .rdmaWrite o bytes => Sys2Proof.Machine.execRdmaWrite o bytes s
  | .rdmaWriteWithImmediate o bytes imm => Sys2Proof.Machine.execRdmaWriteWithImmediate o bytes imm s
  | .rdmaRead o n => Sys2Proof.Machine.execRdmaRead o n s
  | .controlSend port qpn bytes => Sys2Proof.Machine.execControlSend port qpn bytes s
  | .ecnMarkedPacket port qpn => Sys2Proof.Machine.execEcnMarkedPacket port qpn s
  | .cnpReceive port qpn => Sys2Proof.Machine.execCnpReceive port qpn s
  | .rateRestore port qpn => Sys2Proof.Machine.execRateRestore port qpn s
  | .launch f asid va => Sys2Proof.Machine.execLaunch f asid va s
  | .topen f asid entry => Sys2Proof.Machine.execTopen f asid entry s
  | .tclose f asid => Sys2Proof.Machine.execTclose f asid s
  | .tset f asid mask qage high low => Sys2Proof.Machine.execTset f asid mask qage high low s
  | .qres f port qpn => Sys2Proof.Machine.execQres f port qpn s
  | .supv f die bytes => Sys2Proof.Machine.execSupv f die bytes s
  | .svcClusterReset f target => Sys2Proof.Machine.execSvcClusterReset f target s
  | .clusterResetTimeout clus => Sys2Proof.Machine.execClusterResetTimeout clus s
  | .svcLinkRetrain f link => Sys2Proof.Machine.execSvcLinkRetrain f link s
  | .svcPortRetrain f port => Sys2Proof.Machine.execSvcPortRetrain f port s
  | .retrainComplete isPort n => Sys2Proof.Machine.execRetrainComplete isPort n s
  | .retrainTimeout isPort n => Sys2Proof.Machine.execRetrainTimeout isPort n s
  | .ebank f bank half clear => Sys2Proof.Machine.execEbank f bank half clear s
  | .ckpt f qpn0 qpn1 va0 va1 key0 key1 => Sys2Proof.Machine.execCkpt f qpn0 qpn1 va0 va1 key0 key1 s
  | .ckptComplete ok => Sys2Proof.Machine.execCkptComplete ok s
  | .crest f qpn0 qpn1 va0 va1 key0 key1 => Sys2Proof.Machine.execCrest f qpn0 qpn1 va0 va1 key0 key1 s
  | .lock f on => Sys2Proof.Machine.execLock f on s
  | .linkFrameReceive link f => Sys2Proof.Machine.execLinkFrameReceive link f s
  | .replayRequestReceive link fseq => Sys2Proof.Machine.execReplayRequestReceive link fseq s
  | .routeTableWrite chip link => Sys2Proof.Machine.execRouteTableWrite chip link s
  | .getVersion => Sys2Proof.Machine.execGetVersion s
  | .getCapabilities => Sys2Proof.Machine.execGetCapabilities s
  | .negotiateAlgorithms => Sys2Proof.Machine.execNegotiateAlgorithms s
  | .getDigests => Sys2Proof.Machine.execGetDigests s
  | .getCertificate slot offset len => Sys2Proof.Machine.execGetCertificate slot offset len s
  | .challenge slot nonce => Sys2Proof.Machine.execChallenge slot nonce s
  | .getMeasurements index sign nonce => Sys2Proof.Machine.execGetMeasurements index sign nonce s
  | .spdmError code => Sys2Proof.Machine.execSpdmError code s
  | .pldmSensorRead sensor => Sys2Proof.Machine.execPldmSensorRead sensor s
  | .powerCapSet watts => Sys2Proof.Machine.execPowerCapSet watts s
  | .pldmReadAndClear bank => Sys2Proof.Machine.execPldmReadAndClear bank s
  | .errorArrival e => Sys2Proof.Machine.execErrorArrival e s
  | .powerOn => Sys2Proof.Machine.execPowerOn s
  | .munteReset => Sys2Proof.Machine.execMunteReset s
  | .powerCapRestraint average => Sys2Proof.Machine.execPowerCapRestraint average s
  | .thermalRestraint die temp => Sys2Proof.Machine.execThermalRestraint die temp s
  | .thermalTrip temp => Sys2Proof.Machine.execThermalTrip temp s
  | .schedulerResetOrPowerGating die => Sys2Proof.Machine.execSchedulerResetOrPowerGating die s
  | .schedulerMessageResend p tries => Sys2Proof.Machine.execSchedulerMessageResend p tries s
  | .egressQueueAcceptanceReport place act seq part => Sys2Proof.Machine.execEgressQueueAcceptanceReport place act seq part s
  | .regionCommandAcknowledgement place act seq val => Sys2Proof.Machine.execRegionCommandAcknowledgement place act seq val s
  | .crestComplete ok image => Sys2Proof.Machine.execCrestComplete ok image s

end Sys2Proof.Machine
end

