-- ==== Sys2Proof/Machine/Step.lean ====
section
/-! DEFINITION. One step of the machine: whose turn it is, and what that turn does. -/

namespace Sys2Proof.Machine

open Sys2Proof

/-- A stream of a core issues its next word: the instruction that the word decodes to runs. -/
def State.issueNext (s : State) (p : Nat) (st : Stream) : Host.Outcome State Fault Refusal :=
  let s := { s with who := p }
  match s.fetch p st with
  | .idle t => .next t
  | .word i => exec i s
  | .illegal x w k => exec (.illegalEncoding x w k) s

/-- The next words of both streams: where both fault, each stream stops at its own word, and the access stream's record goes first
(R124); otherwise the access stream's word issues. -/
def State.issueBoth (s : State) (p : Nat) : Host.Outcome State Fault Refusal :=
  match s.issueNext p .a with
  | .next t =>
    match (s.sameCycle t p).issueNext p .e with
    | .next u => .next (s.bothFaulted t u p)
    | _ => .next t
  | o => o

/-- What a turn does. -/
def runTurn (t : Turn) (s : State) : Host.Outcome State Fault Refusal :=
  match t with
  | .issue p st => s.issueNext p st
  | .both p => s.issueBoth p
  | .lsu p n => .next (s.lsuTurn p n)
  | .drain p e => .next (s.engineStep p e)
  | .array g => .next (s.arrayStep g)
  | .copyUnit p k => .next (s.copyStep p k)
  | .fillUnit p w u => .next (s.fillStep p w u)
  | .walk h => .next (s.walkTurn h)
  | .replay => .next s.replayTurn
  | .event e => runEvent e (s.takeEvent e)
  | .tick => .next s.tick

/-- Whether a turn would change anything. -/
def State.enabled (s : State) (t : Turn) : Bool :=
  match runTurn t s with
  | .next s' => decide (s' ≠ s)
  | _ => true

/-- The turn that comes next, where nothing has said whose it is: the tape says which of those that can move, or else a free
value does. -/
def State.choose (s : State) : Turn × State :=
  let l := s.turns.filter s.enabled
  let n := l.length
  match s.tape with
  | k :: r => (l.getD (k % n) .tick, { s with tape := r })
  | [] =>
    if n ≤ 1 then (l.getD 0 .tick, s)
    else (l.getD (Config.choice s.fresh % n) .tick, { s with fresh := s.fresh + 1 })

/-- One step. -/
def step (s : State) : Host.Outcome State Fault Refusal :=
  match s.turn with
  | some t => runTurn t { s with turn := none }
  | none =>
    let (t, s) := s.choose
    runTurn t s

/-- A word placed where a stream of core `who` fetches next, and that stream's turn: the core runs an activation, of service
privilege where it held none, and its code region covers the word. -/
def State.withFetchWord (s : State) (_nbits w : Nat) : State :=
  let p := s.who
  let c := s.core p
  let v : IWord := BitVec.ofNat 32 w
  let st := sBit v
  let a : Act := c.act.getD { id := c.actNo, priv := true, asid := c.asid }
  let x := a.str st
  let pc := x.pc
  let a := a.setStr st { x with ended := false, hold := none }
  let c : Core := { c.put .code pc (leBytes 4 v.toNat) with
    life := .running, act := some a, codeLim := max c.codeLim (pc + 4), bad := c.bad.filter (fun b => b.1 != Ls.code.num) }
  { s.setCore p c with turn := some (.issue p st) }

end Sys2Proof.Machine
end

