-- ==== Sys2Proof/Safety.lean ====
section
/-! DEFINITION. What claims speak of: the memories of a state and their canonical form, what a state keeps, what each
word asks for, when it issues and what it leaves, and which steps are safe. -/

namespace Sys2Proof.Machine

open Sys2Proof

/-- Every byte memory of a core is canonical. -/
def Core.memWf (c : Core) : Bool := c.sp.wf && c.ab.wf && c.cb.wf && c.code.wf

/-- Every byte memory of a state is canonical: HBM, the storage of the cores and the weight buffers. -/
def State.memWf (s : State) : Bool :=
  s.hbm.wf && s.cores.all (fun x => x.2.memWf) && s.groups.all (fun x => x.2.wb.wf)

/-- One byte of a core's typed storage, as an access reads it. -/
def State.coreByte (s : State) (p : Nat) (l : Ls) (a : Nat) : Byte := ((s.core p).mem l).read a

/-- One byte of a group's weight buffer. -/
def State.wbByte (s : State) (g a : Nat) : Byte := (s.group g).wb.read a

/-- One byte of HBM. -/
def State.hbmByte (s : State) (a : Nat) : Byte := s.hbm.read a

/-- Two states whose memories read alike at every address. -/
def SameMemory (s t : State) : Prop :=
  (∀ p l a, t.coreByte p l a = s.coreByte p l a) ∧ (∀ g a, t.wbByte g a = s.wbByte g a) ∧
    (∀ a, t.hbmByte a = s.hbmByte a) ∧ t.slices = s.slices

/-- Two states that differ in one core at most. -/
def OnlyCore (p : Nat) (s t : State) : Prop :=
  (∀ q, q ≠ p → t.core q = s.core q) ∧ { t with cores := s.cores } = s

/-- A step is safe when it does not stop the machine. -/
def SafeStep (s : State) : Prop := ∃ t, step s = .next t

/-! ## Words -/

/-- What each word but the hints asks for (Tables 04.4 to 04.16, R156, R164, R178): its stream, the registers it reads in
field order, where and when it writes, the queue it enters, whether it decides a branch, holds its stream or needs service
privilege. -/
def needs : Instr → Option Need
  | .add s d a b | .sub s d a b | .and s d a b | .or s d a b | .xor s d a b | .andn s d a b | .orn s d a b
  | .sll s d a b | .srl s d a b | .sra s d a b | .rol s d a b | .slt s d a b | .sltu s d a b | .seq s d a b
  | .sne s d a b | .min s d a b | .max s d a b | .minu s d a b | .maxu s d a b | .mul s d a b | .mulh s d a b
  | .mulhu s d a b | .div s d a b | .divu s d a b | .rem s d a b | .remu s d a b =>
    some { st := s, srcs := [a, b], dst := .now d }
  | .sel s d a b c => some { st := s, srcs := [a, b, c], dst := .now d }
  | .clz s d a | .ctz s d a | .popc s d a | .bswap s d a | .slli s d a _ | .srli s d a _ | .srai s d a _
  | .bfx s d a _ _ | .bfxu s d a _ _ => some { st := s, srcs := [a], dst := .now d }
  | .addi s d a _ | .andi s d a _ | .ori s d a _ | .xori s d a _ | .slti s d a _ | .sltiu s d a _ =>
    some { st := s, imm := true, srcs := [a], dst := .now d }
  | .lim s d _ => some { st := s, imm := true, dst := .now d }
  | .bfi s d a _ _ => some { st := s, srcs := [d, a], dst := .now d }
  | .beq s _ a b _ | .bne s _ a b _ | .blt s _ a b _ | .bge s _ a b _ | .bltu s _ a b _ | .bgeu s _ a b _ =>
    some { st := s, srcs := [a, b], decides := true }
  | .j s _ | .done s | .nop s => some { st := s }
  | .jal s d _ | .csrr s d _ | .wfld s d _ | .qcnt s d _ => some { st := s, dst := .now d }
  | .jr s a => some { st := s, srcs := [a], decides := true }
  | .jalr s d a => some { st := s, srcs := [a], dst := .now d, decides := true }
  | .csrw s a c | .csrs s a c | .csrc s a c => some { st := s, srcs := [a], priv := 0x10 ≤ c.toNat && c.toNat ≤ 0x13 }
  | .lds d a _ _ => some { st := .a, imm := true, srcs := [a], dst := .later d false, enters := some .lsu }
  | .ldg d a _ _ => some { st := .a, imm := true, srcs := [a], dst := .later d true, enters := some .lsu }
  | .xprobe d a _ => some { st := .a, imm := true, srcs := [a], dst := .later d false, enters := some .lsu }
  | .sts b a _ _ | .stg b a _ _ => some { st := .a, imm := true, srcs := [b, a], enters := some .lsu }
  | .pf a _ => some { st := .a, imm := true, srcs := [a], enters := some .lsu }
  | .amoAddSp d a b _ | .amoAndSp d a b _ | .amoOrSp d a b _ | .amoXorSp d a b _ | .amoMinSp d a b _
  | .amoMaxSp d a b _ | .amoMinuSp d a b _ | .amoMaxuSp d a b _ | .amoSwapSp d a b _ =>
    some { st := .a, srcs := [a, b], dst := .later d false, enters := some .lsu }
  | .amoAddGlobal d a b _ | .amoAndGlobal d a b _ | .amoOrGlobal d a b _ | .amoXorGlobal d a b _
  | .amoMinGlobal d a b _ | .amoMaxGlobal d a b _ | .amoMinuGlobal d a b _ | .amoMaxuGlobal d a b _
  | .amoSwapGlobal d a b _ => some { st := .a, srcs := [a, b], dst := .later d true, enters := some .lsu }
  | .casSp d a b c _ => some { st := .a, srcs := [a, b, c], dst := .later d false, enters := some .lsu }
  | .casGlobal d a b c _ => some { st := .a, srcs := [a, b, c], dst := .later d true, enters := some .lsu }
  | .fence _ | .fenceQ _ => some { st := .a, enters := some .lsu, hold := some false }
  | .rgArm a b c => some { st := .a, srcs := [a, b, c], enters := some .lsu }
  | .rgDisarm a | .wnUnreg a => some { st := .a, srcs := [a], enters := some .lsu }
  | .rgAdd a b | .rgBind a b => some { st := .a, srcs := [a, b], enters := some .lsu }
  | .rgRd d a => some { st := .a, srcs := [a], dst := .later d false, enters := some .lsu }
  | .wnReg d a b _ => some { st := .a, srcs := [a, b], dst := .later d false, enters := some .lsu }
  | .wnCc d _ => some { st := .a, dst := .later d false, enters := some .lsu }
  | .wnWait a _ => some { st := .a, srcs := [a], enters := some .lsu, hold := some true }
  | .send e a b _ => some { st := .a, srcs := [a, b], enters := some .channel, ep := some e }
  | .recv e d a _ => some { st := .a, srcs := [a], dst := .later d true, enters := some .channel, ep := some e }
  | .offer e d => some { st := .a, dst := .later d true, enters := some .channel, ep := some e }
  | .select e _ | .close e _ => some { st := .a, enters := some .channel, ep := some e }
  | .deleg e x | .adopt e x => some { st := .a, enters := some .channel, ep := some e, epx := some x }
  | .epBind _ a => some { st := .a, srcs := [a], enters := some .channel }
  | .epConn _ d a b | .post d a b => some { st := .a, srcs := [a, b], dst := .later d false, enters := some .channel }
  | .epAcc _ d a | .atLoad _ d a | .epShr _ d a =>
    some { st := .a, srcs := [a], dst := .later d false, enters := some .channel }
  | .epSt _ d => some { st := .a, dst := .later d false, enters := some .channel }
  | .cpGet a b c _ | .cpPut a b c _ | .cpGath a b c _ | .cpScat a b c _ | .cpUnpk a b c _ | .cpPack a b c _
  | .cpFill a b c _ | .fwSet a b c => some { st := .a, srcs := [a, b, c], enters := some .copy }
  | .cpSeal d => some { st := .a, dst := .later d false, enters := some .copy }
  | .cpWait a => some { st := .a, srcs := [a], enters := some .copy, hold := some true }
  | .cpSt d a | .swRd d a => some { st := .a, srcs := [a], dst := .later d false, enters := some .copy }
  | .fwClr a => some { st := .a, srcs := [a], enters := some .copy }
  | .swInit a b => some { st := .a, srcs := [a, b], enters := some .copy }
  | .swWait a b => some { st := .a, srcs := [a, b], enters := some .copy, hold := some true }
  | .capNew d a _ | .capHdr d a _ => some { st := .a, srcs := [a], dst := .later d false, enters := some .capsule }
  | .capFwd _ | .capDel _ _ | .capRet _ | .capKill _ => some { st := .a, enters := some .capsule }
  | .capIns a _ _ | .capRep a _ _ | .capDiv a _ => some { st := .a, srcs := [a], enters := some .capsule }
  | .capRd d _ _ => some { st := .a, dst := .later d false, enters := some .capsule }
  | .vadd _ _ _ sl | .vsub _ _ _ sl | .vmul _ _ _ sl | .vfma _ _ _ sl | .vfms _ _ _ sl | .vmax _ _ _ sl
  | .vmin _ _ _ sl | .vabs _ _ sl | .vneg _ _ sl | .vcmpEq _ _ _ sl | .vcmpNe _ _ _ sl | .vcmpLt _ _ _ sl
  | .vcmpLe _ _ _ sl | .vrsum _ _ sl | .vrmax _ _ sl | .vexp2 _ _ sl | .vlog2 _ _ sl | .vrcp _ _ sl | .vrsqrt _ _ sl
  | .vaddI _ _ _ sl | .vsubI _ _ _ sl | .vmli _ _ _ sl | .vmaxI _ _ _ sl | .vminI _ _ _ sl | .vabsI _ _ sl
  | .vnegI _ _ sl | .vand _ _ _ sl | .vor _ _ _ sl | .vxor _ _ _ sl | .vshl _ _ _ sl | .vshr _ _ _ sl
  | .vsra _ _ _ sl | .vcmpEqI _ _ _ sl | .vcmpNeI _ _ _ sl | .vcmpLtI _ _ _ sl | .vcmpLeI _ _ _ sl
  | .vcmpLtu _ _ _ sl | .vrsumI _ _ sl | .vrmaxI _ _ sl | .vclmul _ _ _ sl | .vclmulh _ _ _ sl | .vmov _ _ sl
  | .vsel _ _ _ sl | .vperm _ _ _ sl | .vrot _ _ _ sl | .vcvtFb _ _ sl | .vcvtBf _ _ sl | .vcvtFi _ _ sl
  | .vcvtIf _ _ sl | .vcvtI8 _ _ sl => some { st := .e, srcs := [sl.ix], enters := some .vector }
  | .vtr _ _ => some { st := .e, srcs := [.z], enters := some .vector }
  | .vbcast _ r sl => some { st := .e, srcs := [r, sl.ix], enters := some .vector }
  | .vins _ r ix _ => some { st := .e, srcs := [r, ix], enters := some .vector }
  | .vext _ r ix _ => some { st := .e, srcs := [ix], dst := .later r false, enters := some .vector }
  | .ltab _ _ ix _ => some { st := .e, srcs := [ix], enters := some .vector }
  | .vld _ b _ sl | .vst _ b _ sl | .vunpkF _ b _ sl | .vunpkBf _ b _ sl | .vpkE2m1 _ b _ sl | .vpkLut4 _ b _ sl
  | .vpkE4m3 _ b _ sl | .vpkE5m2 _ b _ sl | .vpkInt8 _ b _ sl =>
    some { st := .e, srcs := [b, sl.ix], enters := some .vector }
  | .mma x y w _ | .mmaBf16 x y w _ => some { st := .e, srcs := [x, y, w], enters := some .matrix }
  | .mmZero _ => some { st := .e, enters := some .matrix }
  | .mmSt x => some { st := .e, dst := .later x false, enters := some .matrix }
  | .mmFence => some { st := .e, enters := some .matrix, hold := some false }
  | .mmCfg x => some { st := .e, srcs := [x], enters := some .matrix }
  | .spawn d a => some { st := .a, srcs := [a], dst := .later d false }
  | .gang d a b | .fork d a b => some { st := .a, srcs := [a, b], dst := .later d false }
  | .join d a => some { st := .a, srcs := [a], dst := .later d true }
  | .hpri a _ => some { st := .a, srcs := [a] }
  | .hmsk _ | .humsk _ => some { st := .a }
  | .rpl => some { st := .a, priv := true }
  | .sealCore a | .thaw a => some { st := .a, srcs := [a], priv := true }
  | .evict d a | .rstr d a => some { st := .a, srcs := [a], dst := .later d false, priv := true }
  | _ => none

/-- The conditions under which a word issues (R156), with the activation, the values of its sources, and the activation once
they have been read. -/
structure CanIssue (s : State) (n : Need) (a : Act) (vals : List Word) (b : Act) : Prop where
  running : (s.core s.who).life = .running
  act : (s.core s.who).act = some a
  live : (a.str n.st).ended = false
  free : (a.str n.st).hold = none
  allowed : n.priv = true → a.priv = true
  hints : (a.str n.st).hints.broken n.imm n.st = none
  clear : (s.core s.who).obstacle a n = none
  reads : a.readAll a n.st n.srcs = .ok (vals, b)

/-- An activation past the word that a stream stood at: the program counter moved on, the hints used up, the tag counter at `tag`,
and the time for which it could have parked counted anew (R165). -/
def Act.past (b : Act) (st : Stream) (tag : Nat) : Act :=
  let x := b.str st
  { b.setStr st { x with pc := x.pc + 4, last := x.pc, hints := {}, wait := none } with tag := tag, idle := 0 }

/-- An activation past a word whose result comes later: the destination waits for the tag, which is due (R192), and a word that holds its
stream does so under the same tag (R159, R164). -/
def Act.pastAwaiting (a b : Act) (n : Need) : Act :=
  let x := b.past n.st (a.tag + 1)
  let y := match n.dst with
    | .later r e => (x.setStr n.st { x.str n.st with due := (x.str n.st).due ++ [a.tag + 1] }).reserve n.st r (a.tag + 1) e
    | _ => x
  match n.hold with
  | some e => y.setStr n.st { y.str n.st with hold := some (a.tag + 1, e) }
  | none => y

/-- The command that a word becomes, with its operands captured at issue (R17). `c` is the core before issue. -/
def captured (c : Core) (i : Instr) (n : Need) (a : Act) (vals : List Word) (seq : Nat) : Cmd :=
  let h := (a.str n.st).hints
  let tagged : Bool := n.hold.isSome || (match n.dst with | .later .. => true | _ => false)
  { op := i, seq := seq, act := a.id, tag := if tagged then a.tag + 1 else 0, mark := c.lsSeq, vals := vals
    rnd := h.rnd, sat := h.sat, nt := h.nt, pc := (a.str n.st).pc, ent := a.ent, wid := a.wid, priv := a.priv
    asid := c.asid }

/-- An extensible immediate (R119): its own bits sign-extended, or the pending `hint.imm` above them. -/
def extended {k : Nat} (h : Hints) (f : BitVec k) : Word :=
  match h.imm with
  | none => f.signExtend 64
  | some n => (n ++ f).signExtend 64

end Sys2Proof.Machine
end

