-- ==== Sys2Proof/WellFormed.lean ====
section
/-! DEFINITION. Which instructions have an encoding: what an assembler checks of the fields of a word (R109 to R118,
R127). Events carry plain data and have nothing to check. -/

namespace Sys2Proof

/-- The register may stand in a field that the stream reads. -/
def Reg.src (r : Reg) (s : Stream) : Bool := srcOK s r.code

/-- The register may stand in a field that the stream writes. -/
def Reg.dst (r : Reg) (s : Stream) : Bool := dstOK s r.code

/-- The register may stand in the `rd` field of majors 0x18 to 0x2C. -/
def Reg.dstL (r : Reg) : Bool := dstLOK r.code

/-- The register may stand in the data field of a store or an operand field of an atomic. -/
def Reg.data (r : Reg) : Bool := dataOK r.code

/-- The register may stand in a field that is both read and written. -/
def Reg.both (r : Reg) : Bool := bothOK r.code

/-- A slice: `ix` is a register or `z`, and a whole tile has neither index nor offset (R114). -/
def Slice.ok (sl : Slice) : Bool := ixOK sl.ix.code && (sl.shape != .whole || (sl.ix == .z && sl.io == 0))

/-- Every field of the instruction is one that its word can hold. -/
def Instr.wellFormed : Instr → Bool
  | .hintImm _ _ | .hintRnd _ _ | .hintSat _ | .hintSched _ _ | .hintNt _ => true
  | .add s d a b | .sub s d a b | .and s d a b | .or s d a b | .xor s d a b | .andn s d a b | .orn s d a b
  | .sll s d a b | .srl s d a b | .sra s d a b | .rol s d a b | .slt s d a b | .sltu s d a b | .seq s d a b
  | .sne s d a b | .min s d a b | .max s d a b | .minu s d a b | .maxu s d a b => d.dst s && a.src s && b.src s
  | .sel s d a b c => d.dst s && a.src s && b.src s && c.src s
  | .mul s d a b | .mulh s d a b | .mulhu s d a b | .div s d a b | .divu s d a b | .rem s d a b | .remu s d a b =>
    d.dst s && a.src s && b.src s
  | .clz s d a | .ctz s d a | .popc s d a | .bswap s d a | .addi s d a _ | .andi s d a _ | .ori s d a _
  | .xori s d a _ | .slti s d a _ | .sltiu s d a _ | .slli s d a _ | .srli s d a _ | .srai s d a _ =>
    d.dst s && a.src s
  | .lim s d _ => d.dst s
  | .bfx s d a p l | .bfxu s d a p l => d.dst s && a.src s && p.toNat + l.toNat + 1 ≤ 64
  | .bfi s d a p l => d.both && a.src s && p.toNat + l.toNat + 1 ≤ 64
  | .beq s _ a b _ | .bne s _ a b _ | .blt s _ a b _ | .bge s _ a b _ | .bltu s _ a b _ | .bgeu s _ a b _ =>
    a.src s && b.src s
  | .j _ _ => true
  | .jal s d _ => d.dst s
  | .jr s a => a.src s
  | .jalr s d a => d.dst s && a.src s
  | .done _ => true
  | .csrr s d c => d.dst s && csrKnown c.toNat
  | .csrw s a c | .csrs s a c | .csrc s a c => a.src s && csrWritable c.toNat
  | .nop _ => true
  | .wfld s d q => d.dst s && q.toNat ≤ 5
  | .qcnt s d q => d.dst s && q.toNat ≤ 11
  | .lds d a _ _ => d.dstL && a.src .a
  | .sts b a _ _ => b.data && a.src .a
  | .ldg d a _ _ => d.dstL && a.src .a
  | .stg b a _ _ => b.data && a.src .a
  | .amoAddSp d a b _ | .amoAndSp d a b _ | .amoOrSp d a b _ | .amoXorSp d a b _ | .amoMinSp d a b _
  | .amoMaxSp d a b _ | .amoMinuSp d a b _ | .amoMaxuSp d a b _ | .amoSwapSp d a b _ =>
    d.dstL && a.src .a && b.data
  | .casSp d a b c _ => d.dstL && a.src .a && b.data && c.data
  | .amoAddGlobal d a b _ | .amoAndGlobal d a b _ | .amoOrGlobal d a b _ | .amoXorGlobal d a b _
  | .amoMinGlobal d a b _ | .amoMaxGlobal d a b _ | .amoMinuGlobal d a b _ | .amoMaxuGlobal d a b _
  | .amoSwapGlobal d a b _ => d.dstL && a.src .a && b.data
  | .casGlobal d a b c _ => d.dstL && a.src .a && b.data && c.data
  | .fence _ | .fenceQ _ => true
  | .xprobe d a _ => d.dstL && a.src .a
  | .pf a _ => a.src .a
  | .send _ a b _ => a.src .a && b.src .a
  | .recv _ d a _ => d.dstL && a.src .a
  | .offer _ d => d.dstL
  | .select _ _ | .close _ _ | .deleg _ _ | .adopt _ _ => true
  | .epBind _ a => a.src .a
  | .epConn _ d a b => d.dstL && a.src .a && b.src .a
  | .epAcc _ d a => d.dstL && a.src .a
  | .epSt _ d => d.dstL
  | .atLoad _ d a | .epShr _ d a => d.dstL && a.src .a
  | .post d a b => d.dstL && a.src .a && b.src .a
  | .cpGet a b c _ => a.src .a && b.src .a && c.src .a
  | .cpPut a b c l | .cpGath a b c l | .cpScat a b c l =>
    a.src .a && b.src .a && c.src .a && (l == .sp || l == .ab || l == .cb)
  | .cpUnpk a b c l => a.src .a && b.src .a && c.src .a && (l == .ab || l == .wb)
  | .cpPack a b c l => a.src .a && b.src .a && c.src .a && (l == .ab || l == .cb)
  | .cpFill a b c l => a.src .a && b.src .a && c.src .a && l == .sp
  | .cpSeal d => d.dstL
  | .cpWait a => a.src .a
  | .cpSt d a => d.dstL && a.src .a
  | .fwSet a b c => a.src .a && b.src .a && c.src .a
  | .fwClr a => a.src .a
  | .swInit a b | .swWait a b => a.src .a && b.src .a
  | .swRd d a => d.dstL && a.src .a
  | .rgArm a b c => a.src .a && b.src .a && c.src .a
  | .rgDisarm a => a.src .a
  | .rgAdd a b => a.src .a && b.src .a
  | .rgRd d a => d.dstL && a.src .a
  | .rgBind a b => a.src .a && b.src .a
  | .wnReg d a b _ => d.dstL && a.src .a && b.src .a
  | .wnUnreg a => a.src .a
  | .wnCc d _ => d.dstL
  | .wnWait a _ => a.src .a
  | .capNew d a _ => d.dstL && a.src .a
  | .capFwd _ => true
  | .capIns a _ _ => a.src .a
  | .capDel _ _ => true
  | .capRep a _ _ => a.src .a
  | .capRd d _ _ => d.dstL
  | .capDiv a _ => a.src .a
  | .capRet _ | .capKill _ => true
  | .capHdr d a _ => d.dstL && a.src .a
  | .vadd _ _ _ sl | .vsub _ _ _ sl | .vmul _ _ _ sl | .vfma _ _ _ sl | .vfms _ _ _ sl | .vmax _ _ _ sl
  | .vmin _ _ _ sl | .vabs _ _ sl | .vneg _ _ sl | .vcmpEq _ _ _ sl | .vcmpNe _ _ _ sl | .vcmpLt _ _ _ sl
  | .vcmpLe _ _ _ sl | .vrsum _ _ sl | .vrmax _ _ sl | .vexp2 _ _ sl | .vlog2 _ _ sl | .vrcp _ _ sl
  | .vrsqrt _ _ sl | .vaddI _ _ _ sl | .vsubI _ _ _ sl | .vmli _ _ _ sl | .vmaxI _ _ _ sl | .vminI _ _ _ sl
  | .vabsI _ _ sl | .vnegI _ _ sl | .vand _ _ _ sl | .vor _ _ _ sl | .vxor _ _ _ sl | .vshl _ _ _ sl
  | .vshr _ _ _ sl | .vsra _ _ _ sl | .vcmpEqI _ _ _ sl | .vcmpNeI _ _ _ sl | .vcmpLtI _ _ _ sl
  | .vcmpLeI _ _ _ sl | .vcmpLtu _ _ _ sl | .vrsumI _ _ sl | .vrmaxI _ _ sl | .vclmul _ _ _ sl
  | .vclmulh _ _ _ sl | .vmov _ _ sl | .vsel _ _ _ sl => sl.ok
  | .vtr _ _ => true
  | .vperm _ _ _ sl | .vrot _ _ _ sl => sl.ok
  | .vcvtFb _ _ sl | .vcvtBf _ _ sl => sl.ok && sl.shape != .col
  | .vcvtFi _ _ sl | .vcvtIf _ _ sl | .vcvtI8 _ _ sl => sl.ok
  | .vbcast _ r sl => r.src .e && sl.ok
  | .vins _ r ix _ => r.src .e && ixOK ix.code
  | .vext _ r ix _ => r.dst .e && ixOK ix.code
  | .ltab _ _ ix _ => ixOK ix.code
  | .vld _ b _ sl | .vst _ b _ sl | .vunpkF _ b _ sl | .vunpkBf _ b _ sl | .vpkE2m1 _ b _ sl
  | .vpkLut4 _ b _ sl | .vpkE4m3 _ b _ sl | .vpkE5m2 _ b _ sl | .vpkInt8 _ b _ sl => b.src .e && sl.ok
  | .mma x y w _ | .mmaBf16 x y w _ => x.src .e && y.src .e && w.src .e
  | .mmZero _ => true
  | .mmSt x => x.dst .e
  | .mmFence => true
  | .mmCfg x => x.src .e
  | .spawn d a => d.dst .a && a.src .a
  | .gang d a b | .fork d a b => d.dst .a && a.src .a && b.src .a
  | .join d a => d.dst .a && a.src .a
  | .hpri a _ => a.src .a
  | .hmsk _ | .humsk _ | .rpl => true
  | .sealCore a | .thaw a => a.src .a
  | .evict d a | .rstr d a => d.dst .a && a.src .a
  | .hdLoWrite .. | .hdHiWrite .. | .codeLimWrite .. | .sysregWrite .. | .illegalEncoding ..
  | .illegalHintSequence .. | .entryMark .. | .serviceMessageArrival .. | .serviceMessageResend ..
  | .dispatch .. | .park .. | .resumable .. | .watchdogExpiry .. | .routerArbitration .. | .ageTick ..
  | .packetReceive .. | .coreRouterAnswer .. | .sliceAccess .. | .globalReply .. | .storeAck ..
  | .pageFaultReply .. | .connectionRequestArrival .. | .connectionAnswerArrival .. | .channelMessageArrival ..
  | .closeNoticeArrival .. | .errorNoticeArrival .. | .endpointMessageArrival .. | .adopterNameArrival ..
  | .redirectArrival .. | .redirectAckArrival .. | .forwardedMessageArrival .. | .stubEndArrival ..
  | .channelRetryResend .. | .postArrival .. | .postAnswerArrival .. | .controllerConversation ..
  | .transferTake .. | .copySegmentTranslation .. | .copyUnitArrival .. | .copyGetRequestArrival ..
  | .copyGetDataArrival .. | .copyRetryResend .. | .copyRefusalArrival .. | .fillTouch .. | .fillComplete ..
  | .syncWordRaise .. | .putAckArrival .. | .windowPutCheck .. | .echoRaise .. | .windowCounterRetry ..
  | .countReport .. | .arrivalReport .. | .aggregateTimer .. | .actionAttemptAnswer .. | .actionRetry ..
  | .generationAdvance .. | .taskLaunchHandoff .. | .matrixTileGrant .. | .matrixTileDrain ..
  | .capsuleArrival .. | .capsuleRetryReply .. | .capsuleRetryResend .. | .capsuleEgressSend ..
  | .dispatchOffer .. | .dispatchArrival .. | .dispatchAnswerArrival .. | .taskFinishedArrival ..
  | .codeImageLoad .. | .codeImageLoadDone .. | .schedulerRestart .. | .taskTableQuery .. | .stealRequest ..
  | .stealRequestArrival .. | .stolenRecordArrival .. | .stealAckArrival .. | .lendTimerExpiry ..
  | .confirmationArrival .. | .revocationArrival .. | .takenArrival .. | .lentQueryArrival ..
  | .heldAnswerArrival .. | .unknownAnswerArrival .. | .heldQueryArrival .. | .gangReserve ..
  | .gangHoldExpiry .. | .forkChunkDispatch .. | .childDoneCount .. | .continuationResend .. | .childFailure ..
  | .pairedHashArrival .. | .pairedInputCopy .. | .pairedHashTimeout .. | .pairedFreezeTimeout ..
  | .evictionStream .. | .ethernetFrameReceive .. | .portLinkTraining .. | .cmConnection .. | .rdmaWrite ..
  | .rdmaWriteWithImmediate .. | .rdmaRead .. | .controlSend .. | .ecnMarkedPacket .. | .cnpReceive ..
  | .rateRestore .. | .launch .. | .topen .. | .tclose .. | .tset .. | .qres .. | .supv ..
  | .svcClusterReset .. | .clusterResetTimeout .. | .svcLinkRetrain .. | .svcPortRetrain ..
  | .retrainComplete .. | .retrainTimeout .. | .ebank .. | .ckpt .. | .ckptComplete .. | .crest .. | .lock ..
  | .linkFrameReceive .. | .replayRequestReceive .. | .routeTableWrite .. | .getVersion | .getCapabilities
  | .negotiateAlgorithms | .getDigests | .getCertificate .. | .challenge .. | .getMeasurements ..
  | .spdmError .. | .pldmSensorRead .. | .powerCapSet .. | .pldmReadAndClear .. | .errorArrival .. | .powerOn
  | .munteReset | .powerCapRestraint .. | .thermalRestraint .. | .thermalTrip ..
  | .schedulerResetOrPowerGating .. | .schedulerMessageResend .. | .egressQueueAcceptanceReport ..
  | .regionCommandAcknowledgement .. | .crestComplete .. => true

end Sys2Proof
end

