-- ==== Sys2Proof/Certificates/Slice0/Obligations.lean ====
section
/-! DEFINITION. The statements about the SV9, from the numbered rules of its spec: what each word and each event does,
what stays as it was, how words are encoded, and what every step keeps. -/

open Sys2Proof Sys2Proof.Machine

namespace Sys2Proof.Machine

/-! ## Words of the handler core: results -/

/-- The result of a register, unary, shift or bit-field form, from the values of its sources (Tables 05.9 and 05.11, R180,
R184). -/
def regResult : Instr → List Word → Option Word
  | .add .., [x, y] => some (x + y)
  | .sub .., [x, y] => some (x - y)
  | .and .., [x, y] => some (x &&& y)
  | .or .., [x, y] => some (x ||| y)
  | .xor .., [x, y] => some (x ^^^ y)
  | .andn .., [x, y] => some (x &&& ~~~y)
  | .orn .., [x, y] => some (x ||| ~~~y)
  | .sll .., [x, y] => some (x <<< (y.toNat % 64))
  | .srl .., [x, y] => some (x >>> (y.toNat % 64))
  | .sra .., [x, y] => some (x.sshiftRight (y.toNat % 64))
  | .rol .., [x, y] => some (x.rotateLeft (y.toNat % 64))
  | .slt .., [x, y] => some (if x.slt y then 1 else 0)
  | .sltu .., [x, y] => some (if x.ult y then 1 else 0)
  | .seq .., [x, y] => some (if x = y then 1 else 0)
  | .sne .., [x, y] => some (if x = y then 0 else 1)
  | .min .., [x, y] => some (if y.slt x then y else x)
  | .max .., [x, y] => some (if x.slt y then y else x)
  | .minu .., [x, y] => some (if y.ult x then y else x)
  | .maxu .., [x, y] => some (if x.ult y then y else x)
  | .sel .., [x, y, z] => some (if x = 0 then z else y)
  | .mul .., [x, y] => some (x * y)
  | .mulh .., [x, y] => some ((x.signExtend 128 * y.signExtend 128).extractLsb' 64 64)
  | .mulhu .., [x, y] => some ((x.setWidth 128 * y.setWidth 128).extractLsb' 64 64)
  | .div .., [x, y] => some (if y = 0 then BitVec.allOnes 64 else x.sdiv y)
  | .divu .., [x, y] => some (if y = 0 then BitVec.allOnes 64 else x / y)
  | .rem .., [x, y] => some (x.srem y)
  | .remu .., [x, y] => some (x % y)
  | .clz .., [x] => some x.clz
  | .ctz .., [x] => some x.ctz
  | .popc .., [x] => some x.cpop
  | .bswap .., [x] =>
    some (x.extractLsb' 0 8 ++ x.extractLsb' 8 8 ++ x.extractLsb' 16 8 ++ x.extractLsb' 24 8 ++ x.extractLsb' 32 8 ++
      x.extractLsb' 40 8 ++ x.extractLsb' 48 8 ++ x.extractLsb' 56 8)
  | .slli _ _ _ h, [x] => some (x <<< h.toNat)
  | .srli _ _ _ h, [x] => some (x >>> h.toNat)
  | .srai _ _ _ h, [x] => some (x.sshiftRight h.toNat)
  | .bfx _ _ _ p l, [x] => some ((x.extractLsb' p.toNat (l.toNat + 1)).signExtend 64)
  | .bfxu _ _ _ p l, [x] => some ((x.extractLsb' p.toNat (l.toNat + 1)).setWidth 64)
  | .bfi _ _ _ p l, [d, x] =>
    let m : Word := (BitVec.allOnes (l.toNat + 1)).setWidth 64 <<< p.toNat
    some ((d &&& ~~~m) ||| ((x <<< p.toNat) &&& m))
  | _, _ => none

/-- The result of a form with an extensible immediate (Table 05.10, R183), from its source and its hints. -/
def immResult (h : Hints) : Instr → List Word → Option Word
  | .addi _ _ _ f, [x] => some (x + extended h f)
  | .andi _ _ _ f, [x] => some (x &&& extended h f)
  | .ori _ _ _ f, [x] => some (x ||| extended h f)
  | .xori _ _ _ f, [x] => some (x ^^^ extended h f)
  | .slti _ _ _ f, [x] => some (if x.slt (extended h f) then 1 else 0)
  | .sltiu _ _ _ f, [x] => some (if x.ult (extended h f) then 1 else 0)
  | .lim _ _ f, [] => some (extended h f)
  | _, _ => none

/-- The destination of a word whose value exists at issue. -/
def Need.writes (n : Need) : Option Reg :=
  match n.dst with
  | .now d => some d
  | _ => none

/-- The condition and offset of a conditional branch (R185). -/
def branchOf : Instr → Option (BitVec 10 × (Word → Word → Bool))
  | .beq _ _ _ _ o => some (o, fun x y => decide (x = y))
  | .bne _ _ _ _ o => some (o, fun x y => !decide (x = y))
  | .blt _ _ _ _ o => some (o, fun x y => x.slt y)
  | .bge _ _ _ _ o => some (o, fun x y => !x.slt y)
  | .bltu _ _ _ _ o => some (o, fun x y => x.ult y)
  | .bgeu _ _ _ _ o => some (o, fun x y => !x.ult y)
  | _ => none

/-- The outcome that a branch pushes, and where its stream goes on (R160). -/
def Act.decided (b : Act) (st : Stream) (x : Branch) (next : Nat) : Act :=
  let y := b.setBranches st (b.branches st ++ [x])
  y.setStr st { y.str st with pc := next }

/-- Core `who` has been frozen at a word that had no effect: its activation stands as it did. -/
def FrozenAt (s t : State) (a : Act) : Prop :=
  (t.core s.who).life = .frozen ∧ (t.core s.who).act = some a

/-- Core `who` has been frozen by a fault of the handler core at a word of a stream that had no effect: the stream stands as it did, and
the other, which writes no register, has gone on past words that it does not issue (R194). -/
def StoppedAt (s t : State) (a : Act) (st : Stream) : Prop :=
  (t.core s.who).life = .frozen ∧ ∃ b, (t.core s.who).act = some b ∧ b.str st = a.str st ∧
    (b.str (otherStream st)).regs = (a.str (otherStream st)).regs ∧
    { b with a := a.a, e := a.e, bqa := a.bqa, bqe := a.bqe, idle := a.idle } = a

/-- The step has put one packet into the fabric, with age 0, and nothing else (R25). -/
def Sent (s t : State) (dst dkind : Nat) (m : Msg) : Prop :=
  ∃ x : Transit, t.net = s.net ++ [x] ∧ x.pkt.msg = m ∧ x.pkt.dst = dst ∧ x.pkt.dkind = dkind ∧ x.pkt.age = 0

/-- A freezing record of some kind has been raised at a core: where it is the core's only one, it is on its way to the service core
of its cluster and a containment notice to the supervisor core of its die; where an earlier record of the core has not been
accepted, both wait (R33, R34, R36). -/
def Reported (s t : State) (p : Nat) (good : FaultRec → Prop) : Prop :=
  ∃ r : FaultRec, good r ∧ r.frozen = true ∧ r.place = p ∧ r.skind = 0 ∧
    ((s.core p).recs ≠ [] → (r, true) ∈ t.recWait) ∧
    ((s.core p).recs = [] → (∀ k : Fin 2, (s.core p).slots[k].st ≠ .waiting ∧ (s.core p).slots[k].st ≠ .taken) →
      (∃ x ∈ t.net, x.pkt.dst = s.svcCore (clusOf p) ∧ x.pkt.cls = 12 ∧
        x.pkt.msg = .service { kind := 1, src := p, dst := s.svcCore (clusOf p), rcd := some r, bytes := recBytes r }) ∧
      ∃ x ∈ t.net, x.pkt.dst = s.supCore (dieOf p) ∧ x.pkt.cls = 13 ∧
        x.pkt.msg = .service { kind := 2, src := p, dst := s.supCore (dieOf p), hop := 1, rcd := some { r with notice := true }
                               bytes := recBytes { r with notice := true } })

/-- What `hd.lo`, `hd.hi` and `hd.st` read of the entry that `hd.sel` names (Tables 05.1 and 05.7, R146, R147). -/
def entryReads (c : Core) (now : Nat) (x : Entry) : List (Nat × Nat) :=
  let wait : Nat := if x.valid ∧ 0 < x.pend then min (2 ^ 32 - 1) ((x.waited + (now - x.since)) / 3300) else 0
  let eprio : Nat := if c.ageUs = 0 then x.prio else min 7 (x.prio + wait / c.ageUs)
  let flag (b : Bool) (n : Nat) : Nat := if b then 2 ^ n else 0
  [(0x021, c.hdSel + flag x.priv 10 + x.prio * 2 ^ 11 + flag x.enable 14 + flag x.valid 15 + x.src * 2 ^ 16 + x.srcno * 2 ^ 24 +
      x.pc * 2 ^ 32),
    (0x022, x.base + x.limit * 2 ^ 32),
    (0x023, x.pend + eprio * 2 ^ 16 + flag (x.valid && decide (0 < x.pend)) 19 + wait * 2 ^ 32)]

/-- The value that a system register reads as, for every register of Table 05.6; of a pair, both cores have the primary's place
(R450). -/
def sysregs (s : State) (a : Act) : List (Nat × Nat) :=
  let c := s.core s.who
  [(0x000, a.src + a.info * 2 ^ 32), (0x001, a.ent), (0x002, a.wid.toNat), (0x003, a.wfw.toNat),
    (0x004, (a.args.getD 0 0).toNat), (0x005, (a.args.getD 1 0).toNat), (0x006, (a.args.getD 2 0).toNat),
    (0x007, (a.args.getD 3 0).toNat), (0x008, a.rgn.toNat), (0x009, a.cyc),
    (0x00A, a.asid + if a.priv then 65536 else 0), (0x010, c.ageUs), (0x011, c.parkNs), (0x012, c.wdogLim),
    (0x013, c.codeLim), (0x020, c.hdSel), (0x030, s.now - c.born),
    (0x018, match c.pair with | some x => if x.primary then s.who else x.other | none => s.who),
    (0x01A, (16 - c.ctxs.length) + (2 - (c.ctxs.filter (fun x => x.tiles ≠ [])).length) * 2 ^ 8 + c.ctxs.length * 2 ^ 16)] ++
    (match c.hdl[c.hdSel]? with
      | some x => entryReads c s.now x
      | none => [(0x021, 0), (0x022, 0), (0x023, 0)]) ++
    (List.range 8).map (fun k => (0x040 + k, (a.svc.getD k 0).toNat))

/-- What a write of a system register other than `hd.hi` leaves (Table 05.6, R171, R175): of the core, and of `hd.lo`, which
the activation holds. -/
def sysregWritten (c : Core) (a : Act) (n : Nat) (v : Word) : Option (Core × Act) :=
  match n with
  | 0x010 => some ({ c with ageUs := v.toNat % 2 ^ 16 }, a)
  | 0x011 => some ({ c with parkNs := v.toNat % 2 ^ 20 }, a)
  | 0x012 => some ({ c with wdogLim := max 4096 (v.toNat % 2 ^ 40) }, a)
  | 0x013 => some ({ c with codeLim := min 32768 (v.toNat % 2 ^ 16 / 4 * 4), codeTag := 0 }, a)
  | 0x020 => some ({ c with hdSel := v.toNat % 32 }, a)
  | 0x021 => some (c, { a with hdLo := v })
  | _ => none

/-- The register that a `csrw`, `csrs` or `csrc` names, and the value it writes from the old one and its source (R189). -/
def csrForm : Instr → Option (BitVec 12 × (Word → Word → Word))
  | .csrw _ _ c => some (c, fun _ x => x)
  | .csrs _ _ c => some (c, fun v x => v ||| x)
  | .csrc _ _ c => some (c, fun v x => v &&& ~~~x)
  | _ => none

/-- A staged descriptor that breaks a check of R143, at the core whose table it is for. -/
def BadDescriptor (c : Core) (priv : Bool) (lo hi : Word) : Prop :=
  let src : Nat := (lo >>> 16).toNat % 256
  let srcno : Nat := (lo >>> 24).toNat % 256
  19 < lo.toNat % 32 ∨ 0x18000 < (hi >>> 32).toNat ∨ (hi >>> 32).toNat < hi.toNat % 2 ^ 32 ∨
    lo.getLsbD 9 ∨ lo.getLsbD 8 ∨ lo.getLsbD 7 ∨ lo.getLsbD 6 ∨ lo.getLsbD 5 ∨ (lo >>> 48) ≠ 0 ∨
    lo.getLsbD 32 ∨ lo.getLsbD 33 ∨ 5 < src ∨ (src = 0 ∧ 15 < srcno) ∨ (src = 5 ∧ 3 < srcno) ∨ (src ≠ 0 ∧ src ≠ 5 ∧ srcno ≠ 0) ∨
    (priv = false ∧ (lo.getLsbD 10 ∨ ∃ k : Fin 20, lo.toNat % 32 = k.val ∧ c.hdl[k].priv = true))

/-! ## Words of the engines -/

/-- A word has entered an engine: the core with its queue grown, and the activation past the word. -/
def entered (s : State) (n : Need) (a b : Act) (f : Core → Core) : State :=
  s.setCore s.who { f (s.core s.who) with act := some (a.pastAwaiting b n) }

/-- A new entry of the load-store queue. -/
def lsQueued (e : LsEntry) (c : Core) : Core := { c with lsSeq := c.lsSeq + 1, lsq := c.lsq ++ [e] }

/-- What a load or store of either kind moves: whether it is global, its size and whether it sign-extends, its offset, and
whether it stores (Table 06.2). -/
structure Access where
  glob : Bool
  size : Nat
  sgn : Bool
  off : BitVec 12
  stores : Bool

def accessOf : Instr → Option Access
  | .lds _ _ z o => some ⟨false, (LdSize.bytes z).1, (LdSize.bytes z).2, o, false⟩
  | .ldg _ _ z o => some ⟨true, (LdSize.bytes z).1, (LdSize.bytes z).2, o, false⟩
  | .sts _ _ z o => some ⟨false, StSize.bytes z, false, o, true⟩
  | .stg _ _ z o => some ⟨true, StSize.bytes z, false, o, true⟩
  | _ => none

/-- The address of a load or store, from the values of its sources (R213). -/
def Access.addr (x : Access) (h : Hints) (vals : List Word) : Nat :=
  ((if x.stores then v2 vals else v1 vals) + extended h x.off).toNat

/-- What an atomic does (Table 06.3). -/
def atomicOf : Instr → Option (LsOp × Bool × AmSize)
  | .amoAddSp _ _ _ z => some (.amo .add, false, z)
  | .amoAndSp _ _ _ z => some (.amo .and, false, z)
  | .amoOrSp _ _ _ z => some (.amo .or, false, z)
  | .amoXorSp _ _ _ z => some (.amo .xor, false, z)
  | .amoMinSp _ _ _ z => some (.amo .min, false, z)
  | .amoMaxSp _ _ _ z => some (.amo .max, false, z)
  | .amoMinuSp _ _ _ z => some (.amo .minu, false, z)
  | .amoMaxuSp _ _ _ z => some (.amo .maxu, false, z)
  | .amoSwapSp _ _ _ z => some (.amo .swap, false, z)
  | .casSp _ _ _ _ z => some (.cas, false, z)
  | .amoAddGlobal _ _ _ z => some (.amo .add, true, z)
  | .amoAndGlobal _ _ _ z => some (.amo .and, true, z)
  | .amoOrGlobal _ _ _ z => some (.amo .or, true, z)
  | .amoXorGlobal _ _ _ z => some (.amo .xor, true, z)
  | .amoMinGlobal _ _ _ z => some (.amo .min, true, z)
  | .amoMaxGlobal _ _ _ z => some (.amo .max, true, z)
  | .amoMinuGlobal _ _ _ z => some (.amo .minu, true, z)
  | .amoMaxuGlobal _ _ _ z => some (.amo .maxu, true, z)
  | .amoSwapGlobal _ _ _ z => some (.amo .swap, true, z)
  | .casGlobal _ _ _ _ z => some (.cas, true, z)
  | _ => none

/-- The function of a region or window command, its counter, and the home that its name word gives (Tables 09.8, 09.9). -/
def regionOf (s : State) (vals : List Word) : Instr → Option (Bool × Nat × Nat × Nat)
  | .rgArm .. => some (false, 0, (v1 vals).toNat / 2 ^ 12 % 2 ^ 11, 0)
  | .rgDisarm .. => some (false, 1, (v1 vals).toNat / 2 ^ 12 % 2 ^ 11, 0)
  | .rgAdd .. => some (false, 2, (v1 vals).toNat / 2 ^ 12 % 2 ^ 11, 0)
  | .rgRd .. => some (false, 3, (v1 vals).toNat / 2 ^ 12 % 2 ^ 11, 0)
  | .rgBind .. => some (false, 4, (v1 vals).toNat / 2 ^ 12 % 2 ^ 11, 0)
  | .wnReg _ _ _ w => some (true, 0, s.chip * 8 + (v2 vals).toNat / 2 ^ 45 % 8, w.val)
  | .wnUnreg _ => some (true, 1, s.chip * 8 + (v1 vals).toNat / 2 ^ 12 % 8, 0)
  | _ => none

/-- The transition by which a conversational word passes its check (Table 07.8): it is the first that leaves the issue state,
of the direction and of one of the kinds. -/
def edgeFor (e : Ep) (recv : Bool) (kinds : List Nat) (w : Nat) : Prop :=
  e.outs.head? = some w ∧ edgeRecv w = recv ∧ edgeKind w ∈ kinds

/-- A channel command has entered its queue: the endpoint as issue leaves it, and what the checks found. -/
def chanQueued (x : Cmd) (k : Fin 16) (f : Ep → Ep) (c : Core) : Core :=
  { c with eps := c.eps.set k (f c.eps[k]), nq := c.nq ++ [x], nSeq := c.nSeq + 1 }

/-- The target of an `adopt` is adopting from its issue, with its issue state unknown (R246, R247, R267). -/
def adopting (k x : Fin 16) (f : Core → Core) (c : Core) : Core :=
  let y := f c
  { y with eps := y.eps.set x { c.eps[x] with life := .adopting, prev := c.eps[x].life, ist := none } }

/-- What a conversational word whose check passes leaves as the issue state, and the state it reaches: of a `send` and a
`recv` the to-state of the transition; of an `offer` nothing known; of a `select` the to-state of its label; of `deleg` and
`adopt` the to-state (R247, R248, Table 07.8). -/
inductive Passes (c : Core) : Instr → Ep → List Word → Option Nat → Option Nat → Prop where
  | send (k a b t e x y w) (h : edgeFor e false [0] w) (ht : edgeType w = t.toNat)
      (hn : y.toNat ≤ 16 * 2 ^ edgeSzc w) (hs : y = 0 ∨ x.toNat + y.toNat ≤ 0x18000) :
      Passes c (.send k a b t) e [x, y] (some (edgeTo w)) (some (edgeTo w))
  | recv (k d a t e x w) (h : edgeFor e true [0, 3] w) (ht : edgeType w = t.toNat)
      (hs : x.toNat + 16 * 2 ^ edgeSzc w ≤ 0x18000) :
      Passes c (.recv k d a t) e [x] (some (edgeTo w)) (some (edgeTo w))
  | offer (k d e w) (h : edgeFor e true [1, 3] w) : Passes c (.offer k d) e [] none e.ist
  | select (k l e v w) (h : edgeFor e false [1] v) (hw : e.outs.find? (fun x => edgeLabel x == l.toNat) = some w) :
      Passes c (.select k l) e [] (some (edgeTo w)) (some (edgeTo w))
  | deleg (k x : Fin 16) (e w) (h : edgeFor e false [2] w) (hx : k ≠ x) (hm : (c.eps[x]).mayMove = true) :
      Passes c (.deleg k x) e [] (some (edgeTo w)) (some (edgeTo w))

/-- The endpoint of a conversational word other than `adopt` and `close`. -/
def converses : Instr → Option (Fin 16)
  | .send k .. | .recv k .. | .offer k _ | .select k _ | .deleg k _ => some k
  | _ => none

/-- What a conversational word other than `close` needs of a transition: its direction, its kinds, and its type (Table 07.8). -/
def wanted : Instr → Option (Fin 16 × Bool × List Nat × Option Nat)
  | .send k _ _ t => some (k, false, [0], some t.toNat)
  | .recv k _ _ t => some (k, true, [0, 3], some t.toNat)
  | .offer k _ => some (k, true, [1, 3], none)
  | .select k _ => some (k, false, [1], none)
  | .deleg k _ => some (k, false, [2], none)
  | .adopt k _ => some (k, true, [2], none)
  | _ => none

/-- The lives in which a word is checked against the automaton. -/
def inAutomaton (e : Ep) : Prop := e.atIssue ∈ [EpLife.connected, .listening, .connecting]

/-- The first transition that leaves the issue state is of the word's direction and kinds, and of its type where it names one. -/
def matching (e : Ep) (dir : Bool) (kinds : List Nat) (ty : Option Nat) (w : Nat) : Prop :=
  edgeFor e dir kinds w ∧ ∀ n, ty = some n → edgeType w = n

/-- The cause for which a conversational word is refused at issue (R248, Table 07.8): 6 and 9 by the endpoint's life, 1 for the direction
or a state that no transition leaves, 2 for the kind, 3 for the type, 4 for the label, 5 for the length, 7 for the other endpoint. -/
inductive Refuses (c : Core) : Instr → List Word → Fin 16 → Nat → Prop where
  | life (i k v) (h : (∃ x, wanted i = some (k, x)) ∨ ∃ q, i = .close k q) (hl : c.eps[k].atIssue ∈ [EpLife.idle, .moving, .adopting]) :
      Refuses c i v k 6
  | shared (i k v) (h : ∃ x, wanted i = some (k, x)) (hr : ∀ d r t, i ≠ .recv k d r t) (hl : c.eps[k].atIssue = .shared) :
      Refuses c i v k 9
  | mailbox (k d r t v x) (hl : c.eps[k].atIssue = .shared) (hx : c.eps[k].aut = some x) (ht : ∀ w ∈ x.edges, edgeType w ≠ t.toNat) :
      Refuses c (.recv k d r t) v k 3
  | direction (i k dir kinds ty v) (h : wanted i = some (k, dir, kinds, ty)) (hl : inAutomaton c.eps[k])
      (hd : ∀ w, c.eps[k].outs.head? = some w → edgeRecv w ≠ dir) : Refuses c i v k 1
  | kind (i k dir kinds ty v w) (h : wanted i = some (k, dir, kinds, ty)) (hl : inAutomaton c.eps[k])
      (hw : c.eps[k].outs.head? = some w) (hd : edgeRecv w = dir) (hk : edgeKind w ∉ kinds) : Refuses c i v k 2
  | type (i k dir kinds t v w) (h : wanted i = some (k, dir, kinds, some t)) (hl : inAutomaton c.eps[k])
      (hw : edgeFor c.eps[k] dir kinds w) (ht : edgeType w ≠ t) : Refuses c i v k 3
  | label (k l v w) (hl : inAutomaton c.eps[k]) (hw : edgeFor c.eps[k] false [1] w)
      (hn : ∀ y ∈ c.eps[k].outs, edgeLabel y ≠ l.toNat) : Refuses c (.select k l) v k 4
  | length (k r q t x y w) (hl : inAutomaton c.eps[k]) (hw : matching c.eps[k] false [0] (some t.toNat) w)
      (hn : 16 * 2 ^ edgeSzc w < y.toNat) : Refuses c (.send k r q t) [x, y] k 5
  | cannotMove (k x v w) (hl : inAutomaton c.eps[k]) (hw : edgeFor c.eps[k] false [2] w) (hx : k = x ∨ (c.eps[x]).mayMove = false) :
      Refuses c (.deleg k x) v k 7
  | cannotAdopt (k x v w) (hl : inAutomaton c.eps[k]) (hw : edgeFor c.eps[k] true [2] w) (hx : k = x ∨ (c.eps[x]).mayAdopt = false) :
      Refuses c (.adopt k x) v k 7

/-- The span of SP that a `send` or `recv` names lies within it; a `recv` that finds no transition names none (R254). -/
def SpanFits (c : Core) : Instr → List Word → Prop
  | .send .., [x, y] => y = 0 ∨ x.toNat + y.toNat ≤ 0x18000
  | .recv k _ _ t, [x] => ∀ w, (c.eps[k].atIssue ≠ .shared ∧ matching c.eps[k] true [0, 3] (some t.toNat) w) ∨
      (c.eps[k].atIssue = .shared ∧ ∃ y, c.eps[k].aut = some y ∧ y.edges.find? (fun w => edgeType w == t.toNat) = some w) →
      x.toNat + 16 * 2 ^ edgeSzc w ≤ 0x18000
  | _, _ => True

/-- A word has been refused at issue with a cause (R252, Table 07.18): it has no effect, its core is frozen with a record of kind 5, and its
endpoint is marked to become violated with code 16. -/
def RefusedAt (s t : State) (a : Act) (k : Fin 16) (cause : Nat) : Prop :=
  FrozenAt s t a ∧ (t.core s.who).nq = (s.core s.who).nq ∧ (t.core s.who).closing = (s.core s.who).closing ++ [(k.val, 16)] ∧
    Reported s t s.who (fun r => r.kind = 5 ∧ r.engine = 2 ∧ r.stream = 0 ∧ r.pc = a.a.pc ∧ r.entry = a.ent ∧ r.wid = a.wid.toNat ∧
      field r.detail 0 1 = cause ∧ field r.detail 1 1 = k.val)

/-- The endpoint of a set-up word that nothing checks at issue, and how issue leaves it (R247, R260 to R263). -/
def setsUp : Instr → Option (Fin 16 × (Ep → Ep))
  | .epConn k .. => some (k, fun y => { y with ist := some 0, exp := some .connecting })
  | .epAcc k .. => some (k, fun y => { y with ist := some 0, exp := some .listening })
  | .epSt k _ | .atLoad k .. | .epShr k .. => some (k, id)
  | _ => none

/-- The spans of the core's own storage that a copy-engine word uses (R285, R313). -/
def spansOf (vals : List Word) : Instr → Option (List (Ls × Nat × Nat))
  | i@(.cpGet ..) | i@(.cpPut ..) | i@(.cpGath ..) | i@(.cpScat ..) | i@(.cpUnpk ..) | i@(.cpPack ..) | i@(.cpFill ..) =>
    some (localSpans i (v1 vals).toNat (v2 vals).toNat (v3 vals).toNat)
  | .cpSeal _ | .cpWait _ | .cpSt .. | .fwSet .. | .fwClr _ => some []
  | .swInit .. | .swWait .. | .swRd .. => some [(.sp, (v1 vals).toNat, 16)]
  | _ => none

/-- A word of the capsule queue. -/
def isCapsule : Instr → Bool
  | .capNew .. | .capFwd .. | .capIns .. | .capDel .. | .capRep .. | .capRd .. | .capDiv .. | .capRet .. | .capKill ..
  | .capHdr .. => true
  | _ => false

/-- The slice of a vector word, the space and length of what it touches in storage, and what its address must be a multiple
of (R347, R363 to R365). -/
structure VecForm where
  shape : Shape
  io : BitVec 4
  align : Nat := 1
  reach : Option (Spc × Nat) := none

/-- The form of a vector word whose index is that of a slice. -/
def vecForm : Instr → Option VecForm
  | .vadd _ _ _ sl | .vsub _ _ _ sl | .vmul _ _ _ sl | .vfma _ _ _ sl | .vfms _ _ _ sl | .vmax _ _ _ sl
  | .vmin _ _ _ sl | .vabs _ _ sl | .vneg _ _ sl | .vcmpEq _ _ _ sl | .vcmpNe _ _ _ sl | .vcmpLt _ _ _ sl
  | .vcmpLe _ _ _ sl | .vrsum _ _ sl | .vrmax _ _ sl | .vexp2 _ _ sl | .vlog2 _ _ sl | .vrcp _ _ sl | .vrsqrt _ _ sl
  | .vaddI _ _ _ sl | .vsubI _ _ _ sl | .vmli _ _ _ sl | .vmaxI _ _ _ sl | .vminI _ _ _ sl | .vabsI _ _ sl
  | .vnegI _ _ sl | .vand _ _ _ sl | .vor _ _ _ sl | .vxor _ _ _ sl | .vshl _ _ _ sl | .vshr _ _ _ sl
  | .vsra _ _ _ sl | .vcmpEqI _ _ _ sl | .vcmpNeI _ _ _ sl | .vcmpLtI _ _ _ sl | .vcmpLeI _ _ _ sl
  | .vcmpLtu _ _ _ sl | .vrsumI _ _ sl | .vrmaxI _ _ sl | .vclmul _ _ _ sl | .vclmulh _ _ _ sl | .vmov _ _ sl
  | .vsel _ _ _ sl | .vperm _ _ _ sl | .vrot _ _ _ sl | .vcvtFb _ _ sl | .vcvtBf _ _ sl | .vcvtFi _ _ sl
  | .vcvtIf _ _ sl | .vcvtI8 _ _ sl =>
    some ⟨sl.shape, sl.io, 1, none⟩
  | .vtr .. => some ⟨.whole, 0, 1, none⟩
  | .vbcast _ _ sl => some ⟨sl.shape, sl.io, 1, none⟩
  | .ltab _ _ _ io => some ⟨.row, io, 1, none⟩
  | .vld _ _ p sl | .vst _ _ p sl => some ⟨sl.shape, sl.io, 4, some (p, 4 * shapeLen sl.shape)⟩
  | .vunpkF _ _ _ sl | .vunpkBf _ _ _ sl => some ⟨sl.shape, sl.io, 64, none⟩
  | .vpkE2m1 _ _ p sl => some ⟨sl.shape, sl.io, 64, some (p, 64 * ((shapeLen sl.shape + 123) / 124))⟩
  | .vpkE4m3 _ _ p sl | .vpkE5m2 _ _ p sl | .vpkInt8 _ _ p sl =>
    some ⟨sl.shape, sl.io, 64, some (p, 64 * ((shapeLen sl.shape + 61) / 62))⟩
  | _ => none

/-- The index that a vector word forms at issue (R347). -/
def vecIndex (vals : List Word) (io : BitVec 4) : Nat := (vals.getLastD 0).toNat + io.toNat

/-- How many positions an index has in a shape. -/
def indexLimit : Shape → Nat
  | .whole => 2 ^ 65
  | .row => 16
  | .col => 32

/-- The sizes of SP, AB and CB (Table 01.2). -/
def spaceSize : Spc → Nat
  | .sp => 0x18000
  | .ab => 0x10000
  | .cb => 0x8000

/-- A vector command has entered its queue. -/
def vecQueued (x : Cmd) (c : Core) : Core := { c with vSeq := c.vSeq + 1, vq := c.vq ++ [x] }

/-- A matrix command has entered its queue. -/
def matQueued (x : Cmd) (c : Core) : Core := { c with mSeq := c.mSeq + 1, mq := c.mq ++ [x] }

/-- Operands that the matrix queue takes (Table 11.3, R381, R382). -/
def matOperandsOk (a : Act) : Instr → List Word → Prop
  | .mma .., [x, y, w] =>
    x.toNat < 2 ^ 16 ∧ y.toNat < 2 ^ 17 ∧ w.toNat < 2 ^ 13 ∧ w.toNat % 4096 ≠ 0 ∧ x.toNat % 64 = 0 ∧ y.toNat % 64 = 0
  | .mmaBf16 .., [x, y, w] =>
    x.toNat < 2 ^ 16 ∧ y.toNat < 2 ^ 17 ∧ w.toNat < 2 ^ 13 ∧ w.toNat % 4096 ≠ 0 ∧ x.toNat % 64 = 0 ∧ y.toNat % 64 = 0 ∧
      x.toNat + 4096 * (w.toNat % 4096) ≤ 0x10000 ∧ y.toNat + 64 * (w.toNat % 4096) ≤ 0x20000
  | .mmCfg _, [v] => v.toNat < 256 ∧ v.toNat / 2 % 8 = 0 ∧ (v.toNat / 16 ≠ 0 → a.priv = true)
  | .mmZero _, [] | .mmSt _, [] | .mmFence, [] => True
  | _, _ => False

/-- How many bytes of SP the header or descriptor of a scheduler word takes (Tables 04.17, 13.6). -/
def schedSpan : Instr → Option Nat
  | .spawn .. | .gang .. | .fork .. => some 64
  | .evict .. | .rstr .. => some 32
  | .join .. => some 0
  | _ => none

end Sys2Proof.Machine

/-! ## Statements: issue -/

/-- A hint becomes pending, later hints of its kind replacing earlier ones, and the stream moves past it; a second `hint.imm`
is kept as the sequence that will be at fault (R120, R191). A word that follows a second `hint.imm`, or follows one and has
no extensible immediate, freezes the core and has no effect (R120, R188). Of the model's own choice: a second `hint.imm` (log
entry 32). -/
def Obligations.HintsBecomePendingOrFreeze : Prop :=
  (∀ (s : State) (a : Act) (st : Stream), (s.core s.who).life = .running → (s.core s.who).act = some a →
    (a.str st).ended = false → (a.str st).hold = none →
    let x := a.str st
    let left (h : Hints) : State := s.withAct (s.core s.who)
      { a.setStr st { x with pc := x.pc + 4, last := x.pc, wait := none, hints := h } with idle := 0 }
    (∀ n, x.hints.imm = none → exec (.hintImm st n) s = .next (left { x.hints with imm := some n })) ∧
    (∀ m n, x.hints.imm = some m → x.hints.second = none →
      exec (.hintImm st n) s = .next (left { x.hints with second := some n })) ∧
    (x.hints.imm = none → x.hints.second = none →
      (∀ m, exec (.hintRnd st m) s = .next (left { x.hints with rnd := decide (m = 1) })) ∧
      exec (.hintSat st) s = .next (left { x.hints with sat := true }) ∧
      (∀ k, exec (.hintSched st k) s = .next (left { x.hints with sched := k })) ∧
      exec (.hintNt st) s = .next (left { x.hints with nt := true })) ∧
    (x.hints.imm.isSome ∨ x.hints.second.isSome →
      ∀ m k, ∀ i ∈ [Instr.hintRnd st m, .hintSat st, .hintSched st k, .hintNt st], ∃ t, exec i s = .next t ∧ StoppedAt s t a st)) ∧
  (∀ (s : State) (i : Instr) (n : Need) (a : Act), needs i = some n → (s.core s.who).life = .running →
    (s.core s.who).act = some a → (a.str n.st).ended = false → (a.str n.st).hold = none → (n.priv = true → a.priv = true) →
    ((a.str n.st).hints.second.isSome ∨ ((a.str n.st).hints.imm.isSome ∧ n.imm = false)) →
    ∃ t, exec i s = .next t ∧ StoppedAt s t a n.st)

/-- A word that needs service privilege freezes the core of an activation without it, and has no effect (R123, R175). A word
whose sources are not ready, whose queues have no room, or that finds its engine's queue full, stalls its stream and does
nothing else (R156, R159). Of the model's own choice: that a word not permitted is found before its hints are checked (log
entry 33). -/
def Obligations.WordsThatMayNotRunFreezeOrStall : Prop :=
  (∀ (s : State) (i : Instr) (n : Need) (a : Act), needs i = some n → n.priv = true → (s.core s.who).life = .running →
    (s.core s.who).act = some a → a.priv = false → (a.str n.st).ended = false → (a.str n.st).hold = none →
    ∃ t, exec i s = .next t ∧ StoppedAt s t a n.st) ∧
  (∀ (s : State) (i : Instr) (n : Need) (a : Act) (w : Wait), needs i = some n → (s.core s.who).life = .running →
    (s.core s.who).act = some a → (a.str n.st).ended = false → (a.str n.st).hold = none → (n.priv = true → a.priv = true) →
    (a.str n.st).hints.broken n.imm n.st = none →
    ((s.core s.who).obstacle a n = some w ∨
      ((s.core s.who).obstacle a n = none ∧ a.readAll a n.st n.srcs = .error w)) →
    ∃ x : StreamSt, exec i s = .next (s.withAct (s.core s.who) (a.setStr n.st x)) ∧ x.wait = some w ∧
      { x with wait := (a.str n.st).wait } = a.str n.st)

/-- Source fields are read in field order: each register field gives the register's value, no result for it being outstanding, each `z`
gives 0, and each queue code the next value of its queue, which is that after as many as earlier fields have popped; nothing else of the
activation changes (R111, R156, R159, R178). A written value
replaces the register, is discarded by `z`, or enters the queue behind what it holds; no other register or queue changes
(R157, R178). -/
def Obligations.SourcesAndDestinations : Prop :=
  (∀ (a b : Act) (st : Stream) (rs : List Reg) (vs : List Word), a.readAll a st rs = .ok (vs, b) →
    vs.length = rs.length ∧
    (∀ j r v, rs[j]? = some r → vs[j]? = some v →
      (∀ n, r = .r n → (a.str st).regs[n] = { val := v, pend := none }) ∧
      (r = .z → v = 0) ∧
      (r ∈ [Reg.lq, .sq, .fq, .rq] → ((a.queue r)[(rs.take j).count r]?).bind (·.val) = some v)) ∧
    (∀ q ∈ [Reg.lq, .sq, .fq, .rq], b.queue q = (a.queue q).drop (rs.count q)) ∧
    b.a = a.a ∧ b.e = a.e ∧ { b with lq := a.lq, sq := a.sq, fq := a.fq, rq := a.rq } = a) ∧
  (∀ (a : Act) (st : Stream) (v : Word),
    (∀ n : Fin 16, ((a.write st (.r n) v).str st).regs[n] = { val := v, pend := none } ∧
      (∀ m : Fin 16, m ≠ n → ((a.write st (.r n) v).str st).regs[m] = (a.str st).regs[m]) ∧
      (a.write st (.r n) v).str (otherStream st) = a.str (otherStream st)) ∧
    a.write st .z v = a ∧
    ∀ q ∈ [Reg.lq, .sq, .fq, .rq], (a.write st q v).queue q = a.queue q ++ [{ val := some v }] ∧
      (∀ r ∈ [Reg.lq, .sq, .fq, .rq], r ≠ q → (a.write st q v).queue r = a.queue r) ∧
      (a.write st q v).a = a.a ∧ (a.write st q v).e = a.e)

/-! ## Statements: the handler core -/

/-- Every register, unary, shift and bit-field form writes its result and moves past its word; nothing else of the machine
changes (Tables 05.9 and 05.11, R180, R184). The same of the forms with an extensible immediate, which a pending `hint.imm`
widens (R119, R182, R183). -/
def Obligations.ArithmeticForms : Prop :=
  (∀ (s : State) (i : Instr) (n : Need) (a : Act) (vals : List Word) (b : Act) (v : Word) (d : Reg),
    needs i = some n → CanIssue s n a vals b → regResult i vals = some v → n.writes = some d →
    exec i s = .next (s.withAct (s.core s.who) ((b.past n.st (a.tag + 1)).write n.st d v))) ∧
  (∀ (s : State) (i : Instr) (n : Need) (a : Act) (vals : List Word) (b : Act) (v : Word) (d : Reg),
    needs i = some n → CanIssue s n a vals b → immResult (a.str n.st).hints i vals = some v → n.writes = some d →
    exec i s = .next (s.withAct (s.core s.who) ((b.past n.st (a.tag + 1)).write n.st d v)))

/-- A conditional branch pushes its outcome for the other stream and goes to its target, modulo 32 KiB, or to the next word; a
taken target at or beyond `code.lim` freezes the core instead (R160, R172, R185). `j` and `jal` go to 4 times their field,
`jr` and `jalr` to their source, which they push for the other stream; the links are the next word's address; a target outside
the code region freezes the core (R172, R186, R187). -/
def Obligations.BranchesAndJumps : Prop :=
  (∀ (s : State) (i : Instr) (n : Need) (a : Act) (x y : Word) (b : Act) (o : BitVec 10) (f : Word → Word → Bool),
    needs i = some n → CanIssue s n a [x, y] b → branchOf i = some (o, f) →
    let pc := (a.str n.st).pc
    let target := (((pc : Int) + 4 * o.toInt) % 32768).toNat
    let c := s.core s.who
    let z := b.past n.st (a.tag + 1)
    (f x y = false → exec i s = .next (s.withAct c (z.decided n.st (.taken false) (pc + 4)))) ∧
    (f x y = true → target < c.codeLim → exec i s = .next (s.withAct c (z.decided n.st (.taken true) target))) ∧
    (f x y = true → c.codeLim ≤ target → ∃ t, exec i s = .next t ∧ StoppedAt s t a n.st)) ∧
  (∀ (s : State) (st : Stream) (a b : Act) (d r : Reg) (t : BitVec 13) (x : Word),
    let c := s.core s.who
    let z := b.past st (a.tag + 1)
    let link := BitVec.ofNat 64 ((a.str st).pc + 4)
    let to_ (y : Act) (pc : Nat) : Act := y.setStr st { y.str st with pc := pc }
    (4 * t.toNat < c.codeLim →
      (CanIssue s { st := st } a [] b → exec (.j st t) s = .next (s.withAct c (to_ z (4 * t.toNat)))) ∧
      (CanIssue s { st := st, dst := .now d } a [] b →
        exec (.jal st d t) s = .next (s.withAct c (to_ (z.write st d link) (4 * t.toNat))))) ∧
    (c.codeLim ≤ 4 * t.toNat →
      (CanIssue s { st := st } a [] b → ∃ u, exec (.j st t) s = .next u ∧ StoppedAt s u a st) ∧
      (CanIssue s { st := st, dst := .now d } a [] b → ∃ u, exec (.jal st d t) s = .next u ∧ StoppedAt s u a st)) ∧
    (x.toNat % 4 = 0 → x.toNat < c.codeLim →
      (CanIssue s { st := st, srcs := [r], decides := true } a [x] b →
        exec (.jr st r) s = .next (s.withAct c (z.decided st (.target (x.toNat % 65536)) x.toNat))) ∧
      (CanIssue s { st := st, srcs := [r], dst := .now d, decides := true } a [x] b →
        exec (.jalr st d r) s = .next (s.withAct c
          (to_ ((z.decided st (.target (x.toNat % 65536)) ((a.str st).pc + 4)).write st d link) x.toNat)))) ∧
    ((x.toNat % 4 ≠ 0 ∨ c.codeLim ≤ x.toNat) →
      (CanIssue s { st := st, srcs := [r], decides := true } a [x] b → ∃ u, exec (.jr st r) s = .next u ∧ StoppedAt s u a st) ∧
      (CanIssue s { st := st, srcs := [r], dst := .now d, decides := true } a [x] b →
        ∃ u, exec (.jalr st d r) s = .next u ∧ StoppedAt s u a st)))

/-- `csrr` writes the register's value of Table 05.6. `csrw`, `csrs` and `csrc` write the register as Table 05.6 gives, from
its old value and the source (R171, R175, R189). -/
def Obligations.SystemRegisters : Prop :=
  (∀ (s : State) (st : Stream) (d : Reg) (c : BitVec 12) (a b : Act) (v : Nat),
    CanIssue s { st := st, dst := .now d } a [] b → (c.toNat, v) ∈ sysregs s a →
    exec (.csrr st d c) s = .next (s.withAct (s.core s.who) ((b.past st (a.tag + 1)).write st d (BitVec.ofNat 64 v)))) ∧
  (∀ (s : State) (i : Instr) (n : Need) (a b z : Act) (c : BitVec 12) (f : Word → Word → Word) (x old : Word) (k : Core),
    needs i = some n → CanIssue s n a [x] b → csrForm i = some (c, f) → old = s.csrRead s.who a c.toNat →
    sysregWritten (s.core s.who) (b.past n.st (a.tag + 1)) c.toNat (f old x) = some (k, z) →
    exec i s = .next (s.withAct k z))

/-- `done` ends its stream, which stays at the word and drops its hints; once both streams have ended, the activation has, and
the core holds none (R153, R188, R193). `nop` only moves on; `wfld` writes the field of the work identifier that its widths give; `qcnt`
writes how many values or commands a queue holds (R177, R190, Table 04.8). -/
def Obligations.DoneNopFieldsAndCounts : Prop :=
  (∀ (s : State) (st : Stream) (a b : Act), CanIssue s { st := st } a [] b →
    let x := a.str st
    ((a.str (otherStream st)).ended = false → exec (.done st) s = .next (s.withAct (s.core s.who)
      ({ a with tag := a.tag + 1, idle := 0 }.setStr st { x with ended := true, last := x.pc, hints := {}, wait := none }))) ∧
    ((a.str (otherStream st)).ended = true →
      ∃ t, exec (.done st) s = .next t ∧ (t.core s.who).act = none ∧ (t.core s.who).life = .running)) ∧
  ∀ (s : State) (st : Stream) (d : Reg) (q : BitVec 4) (a b : Act),
    let c := s.core s.who
    let z := b.past st (a.tag + 1)
    let width (k : Nat) : Nat := a.wfw.toNat / 2 ^ (6 * k) % 64
    let below : Nat := ((List.range q.toNat).map width).sum
    (CanIssue s { st := st } a [] b → exec (.nop st) s = .next (s.withAct c z)) ∧
    (CanIssue s { st := st, dst := .now d } a [] b →
      exec (.wfld st d q) s = .next (s.withAct c (z.write st d
        (BitVec.ofNat 64 (a.wid.toNat / 2 ^ below % 2 ^ width q.toNat)))) ∧
      ∀ v, (q.toNat, v) ∈ [(0, (a.lq.takeWhile (·.val.isSome)).length), (1, (a.sq.takeWhile (·.val.isSome)).length),
          (2, (a.fq.filter (·.val.isSome)).length), (3, (a.rq.takeWhile (·.val.isSome)).length), (4, a.bqa.length), (5, a.bqe.length),
          (6, c.lsq.length), (7, c.cq.length + c.xfers.length), (8, c.vq.length), (9, c.mq.length), (10, c.nq.length),
          (11, c.kq.length)] →
        exec (.qcnt st d q) s = .next (s.withAct c (z.write st d (BitVec.ofNat 64 v))))

/-! ## Statements: words that enter an engine -/

/-- A load or store within SP, or below 2^52 in global memory, enters the load-store queue with its address, its size, the
data it stores and the destination it will write; an SP access that reaches beyond SP freezes the core; so does a global access
that reaches 2^52 or above, whose word has issued: a load's slot is held unfilled (R15, R195, R213, R224, R232). An atomic aligned to its
size enters the queue likewise, with its operands; a misaligned one freezes the core, as does one beyond SP or 2^52 (R195, R216, R232). A
core that freezes so stops as R194 gives: the other stream goes on to the next word that it would issue, or at which it is blocked. Of the
model's own choice: an access of several bytes of which only some lie at 2^52 or above (log entry 30). -/
def Obligations.AccessesEnter : Prop :=
  (∀ (s : State) (i : Instr) (n : Need) (a b : Act) (vals : List Word) (x : Access),
    needs i = some n → CanIssue s n a vals b → accessOf i = some x →
    let c := s.core s.who
    let at_ := x.addr (a.str n.st).hints vals
    ((if x.glob then at_ + x.size ≤ 2 ^ 52 else at_ + x.size ≤ 0x18000) → (x.glob ∨ x.stores ∨ c.isBad .sp at_ x.size = false) →
      exec i s = .next (entered s n a b (lsQueued
        { cmd := { captured c i n a vals (c.lsSeq + 1) with mark := 0 }, op := if x.stores then .store else .load
          glob := x.glob, addr := at_, n := x.size, sgn := x.sgn
          data := if x.stores then (v1 vals).toNat % 256 ^ x.size else 0, parts := partsOf at_ x.size }))) ∧
    (x.glob = false → 0x18000 < at_ + x.size → ∃ t, exec i s = .next t ∧ StoppedAt s t a .a) ∧
    (x.glob = true → 2 ^ 52 < at_ + x.size → ∃ t, exec i s = .next t ∧ StoppedAt s t (a.pastAwaiting b n) .a)) ∧
  (∀ (s : State) (i : Instr) (n : Need) (a b : Act) (vals : List Word) (op : LsOp) (glob : Bool) (z : AmSize),
    needs i = some n → CanIssue s n a vals b → atomicOf i = some (op, glob, z) →
    let c := s.core s.who
    let at_ := (v1 vals).toNat
    (at_ % (AmSize.bytes z) = 0 → (if glob then at_ + AmSize.bytes z ≤ 2 ^ 52 else at_ + AmSize.bytes z ≤ 0x18000) →
      (glob ∨ c.isBad .sp at_ (AmSize.bytes z) = false) →
      exec i s = .next (entered s n a b (lsQueued
        { cmd := { captured c i n a vals (c.lsSeq + 1) with mark := 0 }, op := op, glob := glob, addr := at_, n := (AmSize.bytes z)
          data := (v2 vals).toNat % 256 ^ (AmSize.bytes z), exp := (v3 vals).toNat % 256 ^ (AmSize.bytes z)
          parts := [{ va := at_, n := (AmSize.bytes z) }] }))) ∧
    (at_ % (AmSize.bytes z) ≠ 0 ∨ (glob = false ∧ 0x18000 < at_ + AmSize.bytes z) → ∃ t, exec i s = .next t ∧ StoppedAt s t a .a) ∧
    (at_ % (AmSize.bytes z) = 0 → glob = true → 2 ^ 52 < at_ + AmSize.bytes z →
      ∃ t, exec i s = .next t ∧ StoppedAt s t (a.pastAwaiting b n) .a))

/-- Fences, `xprobe` and `pf` enter the queue; a fence holds its stream, and `fence.q` notes the last command of every queue
that its mask names (R90, R91, R196, R218 to R220). Region and window commands enter it with their operands and the controller they go to;
`wn.wait` holds its stream (R195, R331, R340). -/
def Obligations.FencesProbesAndRegionWordsEnter : Prop :=
  (∀ (s : State) (i : Instr) (n : Need) (a b : Act) (vals : List Word),
    needs i = some n → CanIssue s n a vals b →
    let c := s.core s.who
    let x := captured c i n a vals (c.lsSeq + 1)
    let to_ (e : LsEntry) : Prop := exec i s = .next (entered s n a b (lsQueued e))
    (∀ sc, i = .fence sc → to_ { cmd := x, op := .fence sc }) ∧
    (∀ m, i = .fenceQ m → to_ { cmd := x, op := .fenceQ m, marks :=
      ((if m.getLsbD 0 then [(0, c.lsSeq)] else []) ++ (if m.getLsbD 1 then [(1, c.cSeq)] else []) ++
        (if m.getLsbD 2 then [(2, c.vSeq)] else []) ++ (if m.getLsbD 3 then [(3, c.mSeq)] else []) ++
        (if m.getLsbD 4 then [(4, c.nSeq)] else []) ++ (if m.getLsbD 5 then [(5, c.kSeq)] else [])) }) ∧
    (∀ d r o, i = .xprobe d r o → (v1 vals + extended (a.str .a).hints o).toNat < 2 ^ 52 →
      to_ { cmd := x, op := .xprobe, glob := true, addr := (v1 vals + extended (a.str .a).hints o).toNat, n := 1
            parts := [{ va := (v1 vals + extended (a.str .a).hints o).toNat, n := 1 }] }) ∧
    (∀ r o, i = .pf r o → (v1 vals + extended (a.str .a).hints o).toNat < 2 ^ 52 →
      to_ { cmd := x, op := .pf, glob := true, addr := (v1 vals + extended (a.str .a).hints o).toNat, n := 1
            parts := [{ va := (v1 vals + extended (a.str .a).hints o).toNat, n := 1 }] })) ∧
  ∀ (s : State) (i : Instr) (n : Need) (a b : Act) (vals : List Word),
    needs i = some n → CanIssue s n a vals b →
    let c := s.core s.who
    let x := captured c i n a vals (c.lsSeq + 1)
    (∀ window fn ctl wcn, regionOf s vals i = some (window, fn, ctl, wcn) →
      let r : RegCmd := { place := s.who, act := a.id, seq := c.lsSeq + 1, asid := c.asid, priv := a.priv, entry := a.ent,
                          pc := (a.str .a).pc, wid := a.wid.toNat, window := window, fn := fn, ctl := ctl,
                          v1 := (v1 vals).toNat, v2 := (v2 vals).toNat, v3 := (v3 vals).toNat, wcn := wcn }
      exec i s = .next (entered s n a b (lsQueued { cmd := x, op := .region, rc := some r }))) ∧
    (∀ d w, i = .wnCc d w → exec i s = .next (entered s n a b (lsQueued { cmd := x, op := .winCc, n := w.val }))) ∧
    (∀ r w, i = .wnWait r w → exec i s = .next (entered s n a b (lsQueued
      { cmd := x, op := .winWait, n := w.val, data := (v1 vals).toNat })))

/-- `send`, `recv`, `offer`, `select` and `deleg` that the automaton allows enter the channel queue, and the endpoint's issue
state becomes the to-state of the transition, unknown after `offer` (R247, R248, Table 07.8); so they do before the endpoint is
connected. On a closed endpoint the conversational words enter their queue unchecked, and an `adopt` takes its target. `close`
enters on a closed or shared endpoint, and where the automaton decides: its conforming close takes the transition, any other leaves the
automaton alone. A `recv` from a mailbox enters where the shared automaton has its type (R248, R250, R254, R258). -/
def Obligations.ConversationFollowsTheAutomaton : Prop :=
  (∀ (s : State) (i : Instr) (n : Need) (a b : Act) (vals : List Word) (k : Fin 16) (ist to_ : Option Nat),
    needs i = some n → CanIssue s n a vals b → converses i = some k →
    let c := s.core s.who
    c.eps[k].atIssue ∈ [EpLife.connected, .listening, .connecting] → Passes c i c.eps[k] vals ist to_ →
    exec i s = .next (entered s n a b (chanQueued
      { captured c i n a vals (c.nSeq + 1) with to_ := to_, pre := decide (c.eps[k].atIssue ≠ .connected) } k
      (fun e => { e with ist := ist })))) ∧
  (∀ (s : State) (n : Need) (a b : Act) (vals : List Word) (k x : Fin 16) (d r u : Reg) (t : BitVec 6) (l q : BitVec 4),
    let c := s.core s.who
    let enters (i : Instr) (y : Cmd → Cmd) (f : Ep → Ep) : Prop := needs i = some n → CanIssue s n a vals b → SpanFits c i vals →
      exec i s = .next (entered s n a b (chanQueued (y (captured c i n a vals (c.nSeq + 1))) k f))
    (c.eps[k].atIssue = .closed →
      enters (.send k r u t) id id ∧ enters (.recv k d r t) id id ∧ enters (.offer k d) (fun y => { y with to_ := c.eps[k].ist }) id ∧
      enters (.select k l) id id ∧ enters (.deleg k x) id id ∧
      (k = x ∨ c.eps[x].mayAdopt = false → enters (.adopt k x) id id) ∧
      (needs (.adopt k x) = some n → CanIssue s n a vals b → k ≠ x → c.eps[x].mayAdopt = true →
        exec (.adopt k x) s = .next (entered s n a b (adopting k x
          (chanQueued { captured c (.adopt k x) n a vals (c.nSeq + 1) with conf := true } k id))))) ∧
    (c.eps[k].atIssue = .closed ∨ c.eps[k].atIssue = .shared → enters (.close k q) id id) ∧
    (∀ z, c.eps[k].atIssue = .shared → c.eps[k].aut = some z → (∃ w ∈ z.edges, edgeType w = t.toNat) → enters (.recv k d r t) id id) ∧
    (inAutomaton c.eps[k] →
      let pre (y : Cmd) : Cmd := { y with pre := decide (c.eps[k].atIssue ≠ .connected) }
      let conforms : Prop := ∃ w, c.eps[k].outs = [w] ∧ edgeRecv w = false ∧ edgeKind w = 3 ∧ edgeTo w = q.toNat
      (¬ conforms → enters (.close k q) pre id) ∧
      (conforms → enters (.close k q) (fun y => { pre y with to_ := some q.toNat, conf := true }) (fun e => { e with ist := some q.toNat }))))

/-- `adopt` at its transition enters the queue, and its target is adopting from then on, with its issue state unknown (R247, R267). A
conversational word that fails a check of Table 07.8 is refused with its cause: it enters nothing, and its core is frozen (R248, R252); a
span of a `send` or `recv` that reaches beyond SP freezes the core before these checks (R254). Once the queue of a core that has been frozen
is empty, the refused endpoint becomes violated, with code 16, its others close with code 17, and their peers get close notices (R252). -/
def Obligations.AdoptAndRefusals : Prop :=
  (∀ (s : State) (n : Need) (a b : Act) (vals : List Word) (k x : Fin 16) (w : Nat),
    let c := s.core s.who
    inAutomaton c.eps[k] → needs (.adopt k x) = some n → CanIssue s n a vals b → edgeFor c.eps[k] true [2] w → k ≠ x →
    c.eps[x].mayAdopt = true →
    exec (.adopt k x) s = .next (entered s n a b (adopting k x
      (chanQueued { captured c (.adopt k x) n a vals (c.nSeq + 1) with
        to_ := some (edgeTo w), conf := true, pre := decide (c.eps[k].atIssue ≠ .connected) } k
        (fun e => { e with ist := some (edgeTo w) }))))) ∧
  (∀ (s : State) (i : Instr) (n : Need) (a b : Act) (vals : List Word) (k : Fin 16) (cause : Nat),
    needs i = some n → CanIssue s n a vals b → SpanFits (s.core s.who) i vals → Refuses (s.core s.who) i vals k cause →
    ∃ t, exec i s = .next t ∧ RefusedAt s t a k cause) ∧
  (∀ (s : State) (i : Instr) (n : Need) (a b : Act) (vals : List Word), needs i = some n → CanIssue s n a vals b →
    ¬ SpanFits (s.core s.who) i vals → ∃ t, exec i s = .next t ∧ StoppedAt s t a .a ∧ (t.core s.who).nq = (s.core s.who).nq) ∧
  ∀ (s : State) (p : Nat) (k : Fin 16),
    let c := s.core p
    let marked (j : Fin 16) : Prop := ∃ y ∈ c.closing, y.1 = j.val
    let open_ (j : Fin 16) : Prop := c.eps[j].life ∈ [EpLife.listening, .connecting, .connected]
    s.turn = some (.drain p 2) → c.life = .frozen → c.nq = [] → (∀ y ∈ c.recs, y.1 ≠ 2) → open_ k → c.pair = none →
    ∃ t, step s = .next t ∧ (t.core p).closing = [] ∧ ∀ j : Fin 16,
      let e := c.eps[j]
      let y := (t.core p).eps[j]
      (¬ open_ j → y = e) ∧
      (open_ j → (marked j → y.life = .violated ∧ y.code = 16) ∧ (¬ marked j → y.life = .closed ∧ y.code = 17) ∧
        (e.life ≠ .listening → ∃ x ∈ t.net, ∃ m : ChanMsg, x.pkt.msg = .chan m ∧ x.pkt.dst = e.peer ∧ x.pkt.dkind = e.pkind ∧
          m.sub = .close ∧ m.dep = e.pep ∧ m.src = p ∧ m.sep = j.val ∧ m.code = y.code))

/-- The set-up words of an endpoint and `post` enter the channel queue, a `post` where its payload lies within SP; one that reaches beyond
freezes the core (R247, R254, R261 to R264, R268, R269). `ep.bind` enters where its range word is well formed and the endpoint idle or closed,
and is refused with cause 8 elsewhere (R252, R261). Of the model's own choice: the life that `ep.bind` is judged by behind a queued `ep.conn`
or `ep.acc` (log entry 129). -/
def Obligations.SetUpWordsEnter : Prop :=
  ∀ (s : State) (i : Instr) (n : Need) (a b : Act) (vals : List Word),
    needs i = some n → CanIssue s n a vals b →
    let c := s.core s.who
    let x := captured c i n a vals (c.nSeq + 1)
    (∀ k f, setsUp i = some (k, f) → exec i s = .next (entered s n a b (chanQueued x k f))) ∧
    (∀ d p q, i = .post d p q →
      let len := (v1 vals).toNat / 2 ^ 32 % 128
      (len = 0 ∨ (v2 vals).toNat + len ≤ 0x18000 → exec i s = .next (entered s n a b (chanQueued x 0 id))) ∧
      (len ≠ 0 → 0x18000 < (v2 vals).toNat + len → ∃ t, exec i s = .next t ∧ StoppedAt s t a .a ∧ (t.core s.who).nq = c.nq)) ∧
    (∀ k r, i = .epBind k r →
      let lo := (v1 vals).toNat % 2 ^ 32
      let hi := (v1 vals).toNat / 2 ^ 32
      let bound : Prop := lo % 16 = 0 ∧ lo ≤ hi ∧ hi ≤ 0x18000 ∧ (c.eps[k].atIssue = .idle ∨ c.eps[k].atIssue = .closed)
      (bound → exec i s = .next (entered s n a b (chanQueued x k id))) ∧
      (¬ bound → ∃ t, exec i s = .next t ∧ RefusedAt s t a k 8))

/-- A copy-engine word whose spans lie within the core's own storage enters the copy queue; one that reaches beyond freezes
the core (R15, R285, R313). Capsule words enter the capsule queue; `cap.new` does where its header image lies within SP, and freezes the core
where it does not (R415, R417). -/
def Obligations.CopyAndCapsuleWordsEnter : Prop :=
  (∀ (s : State) (i : Instr) (n : Need) (a b : Act) (vals : List Word) (l : List (Ls × Nat × Nat)),
    needs i = some n → CanIssue s n a vals b → spansOf vals i = some l →
    let c := s.core s.who
    ((∀ x ∈ l, x.2.1 + x.2.2 ≤ lsSize x.1) → exec i s = .next (entered s n a b (fun c =>
      { c with cSeq := c.cSeq + 1, cq := c.cq ++ [captured c i n a vals (c.cSeq + 1)] }))) ∧
    ((∃ x ∈ l, lsSize x.1 < x.2.1 + x.2.2) → ∃ t, exec i s = .next t ∧ StoppedAt s t a .a ∧ (t.core s.who).cq = c.cq)) ∧
  ∀ (s : State) (i : Instr) (n : Need) (a b : Act) (vals : List Word),
    needs i = some n → CanIssue s n a vals b → isCapsule i = true →
    ((match i with | .capNew .. => (v1 vals).toNat + 64 ≤ 0x18000 | _ => True) →
      exec i s = .next (entered s n a b (fun c =>
        { c with kSeq := c.kSeq + 1, kq := c.kq ++ [captured c i n a vals (c.kSeq + 1)] }))) ∧
    ((match i with | .capNew .. => 0x18000 < (v1 vals).toNat + 64 | _ => False) →
      ∃ t, exec i s = .next t ∧ StoppedAt s t a .a ∧ (t.core s.who).kq = (s.core s.who).kq)

/-- A vector word whose index, alignment and span are within their limits enters the vector queue with its index; one whose
index lies beyond its shape, whose address is not aligned, or whose span reaches beyond its space freezes the core (R347, R348, R363 to
R365, R368, R369). `vins` and `vext` of an element below 512 enter the vector queue; an element of 512 or above freezes the core (R360), and
so does `vpk.lut4`, which has no encoding to pack into (R365). A core that freezes so stops as R194 gives. -/
def Obligations.VectorAndElementWordsEnter : Prop :=
  (∀ (s : State) (i : Instr) (n : Need) (a b : Act) (vals : List Word) (f : VecForm),
    needs i = some n → CanIssue s n a vals b → vecForm i = some f →
    let c := s.core s.who
    let ix := vecIndex vals f.io
    let sound : Prop := ix < indexLimit f.shape ∧ (v1 vals).toNat % f.align = 0 ∧
      ∀ p k, f.reach = some (p, k) → (v1 vals).toNat + k ≤ spaceSize p
    (sound → exec i s = .next (entered s n a b (vecQueued { captured c i n a vals (c.vSeq + 1) with ix := ix }))) ∧
    (¬ sound → ∃ t, exec i s = .next t ∧ StoppedAt s t a .e ∧ (t.core s.who).vq = c.vq)) ∧
  (∀ (s : State) (n : Need) (a b : Act) (vals : List Word) (t : Fin 8) (r ix : Reg) (io : BitVec 4) (p : Spc) (sl : Slice),
    let c := s.core s.who
    let e := vecIndex vals io
    (∀ i ∈ [Instr.vins t r ix io, .vext t r ix io], needs i = some n → CanIssue s n a vals b →
      (e < 512 → exec i s = .next (entered s n a b (vecQueued { captured c i n a vals (c.vSeq + 1) with ix := e }))) ∧
      (512 ≤ e → ∃ u, exec i s = .next u ∧ StoppedAt s u a .e ∧ (u.core s.who).vq = c.vq)) ∧
    (needs (.vpkLut4 t r p sl) = some n → CanIssue s n a vals b →
      ∃ u, exec (.vpkLut4 t r p sl) s = .next u ∧ StoppedAt s u a .e ∧ (u.core s.who).vq = c.vq))

/-- A matrix word with operands of Table 11.3 enters the matrix queue, noting the last vector command before it, and `mm.fence`
holds its stream; one with other operands freezes the core, which stops as R194 gives (R377, R378, R381, R382, R384, R386, R397). `spawn`,
`gang`, `fork`, `join`, `evict` and `rstr` whose header or descriptor lies within SP wait in the core for their answer; one that reaches
beyond SP freezes the core (R462, R463, R465, R468). -/
def Obligations.MatrixAndSchedulerWordsEnter : Prop :=
  (∀ (s : State) (i : Instr) (n : Need) (a b : Act) (vals : List Word),
    needs i = some n → CanIssue s n a vals b →
    let c := s.core s.who
    (matOperandsOk a i vals →
      exec i s = .next (entered s n a b (matQueued { captured c i n a vals (c.mSeq + 1) with ix := c.vSeq }))) ∧
    (¬ matOperandsOk a i vals → (∃ x y w k, i = .mma x y w k ∨ i = .mmaBf16 x y w k) ∨ (∃ x, i = .mmCfg x) →
      ∃ t, exec i s = .next t ∧ StoppedAt s t a .e ∧ (t.core s.who).mq = c.mq)) ∧
  ∀ (s : State) (i : Instr) (n : Need) (a b : Act) (vals : List Word) (k : Nat),
    needs i = some n → CanIssue s n a vals b → schedSpan i = some k →
    let at_ := (v1 vals).toNat
    (k = 0 ∨ at_ + k ≤ 0x18000 → exec i s = .next (entered s n a b (fun c =>
      { c with scSeq := c.scSeq + 1, schedOut := c.schedOut ++ [{ cmd := captured c i n a vals (c.scSeq + 1) }] }))) ∧
    (k ≠ 0 → 0x18000 < at_ + k → ∃ t, exec i s = .next t ∧ StoppedAt s t a .a ∧ (t.core s.who).schedOut = (s.core s.who).schedOut)

/-- `hpri`, `hmsk` and `humsk` change priority or enable of a valid entry alone; of an entry that is not valid they change
nothing; a tenant's word on a service entry freezes the core (R142, R144, R466). -/
def Obligations.EntryWordsAct : Prop :=
  ∀ (s : State) (a b : Act) (r : Reg) (h : Fin 20) (x : Word),
    let c := s.core s.who
    let y := c.hdl[h]
    let z := b.past .a (a.tag + 1)
    (y.valid = true → (y.priv = true → a.priv = true) →
      (CanIssue s { st := .a, srcs := [r] } a [x] b → exec (.hpri r h) s =
        .next (s.withAct { c with hdl := c.hdl.set h { y with prio := x.toNat % 8 } } z)) ∧
      (CanIssue s { st := .a } a [] b → exec (.humsk h) s =
        .next (s.withAct { c with hdl := c.hdl.set h { y with enable := true } } z)) ∧
      (CanIssue s { st := .a } a [] b → ∃ t, exec (.hmsk h) s = .next t ∧
        t.core s.who = { c with hdl := c.hdl.set h { y with enable := false }, act := some z })) ∧
    (y.valid = false → y.priv = false →
      (CanIssue s { st := .a, srcs := [r] } a [x] b → exec (.hpri r h) s = .next (s.withAct c z)) ∧
      (CanIssue s { st := .a } a [] b → exec (.humsk h) s = .next (s.withAct c z) ∧ exec (.hmsk h) s = .next (s.withAct c z))) ∧
    (y.priv = true → a.priv = false →
      (CanIssue s { st := .a, srcs := [r] } a [x] b → ∃ t, exec (.hpri r h) s = .next t ∧ StoppedAt s t a .a) ∧
      (CanIssue s { st := .a } a [] b → (∃ t, exec (.humsk h) s = .next t ∧ StoppedAt s t a .a) ∧
        ∃ t, exec (.hmsk h) s = .next t ∧ StoppedAt s t a .a))

namespace Sys2Proof.Machine

/-- What `rpl` has done (R225, R227): no slice holds a line, a kept translation or a walk, a dirty line has been written back under its
ASID's key, and every core has raised the epochs of its load-store unit and its copy engine. -/
def Replayed (s t : State) : Prop :=
  t.rpls = s.rpls + 1 ∧ (∀ h, (t.slice h).lines = [] ∧ (t.slice h).kept = [] ∧ (t.slice h).walking = none) ∧
    (∀ h l k, l ∈ (s.slice h).lines → l.dirty = true → s.keyOf (stackOf l.pa) l.asid = some k → l.data.length = 64 → l.pa % 64 = 0 →
      (∀ g y, y ∈ (s.slice g).lines → y.pa / 64 = l.pa / 64 → y = l) → t.readLine (l.pa / 64) k = l.data) ∧
    (∀ p, (s.cores.map (·.1)).count p = 1 → (t.core p).epoch = ((s.core p).epoch + 1) % 2 ^ 32 ∧
      (t.core p).cEpoch = ((s.core p).cEpoch + 1) % 2 ^ 32 ∧ ∀ x ∈ (t.core p).xfers, ∀ seg pa uc pois, x.xl ≠ .ok seg pa uc pois)

end Sys2Proof.Machine

/-- `seal` and `thaw` send their request to the die's scheduler, behind the messages that wait in the core (R449, R454, R467). `rpl` has
every slice write back and drop what it holds, and every core raise its epochs; it holds its stream while anything that an earlier
translation has let go is under way, and then completes (R222, R225, R227, R467). Of the model's own choice: that `rpl` reaches every slice in one
step, and that a scheduler performs `seal` and `thaw` (log entries 73 and 74). -/
def Obligations.ServiceWordsAct : Prop :=
  (∀ (s : State) (a b : Act) (r : Reg) (x : Word),
    let c := s.core s.who
    let n : Need := { st := .a, srcs := [r], priv := true }
    let z := b.past .a (a.tag + 1)
    let told (f : Nat → SchedReq) : State :=
      (s.withAct { c with scSeq := c.scSeq + 1 } z).send s.who 0 (s.schedName (dieOf s.who)) 3 c.asid
        (.sched s.who a.id 0 (c.scSeq + 1) a.ent (f (x.toNat % 2 ^ 20)))
    CanIssue s n a [x] b →
      (c.schedBehind = false → exec (.sealCore r) s = .next (told .sealReq) ∧ exec (.thaw r) s = .next (told .thaw)) ∧
      (c.schedBehind = true → ∀ i ∈ [Instr.sealCore r, .thaw r], exec i s = .next (s.withAct
        { c with scSeq := c.scSeq + 1, schedOut := c.schedOut ++ [{ cmd := captured c i n a [x] (c.scSeq + 1) }] } z))) ∧
  (∀ (s : State) (a b : Act), CanIssue s { st := .a, priv := true } a [] b →
    (s.rpling = [] → s.underWay = false → ∃ t, exec .rpl s = .next t ∧ Replayed s t ∧ (t.core s.who).act = some (b.past .a (a.tag + 1))) ∧
    (s.rpling ≠ [] ∨ s.underWay = true → exec .rpl s = .next
      { s.withAct (s.core s.who) (a.pastAwaiting b { st := .a, priv := true, hold := some false }) with
        rpling := s.rpling ++ [(s.who, a.id, a.tag + 1)] })) ∧
  ∀ (s : State) (p act tag : Nat) (l : List (Nat × Nat × Nat)), s.turn = some .replay → s.rpling = (p, act, tag) :: l →
    (s.underWay = true → step s = .next { s with turn := none }) ∧
    (s.underWay = false → ∃ u, step s = .next (u.deliver p act tag 0) ∧ Replayed s u ∧ u.rpling = l)

namespace Sys2Proof.Machine

/-! ## The table's other steps -/

/-- The new value of an atomic of Table 06.3 from the old one and its operand, both of its size. -/
def amoValue {w : Nat} (x y : BitVec w) : AmoFn → BitVec w
  | .add => x + y
  | .and => x &&& y
  | .or => x ||| y
  | .xor => x ^^^ y
  | .min => if y.slt x then y else x
  | .max => if x.slt y then y else x
  | .minu => if y.ult x then y else x
  | .maxu => if x.ult y then y else x
  | .swap => y

/-- The descriptor that `hd.lo` and `hd.hi` stage (Table 04.15). -/
def staged (lo hi : Word) : Entry :=
  { valid := lo.getLsbD 15, enable := lo.getLsbD 14, prio := (lo >>> 11).toNat % 8, priv := lo.getLsbD 10
    src := (lo >>> 16).toNat % 256, srcno := (lo >>> 24).toNat % 256, pc := (lo >>> 32).toNat % 65536
    base := hi.toNat % 2 ^ 32, limit := (hi >>> 32).toNat }

/-- An entry after a commit (R144): its state fields stay in two cases only. -/
def committed (x y : Entry) : Entry :=
  if (x.valid = true ∧ y.valid = true ∧ x.src = y.src ∧ x.srcno = y.srcno) ∨ (x.valid = false ∧ y.valid = false) then
    { y with pend := x.pend, since := x.since, waited := x.waited, work := x.work }
  else y

/-- A staged descriptor that passes the checks of R143 against the entry that it names. -/
def GoodDescriptor (x y : Entry) (priv : Bool) (lo : Word) : Prop :=
  (lo >>> 5).toNat % 32 = 0 ∧ (lo >>> 48).toNat = 0 ∧ y.src ≤ 5 ∧
    y.srcno ≤ (if y.src = 0 then 15 else if y.src = 5 then 3 else 0) ∧ y.pc % 4 = 0 ∧ y.base ≤ y.limit ∧ y.limit ≤ 0x18000 ∧
    (priv = false → x.priv = false ∧ y.priv = false)

end Sys2Proof.Machine

/-- A write of `hd.hi` by `csrw`, `csrs` or `csrc`, of the value that these form, commits the staged descriptor: one that fails a check of
R143 freezes the core, and the handler table is unchanged; one that passes its checks replaces the entry's descriptor, by a word or as a
step of its own (R142 to R144, R189). -/
def Obligations.DescriptorsAreCheckedAndCommitted : Prop :=
  ∀ (s : State) (i : Instr) (n : Need) (a b : Act) (f : Word → Word → Word) (x old : Word),
    let c := s.core s.who
    old = s.csrRead s.who a 0x022 →
    (needs i = some n → CanIssue s n a [x] b → csrForm i = some (0x022, f) → BadDescriptor c a.priv a.hdLo (f old x) →
      ∃ t, exec i s = .next t ∧ StoppedAt s t a n.st ∧ (t.core s.who).hdl = c.hdl) ∧
    (∀ k : Fin 20, a.hdLo.toNat % 32 = k.val →
      (needs i = some n → CanIssue s n a [x] b → csrForm i = some (0x022, f) →
        GoodDescriptor c.hdl[k] (staged a.hdLo (f old x)) a.priv a.hdLo →
        exec i s = .next (s.withAct { c with hdl := c.hdl.set k (committed c.hdl[k] (staged a.hdLo (f old x))) }
          (b.past n.st (a.tag + 1)))) ∧
      (∀ st, c.act = some a → GoodDescriptor c.hdl[k] (staged a.hdLo x) a.priv a.hdLo →
        exec (.hdHiWrite st x) s =
          .next (s.withAct { c with hdl := c.hdl.set k (committed c.hdl[k] (staged a.hdLo x)) } a)))

/-- The steps that write another system register (R142, R171, R175); a tenant's write of one that it may not write freezes the
core. An illegal word, an illegal hint sequence and a watchdog that expires freeze their core with records of kinds 1, 2 and 4
(R120, R123, R124, R169). -/
def Obligations.HandlerSteps : Prop :=
  (∀ (s : State) (st : Stream) (a : Act) (v : Word),
    let c := s.core s.who
    c.act = some a →
    exec (.hdLoWrite st v) s = .next (s.withAct c { a with hdLo := v }) ∧
    exec (.sysregWrite st 0x020 v) s = .next (s.withAct { c with hdSel := v.toNat % 32 } a) ∧
    (a.priv = true →
      exec (.codeLimWrite st v) s =
        .next (s.withAct { c with codeLim := min 32768 (v.toNat % 2 ^ 16 / 4 * 4), codeTag := 0 } a) ∧
      exec (.sysregWrite st 0x010 v) s = .next (s.withAct { c with ageUs := v.toNat % 2 ^ 16 } a) ∧
      exec (.sysregWrite st 0x011 v) s = .next (s.withAct { c with parkNs := v.toNat % 2 ^ 20 } a) ∧
      exec (.sysregWrite st 0x012 v) s = .next (s.withAct { c with wdogLim := max 4096 (v.toNat % 2 ^ 40) } a)) ∧
    (a.priv = false → c.life = .running → ∃ t, exec (.codeLimWrite st v) s = .next t ∧ StoppedAt s t a st)) ∧
  (∀ (s : State) (st : Stream) (a : Act) (w hw : IWord) (k : Nat),
    let c := s.core s.who
    let mine (r : FaultRec) : Prop :=
      r.engine = 0 ∧ r.asid = c.asid ∧ r.entry = a.ent ∧ r.priv = a.priv ∧ r.wid = a.wid.toNat
    c.act = some a → c.life = .running →
    (∃ t, exec (.illegalEncoding st w k) s = .next t ∧ StoppedAt s t a st ∧ Reported s t s.who (fun r =>
      mine r ∧ r.kind = 1 ∧ r.stream = st.code ∧ r.pc = (a.str st).pc ∧ field r.detail 0 4 = w.toNat ∧
        field r.detail 4 1 = k % 256)) ∧
    (∃ t, exec (.illegalHintSequence st hw w) s = .next t ∧ StoppedAt s t a st ∧ Reported s t s.who (fun r =>
      mine r ∧ r.kind = 2 ∧ r.stream = st.code ∧ r.pc = (a.str st).pc ∧ field r.detail 0 4 = hw.toNat ∧
        field r.detail 12 8 = w.toNat)) ∧
    (c.wdogLim < a.cyc → ∃ t b, exec (.watchdogExpiry s.who) s = .next t ∧ (t.core s.who).life = .frozen ∧ (t.core s.who).act = some b ∧
      b.a.regs = a.a.regs ∧ b.e.regs = a.e.regs ∧ { b with a := a.a, e := a.e, bqa := a.bqa, bqe := a.bqe, idle := a.idle } = a ∧
      Reported s t s.who (fun r => mine r ∧ r.kind = 4 ∧ r.pc = c.nextWord b .a ∧ field r.detail 0 4 = c.nextWord b .e % 2 ^ 32 ∧
        field r.detail 12 8 = a.cyc % 2 ^ 64)) ∧
    (a.cyc ≤ c.wdogLim → exec (.watchdogExpiry s.who) s = .next s))

/-- A word that arrives for the handler table marks the entry that it names, is answered by a retry reply where `pend` stands
at 65,535, and is refused where the entry is not valid or not of its source (R145, R327, R444). A service message enters its
core's inbox and marks the entry of its kind, tries again after 1 µs where there is no room, and goes on to the supervisor
core where the service core cannot take it; a retried one is sent again (R33 to R36, R145, R152). -/
def Obligations.WorkArrivesAtEntries : Prop :=
  (∀ (s : State) (p arg ctl idx : Nat) (k : Fin 20) (m : ChildWord),
    let c := s.core p
    let x := c.hdl[k]
    let w : MarkWord := .wake k.val arg ctl idx
    let answer (a : ActAns) : Msg := .actionAns (ctl % 8) idx a
    c.life = .running →
    (x.valid = true → x.src = 2 → x.pend < 65535 → ∃ t, exec (.entryMark p w) s = .next t ∧
      (t.core p).hdl = c.hdl.set k { x with pend := x.pend + 1, work := x.work ++ [w], since := if x.pend = 0 then s.now else x.since
                                            waited := if x.pend = 0 then 0 else x.waited } ∧
      Sent s t ctl 1 (answer .accepted)) ∧
    (x.valid = true → x.src = 2 → x.pend = 65535 → ∃ t, exec (.entryMark p w) s = .next t ∧ t.core p = c ∧
      Sent s t ctl 1 (answer .retry)) ∧
    (x.valid = false ∨ x.src ≠ 2 → ∃ t, exec (.entryMark p w) s = .next t ∧ t.core p = c ∧ Sent s t ctl 1 (answer .unmatched)) ∧
    (x.valid = true → x.src = 3 → x.pend < 65535 → m.ent = k.val → m.asid = c.asid →
      ∃ t, exec (.entryMark p (.child m)) s = .next t ∧ (t.core p).hdl[k].pend = x.pend + 1 ∧
        (t.core p).hdl[k].work = x.work ++ [.child m])) ∧
  (∀ (s : State) (m : SvcMsg) (k : Fin 20) (r : FaultRec),
    let c := s.core m.dst
    let named (j : Fin 20) : Prop := c.hdl[j].valid = true ∧ c.hdl[j].src = 5 ∧ c.hdl[j].priv = true ∧ c.hdl[j].srcno = m.kind
    (c.life = .running → named k → (∀ j, named j → k ≤ j) →
      (c.inbox.length < 4 → c.hdl[k].pend < 65535 → ∃ t, exec (.serviceMessageArrival m) s = .next t ∧
        (t.core m.dst).inbox = c.inbox ++ [m] ∧ (t.core m.dst).hdl[k].pend = c.hdl[k].pend + 1) ∧
      (4 ≤ c.inbox.length → exec (.serviceMessageArrival m) s = .next (s.after us (.serviceMessageResend m)))) ∧
    (c.life = .frozen ∨ c.life = .sealed → m.rcd = some r → m.hop = 0 → r.skind = 0 →
      ∃ t, exec (.serviceMessageArrival m) s = .next t ∧
        Sent s t (s.supCore (dieOf r.place)) 0 (.service { m with dst := s.supCore (dieOf r.place), hop := 1 })) ∧
    (∃ t, exec (.serviceMessageResend m) s = .next t ∧ Sent s t m.dst 0 (.service m)))

/-- The effective priority of an entry or context is the least of 7 and its priority with one added for every `age.us` of its
waiting time; a core selects the candidate of highest effective priority, a context before a fresh dispatch, then the longer wait,
then the lower entry, then the context that parked first (R147, R148). -/
def Obligations.SelectionTakesTheBest : Prop :=
  ∀ (c : Core) (now : Nat),
    (∀ y ∈ c.candidates now, y.prio =
      if c.ageUs = 0 then c.hdl[y.ent].prio else min 7 (c.hdl[y.ent].prio + y.wait / c.ageUs)) ∧
    ∀ x, c.select now = some x → x ∈ c.candidates now ∧
      (c.pair = none → ∀ y ∈ c.candidates now,
        y.prio ≤ x.prio ∧
        (y.prio = x.prio →
          (y.ctx.isSome = true → x.ctx.isSome = true) ∧
          (y.ctx.isSome = x.ctx.isSome → y.wait ≤ x.wait ∧ (y.wait = x.wait → x.ent ≤ y.ent ∧
            (x.ent = y.ent → ∀ i n j m, x.ctx = some (i, n) → y.ctx = some (j, m) → n ≤ m)))))

/-- A dispatch starts an activation whose registers and queues are clear, at the entry's `pc` in both streams; a context that
is selected takes the core again, with the tile registers that it parked with (R150, R151, R166). An activation whose streams wait parks after `park.ns` with the tile
registers that it has written, where a tile context is free for them, and is resumable once its external waits have been satisfied (R163,
R165, R166). -/
def Obligations.ActivationsStartParkAndResume : Prop :=
  (∀ (s : State) (p : Nat) (x : Candidate),
    let c := s.core p
    let e := c.hdl[x.ent]
    c.life = .running → c.act = none → c.quiet = true → c.select s.now = some x →
    (x.ctx = none → e.pc < c.codeLim → ∃ t a, exec (.dispatch p) s = .next t ∧ (t.core p).act = some a ∧
      a.ent = x.ent.val ∧ a.priv = e.priv ∧ a.asid = c.asid ∧ a.a = { pc := e.pc, last := e.pc } ∧ a.e = { pc := e.pc, last := e.pc } ∧
      a.lq = [] ∧ a.sq = [] ∧ a.fq = [] ∧ a.rq = [] ∧ a.bqa = [] ∧ a.bqe = [] ∧ a.hdLo = 0 ∧ a.cyc = 0 ∧ a.src = e.src ∧
      (t.core p).hdl = c.hdl.set x.ent { e with pend := e.pend - 1, since := s.now, waited := 0, work := e.work.drop 1 } ∧
      (t.core p).tiles = zeroTiles ∧ (t.core p).tileBad = [] ∧ (t.core p).ctxs = c.ctxs) ∧
    (∀ i o z, x.ctx = some (i, o) → c.ctxs[i]? = some z → ∃ t, exec (.dispatch p) s = .next t ∧ (t.core p).act = some z.act ∧
      (t.core p).ctxs = c.ctxs.eraseIdx i ∧ (t.core p).hdl = c.hdl ∧ ∀ k : Fin 8,
        ((∀ y ∈ z.tiles, y.1 ≠ k.val) → (t.core p).tiles[k] = zeroTiles[k]) ∧
        ∀ v, z.tiles.find? (fun y => y.1 == k.val) = some (k.val, v) → (t.core p).tiles[k] = v)) ∧
  (∀ (s : State) (p k : Nat) (a : Act) (x : Ctx),
    let c := s.core p
    (c.life = .running → c.act = some a → c.pair = none → (a.a.ended = true ∨ (c.blocked a .a).isSome = true) →
      (a.e.ended = true ∨ (c.blocked a .e).isSome = true) → (c.blockedOut a .a = true ∨ c.blockedOut a .e = true) →
      c.ctxs.length < 16 → a.tmask = [] ∨ (c.ctxs.filter (fun y => !y.tiles.isEmpty)).length < 2 → (∀ k ∈ a.tmask, k < 8) → c.vq = [] →
      c.parkCycles ≤ a.idle →
      ∃ t z, exec (.park p) s = .next t ∧ (t.core p).act = none ∧ (t.core p).ctxs = c.ctxs ++ [z] ∧ z.act = { a with idle := 0 } ∧
        z.tiles.map (·.1) = a.tmask ∧ (∀ y ∈ z.tiles, ∀ k : Fin 8, y.1 = k.val → y.2 = c.tiles[k]) ∧ z.ready = none ∧
        (t.core p).hdl = c.hdl ∧ (t.core p).tiles = c.tiles) ∧
    (c.life = .running → c.act = some a → a.tmask ≠ [] → 2 ≤ (c.ctxs.filter (fun y => !y.tiles.isEmpty)).length →
      exec (.park p) s = .next s) ∧
    (c.ctxs[k]? = some x → c.mayResume x = true → ∃ t, exec (.resumable p k) s = .next t ∧
      (t.core p).ctxs = c.ctxs.set k { x with ready := some s.now } ∧ (t.core p).act = c.act))

/-- An output of a router is granted to the oldest header that waits for it, then to the input that has lost most often, then
to the lowest input; its packet goes on to the next router, one older, or reaches what attaches there (R25, R26). A waiting
packet's age rises by 1 for every 32 fabric cycles; a router routes a packet that it receives, and discards a malformed one
and counts the error (R24, R25, R29). Of the model's own choice: the numbers of nodes and inputs, that a packet moves whole,
and the bank of a malformed packet (log entries 13, 14 and 76). -/
def Obligations.RoutersRouteAndGrant : Prop :=
  (∀ (s : State) (node out : Nat), s.waiting node out ≠ [] → 1 ≤ out → out ≤ 9 →
    ∃ t x, exec (.routerArbitration node out) s = .next t ∧ x ∈ s.waiting node out ∧
      (∀ y ∈ s.waiting node out, s.ageOf y ≤ s.ageOf x ∧
        (s.ageOf y = s.ageOf x → s.losses node out y.inp ≤ s.losses node out x.inp ∧
          (s.losses node out y.inp = s.losses node out x.inp → x.inp ≤ y.inp))) ∧
      (out ≠ 9 → t.net = s.net.filter (fun y => y.pkt.id != x.pkt.id) ++
        [{ pkt := { x.pkt with age := min 4095 (s.ageOf x + 1) }, node := (hop node out).1, inp := (hop node out).2
           since := s.now }]) ∧
      (out = 9 → t.net = s.net.filter (fun y => y.pkt.id != x.pkt.id) ∧
        (x.pkt.dkind = 0 → t.agenda = s.agenda ++ [.coreRouterAnswer { x.pkt with age := s.ageOf x }]))) ∧
  (∀ (s : State) (id : Nat) (x : Transit),
    (x ∈ s.net → x.pkt.id = id → x.ticks < (s.now - x.since) / (32 * fabricCycle) →
      ∃ t, exec (.ageTick id) s = .next t ∧
        { x with pkt := { x.pkt with age := min 4095 (x.pkt.age + 1) }, ticks := x.ticks + 1 } ∈ t.net) ∧
    (s.net.find? (fun t => t.pkt.id == id && t.out.isNone) = some x → s.behind x = false →
      (pktBad x = false → s.unreached x = false → s.route x.node x.pkt < 10 →
        exec (.packetReceive id) s = .next { s with net := s.net.map (fun y =>
          if y.pkt.id = id then { y with out := some (s.route x.node x.pkt) } else y) }) ∧
      (16 < x.pkt.cls ∨ x.pkt.len = 0 ∨ 65 < x.pkt.len → x.pkt.skind ≠ 0 → x.pkt.dkind ≠ 0 →
        ∃ t, exec (.packetReceive id) s = .next t ∧ t.net = s.net.filter (fun y => y.pkt.id != id) ∧
          let b := if nodeDie x.node < 4 then 16 * nodeDie x.node + 4 else 64
          (t.bank b).cec = min (2 ^ 32 - 1) ((s.bank b).cec + 1))))

/-- The router at a core answers a get by the state of its core: a core that runs the sender's ASID takes it, one that is frozen, sealed,
vacant or another tenant's refuses it, and one that is being evicted gives a retry reply; a message of a channel meets a close with code 17
at a frozen core and an error notice with code 18 at a sealed one (R30, R281, Table 01.7). -/
def Obligations.CoreRoutersAnswer : Prop :=
  ∀ (s : State) (k : Pkt) (g : GetReq) (m : ChanMsg) (a : Nat),
    let c := s.core k.dst
    let refusal (cause : Nat) : Msg :=
      .copyRefusal { place := g.place, ctx := g.ctx, off := g.off, cls := 2, cause := cause, far := a, by_ := g.by_ }
    c.pair = none → s.resetting.contains (clusOf k.dst) = false →
    (k.msg = .getReq g → g.src = .core k.dst a →
      (c.life = .running → c.asid = k.asid → exec (.coreRouterAnswer k) s = exec (.copyGetRequestArrival g) s) ∧
      ∃ t, exec (.coreRouterAnswer k) s = .next t ∧
        (c.life = .running → c.asid ≠ k.asid → Sent s t g.place 0 (refusal 3)) ∧
        (c.life = .vacant → Sent s t g.place 0 (refusal 3)) ∧
        (c.life = .frozen → Sent s t g.place 0 (refusal 1)) ∧
        (c.life = .sealed → Sent s t g.place 0 (refusal 2)) ∧
        (c.life = .evicting → Sent s t g.place 0 (.copyRetry (.get g)))) ∧
    (k.msg = .chan m → m.sub = .data → m.bia = 0 → m.dst = k.dst → ∃ t, exec (.coreRouterAnswer k) s = .next t ∧
      (c.life = .frozen → ∃ r, Sent s t m.src m.skind (.chan r) ∧ r.sub = .close ∧ r.code = 17 ∧ r.dep = m.sep ∧ r.cmd = m.cmd) ∧
      (c.life = .sealed → ∃ r, Sent s t m.src m.skind (.chan r) ∧ r.sub = .errorNotice ∧ r.code = 18 ∧ r.dep = m.sep ∧ r.cmd = m.cmd))

/-- A slice serves a load of a line that it holds without translation, and a store or atomic to one under a kept translation: a load
and an atomic return the old bytes, a store and an atomic write the line, `cas` only where the old value is the expected one; under a leaf with
`uc` they read and write the frame itself, and no line is held. A store to a page without `w`, and an access whose walk meets an invalid
entry, have a fault reply (R202, R203, R211, R212, R216, Table 06.3). -/
def Obligations.SlicesServeAccesses : Prop :=
  ∀ (s : State) (h : Nat) (r : GReq) (k : Kept) (l : Line),
    let x := s.slice h
    let reply (v : GRes) : Msg := .reply { req := r, res := v }
    let answers (v : GRes) (good : State → Prop) : Prop :=
      ∃ t, exec (.sliceAccess h r) s = .next t ∧ Sent s t r.place 0 (reply v) ∧ good t
    let same (t : State) : Prop := t.slices = s.slices
    r.copy = none →
    (let old := leNat ((l.data.drop (r.va % 64)).take r.n)
     let wrote (v : Nat) (t : State) : Prop :=
       (t.slice h).line r.asid r.va = some { l with data := patch l.data (r.va % 64) (leBytes r.n v), dirty := true }
     x.line r.asid r.va = some l → l.bad = false → l.pa % 64 = 0 →
      (r.op = .load → answers (.data old) same) ∧
      (x.keptFor r.asid r.va = some k → bit k.ent 5 = true → bit k.ent 8 = false → bit k.ent 9 = false → bit k.ent 10 = false →
        l.pa = leafPa k.ent r.va / 64 * 64 →
        (bit k.ent 4 = true → bit k.ent 6 = true →
          (r.op = .commit → answers .translated (wrote r.data)) ∧
          (∀ f, r.op = .amo f → r.n ∈ [4, 8] → r.data < 256 ^ r.n →
            answers (.data old) (wrote (amoValue (BitVec.ofNat (8 * r.n) old) (BitVec.ofNat (8 * r.n) r.data) f).toNat)) ∧
          (r.op = .cas → (old = r.exp → answers (.data old) (wrote r.data)) ∧ (old ≠ r.exp → answers (.data old) same))) ∧
        (bit k.ent 4 = false → r.op = .commit → ∃ lvl, answers (.fault 2 lvl k.ent h) same))) ∧
    (let pa := leafPa k.ent r.va
     let dev := s.devKey pa
     let old := leNat (s.readPhys pa r.n dev)
     let wrote (v : Nat) (t : State) : Prop := t.readPhys pa r.n dev = leBytes r.n v ∧ same t
     x.line r.asid r.va = none → x.keptFor r.asid r.va = some k → bit k.ent 4 = true → bit k.ent 5 = true → bit k.ent 6 = true →
      bit k.ent 8 = false → bit k.ent 9 = false → bit k.ent 10 = true → s.memWf = true → s.physBad pa r.n = false → r.n ∈ [1, 2, 4, 8] →
      r.va % r.n = 0 → r.data < 256 ^ r.n →
      (r.op = .load → answers (.data old) same) ∧
      (r.op = .commit → answers .translated (wrote r.data)) ∧
      (∀ f, r.op = .amo f →
        answers (.data old) (wrote (amoValue (BitVec.ofNat (8 * r.n) old) (BitVec.ofNat (8 * r.n) r.data) f).toNat)) ∧
      (r.op = .cas → (old = r.exp → answers (.data old) (wrote r.data)) ∧ (old ≠ r.exp → answers (.data old) same))) ∧
    (∀ lvl e, x.line r.asid r.va = none → x.keptFor r.asid r.va = none → (s.keyOf (stackOf (8 * r.asid)) r.asid).isSome = true →
      s.walkFrom r.asid r.va 5 (x.walkAt r.asid r.va) = .invalid lvl e false → r.op = .load →
      answers (.fault 1 lvl e h) (fun t => ∀ g, (t.slice g).lines = (s.slice g).lines ∧ (t.slice g).kept = (s.slice g).kept))

/-- Replies end a global access: a load's value is delivered with its sign, a store's acknowledgement frees its entry, and
the egress queue's acceptance is noted (R92, R195, R213). A fault reply parks its access, with a page-fault record to be
sent; a failing entry freezes the core, and a reply of an earlier epoch has the access sent again (R221 to R225). A region
command's acknowledgement frees its entry and gives its value (R331, R332). Of the model's own choice: the `va` of a
page-fault record (log entry 99). -/
def Obligations.RepliesEndOrParkAccesses : Prop :=
  (∀ (s : State) (r : GReply) (x : LsEntry) (q : Part),
    let p := r.req.place
    let c := s.core p
    c.lsq = [x] → x.parts = [q] → r.req.seq = x.cmd.seq → r.req.act = x.cmd.act → r.req.part = 0 → q.n = x.n →
    (∀ v, r.res = .data v → ∃ t, exec (.globalReply r) s = .next t ∧
      t.core p = ({ c with lsq := [] } : Core).deliver x.cmd.act x.cmd.tag
        (if x.op = .xprobe then BitVec.ofNat 64 v
         else if x.sgn then (BitVec.ofNat (8 * x.n) v).signExtend 64 else (BitVec.ofNat (8 * x.n) v).setWidth 64)) ∧
    (r.res = .translated → q.st = .left ∨ q.st = .egress → ∃ t, exec (.storeAck r) s = .next t ∧ (t.core p).lsq = []) ∧
    (q.st = .left → x.op = .store → ∃ t, exec (.egressQueueAcceptanceReport p x.cmd.act x.cmd.seq 0) s = .next t ∧
      (t.core p).lsq = [{ x with parts := [{ q with st := .egress }] }])) ∧
  (∀ (s : State) (r : GReply) (x : LsEntry) (q : Part) (cause lvl ent slice : Nat) (val : Option Nat),
    let p := r.req.place
    let c := s.core p
    c.lsq = [x] → x.parts = [q] → r.req.seq = x.cmd.seq → r.req.act = x.cmd.act → r.req.part = 0 → c.pair = none →
    r.res = .fault cause lvl ent slice →
    (r.req.epoch = c.epoch → cause < 7 → q.st = .asked → ∃ t f, exec (.pageFaultReply r) s = .next t ∧
      (t.core p).lsq = [{ x with parts := [{ q with st := .parked }], page := some f }] ∧ (t.core p).life = c.life ∧
      f.kind = 8 ∧ f.reply = true ∧ f.va = x.addr ∧ f.pc = x.cmd.pc ∧ f.cseq = x.cmd.seq ∧ f.entry = x.cmd.ent) ∧
    (r.req.epoch = c.epoch → 7 ≤ cause → c.life = .running → ∃ t, exec (.pageFaultReply r) s = .next t ∧
      (t.core p).lsq = [] ∧ (t.core p).life = .frozen) ∧
    (r.req.epoch ≠ c.epoch → x.op = .load → ∃ t req, exec (.pageFaultReply r) s = .next t ∧
      Sent s t (s.sliceName (homeSlice c.asid q.va)) 2 (.access (homeSlice c.asid q.va) req) ∧
      req.op = .load ∧ req.va = q.va ∧ req.n = q.n ∧ req.epoch = c.epoch) ∧
    (x.sent = true → ∃ t, exec (.regionCommandAcknowledgement p x.cmd.act x.cmd.seq val) s = .next t ∧
      t.core p = ({ c with lsq := [] } : Core).deliver x.cmd.act x.cmd.tag (BitVec.ofNat 64 (val.getD 0))))

/-- An acceptor's answer to a connection request: its checks in their order, and the two ends connected where all hold; the
connector's endpoint is connected, or as it was before and without the reservation that the attempt made, by the code of the answer (R240,
R243, R244, Table 07.5). Of the model's own choice: the numbers of messages, which start at 0 (log entries 22 and 105). -/
def Obligations.ConnectionsAreMade : Prop :=
  ∀ (s : State) (m : ChanMsg) (k : Fin 16) (a b : Automaton) (x : Cmd),
    let c := s.core m.dst
    let e := c.eps[k]
    let answered (t : State) (code : Nat) : Prop :=
      ∃ r, Sent s t m.src 0 (.chan r) ∧ r.sub = .answer ∧ r.code = code ∧ r.cmd = m.cmd ∧ r.dep = m.sep
    m.dep = k.val → c.pair = none → e.aut = some a → m.aut = some b →
    (∃ t, exec (.connectionRequestArrival m) s = .next t ∧
      (e.life ≠ .listening → (t.core m.dst).eps[k] = e ∧ answered t 2) ∧
      (e.life = .listening →
        (m.asid ≠ c.asid → (t.core m.dst).eps[k] = { e with lref := 9 } ∧ answered t 9) ∧
        (m.asid = c.asid → e.key.toNat ≠ m.key → (t.core m.dst).eps[k] = { e with lref := 3 } ∧ answered t 3) ∧
        (m.asid = c.asid → e.key.toNat = m.key → a ≠ mirror b →
          (t.core m.dst).eps[k] = { e with lref := 4 } ∧ answered t 4) ∧
        (m.asid = c.asid → e.key.toNat = m.key → a = mirror b → answered t 0 ∧
          let y := (t.core m.dst).eps[k]
          y.life = .connected ∧ y.peer = m.src ∧ y.pep = m.sep ∧ y.pkind = m.skind ∧ y.cur = 0 ∧ y.buf = [] ∧ y.sseq = 0 ∧
            y.rseq = 0 ∧ y.aut = e.aut ∧ y.resv = e.resv))) ∧
    (c.life = .running → c.nq = [x] → c.nSent = true → x.seq = m.cmd → e.life = .connecting →
      ∃ t, exec (.connectionAnswerArrival m) s = .next t ∧ (t.core m.dst).nq = [] ∧ (t.core m.dst).nSent = false ∧
        let y := (t.core m.dst).eps[k]
        (m.code = 0 → y.life = .connected ∧ y.cur = 0 ∧ y.buf = [] ∧ y.peer = e.peer ∧ y.resv = e.resv ∧ y.lref = 0) ∧
        (m.code ≠ 0 → y.life = e.prev ∧ y.lref = m.code ∧ y.resv = if e.prev = .idle then none else e.resv))

/-- A mailbox takes a post of a type that it knows into its lowest free slot, writing no byte outside it, and refuses others by the codes of Table 07.14;
its answer ends the post (R269, R270). A region controller accepts a connection with one of its built-in automata, with an
answer of code 0, takes a label in sequence, and drops the connection at the core's close (R271, R273). Of the model's own choice: the limit
of a post by its slot (log entry 100), and the controller's own numbers of its connections (log entry 131). -/
def Obligations.PostsAndControllersConverse : Prop :=
  (∀ (s : State) (m : PostMsg) (k : Fin 16) (a : Automaton) (w n : Nat) (x : Cmd) (code : Nat),
    let c := s.core m.dst
    let e := c.eps[k]
    let answer (z : Nat) : Msg := .postAns m.src m.act m.tag m.seq z m.dep
    (m.dep = k.val →
      (e.life ≠ .shared → ∃ t, exec (.postArrival m) s = .next t ∧ t.core m.dst = c ∧ Sent s t m.src 0 (answer 6)) ∧
      (e.life = .shared → e.msealed = true → ∃ t, exec (.postArrival m) s = .next t ∧ Sent s t m.src 0 (answer 5)) ∧
      (e.life = .shared → e.msealed = false → e.aut = some a →
        (a.edges.find? (fun w => edgeType w == m.ty) = none → ∃ t, exec (.postArrival m) s = .next t ∧ Sent s t m.src 0 (answer 3)) ∧
        (e.msize < m.payload.length → ∃ t, exec (.postArrival m) s = .next t ∧ Sent s t m.src 0 (answer 3)) ∧
        (a.edges.find? (fun w => edgeType w == m.ty) = some w → m.payload.length ≤ e.msize →
          (lowestFree e.mslots (e.buf.map (·.slot)) = none → ∃ t, exec (.postArrival m) s = .next t ∧ Sent s t m.src 0 (answer 1)) ∧
          (lowestFree e.mslots (e.buf.map (·.slot)) = some n → c.entryFull k = true →
            ∃ t, exec (.postArrival m) s = .next t ∧ t.core m.dst = c ∧ Sent s t m.src 0 (answer 2)) ∧
          (lowestFree e.mslots (e.buf.map (·.slot)) = some n → c.entryFull k = false →
            ∃ t, exec (.postArrival m) s = .next t ∧ Sent s t m.src 0 (answer 0) ∧
              (t.core m.dst).eps[k].buf = e.buf ++ [{ sub := .data, ty := m.ty, payload := m.payload, slot := n }] ∧
              (∀ base z, e.resv = some (base, z) → ∀ i, i < base + n * e.msize ∨ base + n * e.msize + m.payload.length ≤ i →
                (t.core m.dst).sp.read i = c.sp.read i))))) ∧
    (c.nq = [x] → c.life = .running → ∃ t, exec (.postAnswerArrival m.dst x.act x.tag x.seq code) s = .next t ∧
      (t.core m.dst).nq = [] ∧ t.core m.dst = ({ c with nq := [], nSent := false } : Core).deliver x.act x.tag (BitVec.ofNat 64 code))) ∧
  (∀ (s : State) (k : Nat) (m : ChanMsg) (x : Conn),
    let c := s.ctl k
    (m.sub = .request → c.conns.length < 256 → ∃ t, exec (.controllerConversation k m) s = .next t ∧
      (m.key = 0 → m.aut = some (builtIn m.bia) →
        (t.ctl k).conns = c.conns ++ [{ num := c.connNo + 1, place := m.src, ep := m.sep, asid := m.asid, bia := m.bia }] ∧
        ∃ r, Sent s t m.src 0 (.chan r) ∧ r.sub = .answer ∧ r.code = 0 ∧ r.cmd = m.cmd ∧ r.conn = c.connNo + 1) ∧
      (m.key ≠ 0 → t.ctl k = c ∧ ∃ r, Sent s t m.src 0 (.chan r) ∧ r.sub = .answer ∧ r.code = 3) ∧
      (m.key = 0 → m.aut ≠ some (builtIn m.bia) → t.ctl k = c ∧ ∃ r, Sent s t m.src 0 (.chan r) ∧ r.sub = .answer ∧ r.code = 4)) ∧
    (m.sub = .close → m.bia = 0 → m.cmd = 0 → m.conn = x.num → c.conns = [x] →
      (m.seq = x.rseq → ∃ t, exec (.controllerConversation k m) s = .next t ∧ (t.ctl k).conns = []) ∧
      (m.seq ≠ x.rseq → ∃ t, exec (.controllerConversation k m) s = .next t ∧ (t.ctl k).conns = [x])) ∧
    (m.sub = .label → m.bia = 0 → m.cmd = 0 → m.conn = x.num → c.conns = [x] → m.seq = x.rseq → m.ty = 0 → x.st = 0 → x.bia < 2 →
      ∃ t, exec (.controllerConversation k m) s = .next t ∧
        (t.ctl k).conns = [{ x with rseq := (x.rseq + 1) % 65536, st := 1 }]))

/-- Messages of a channel enter the next slot of the endpoint's buffer in sequence, and the engine writes no byte outside that slot;
one out of sequence is a fabric error, one for a full entry is sent again after 1 µs, and one for a closed endpoint is discarded; a
close or error notice closes the endpoint behind what it has buffered, and an error notice marks no entry (R240, R259, R260, R273,
R274). Of the model's own choice: the numbers of messages (log entry 22). -/
def Obligations.MessagesAreBuffered : Prop :=
  ∀ (s : State) (m : ChanMsg) (k : Fin 16) (i : Instr),
    let c := s.core m.dst
    let e := c.eps[k]
    m.dep = k.val →
    (e.life = .connected → e.peer = m.src → e.pkind = m.skind → e.pkind = 1 ∨ e.pep = m.sep → e.stub = none →
      (i = .channelMessageArrival m ∨ (i = .endpointMessageArrival m ∧ m.endp.isSome = true) →
        (m.seq = e.rseq → c.entryFull k = false → ∃ t, exec i s = .next t ∧
          (t.core m.dst).eps[k].buf =
            e.buf ++ [{ sub := m.sub, ty := m.ty, payload := m.payload, endp := m.endp, slot := e.ring, seq := m.seq, rel := m.rel }] ∧
          (t.core m.dst).eps[k].rseq = (e.rseq + 1) % 65536 ∧ (t.core m.dst).eps[k].life = .connected ∧
          (∀ base z, e.resv = some (base, z) →
            let at_ := base + e.ring * (z / e.lain)
            ∀ n, n < at_ ∨ at_ + min m.payload.length (z / e.lain) ≤ n → (t.core m.dst).sp.read n = c.sp.read n)) ∧
        (m.seq ≠ e.rseq → ∃ t, exec i s = .next t ∧ t.core m.dst = c) ∧
        (m.seq = e.rseq → c.entryFull k = true → m.skind ≠ 1 ∨ m.cmd = 0 → m.tries < 1023 →
          exec i s = .next (s.after us (.channelRetryResend { m with tries := m.tries + 1 })))) ∧
      (c.entryFull k = false → m.seq = e.rseq → ∃ t, exec (.closeNoticeArrival m) s = .next t ∧
        let y := (t.core m.dst).eps[k]
        y.life = .closed ∧ y.code = m.code ∧ y.notice = some { code := m.code, conf := m.conf, err := false } ∧ y.buf = e.buf) ∧
      (m.seq = e.rseq ∨ m.bia = 1 → ∃ t, exec (.errorNoticeArrival m) s = .next t ∧ (t.core m.dst).hdl = c.hdl ∧
        let y := (t.core m.dst).eps[k]
        y.life = .closed ∧ y.code = m.code ∧ y.notice = some { code := m.code, conf := m.conf, err := true } ∧ y.buf = e.buf) ∧
      (m.seq ≠ e.rseq → m.bia ≠ 1 → ∃ t, exec (.errorNoticeArrival m) s = .next t ∧ t.core m.dst = c)) ∧
    (e.life = .closed → m.cmd = 0 → m.sub ∈ [ChanSub.data, .label, .endp] → exec (.channelMessageArrival m) s = .next s) ∧
    (m.skind = 1 → ∃ t, exec (.channelRetryResend m) s = .next t ∧ Sent s t m.dst m.dkind (.chan m)) ∧
    (m.skind = 0 → (s.core m.src).life = .running → m.cmd = 0 →
      ∃ t, exec (.channelRetryResend m) s = .next t ∧ Sent s t m.dst m.dkind (.chan m)) ∧
    (∀ x, m.skind = 0 → (s.core m.src).life = .running → (s.core m.src).nq = [x] → (s.core m.src).nSent = true → x.seq = m.cmd →
      ∃ t, exec (.channelRetryResend m) s = .next t ∧ Sent s t m.dst m.dkind (.chan m))

/-- The forwarding exchange of a delegated endpoint: the stub learns the new holder's name and redirects the peer, and passes on the
messages that still reach it one after the other, each once what it releases has been performed where the new holder is; the peer
acknowledges once none of its messages to the stub is to be accepted any more, and switches; the stub ends with a mark, and the new holder
takes forwarded messages before those that it holds behind the mark. Each takes what is in sequence alone (R94, R266, R273, R275). Of the
model's own choice: the numbers of what is forwarded, of an acknowledgement and of a mark (log entry 22), and that a stub passes on one
message at a time (log entry 126). -/
def Obligations.DelegationForwards : Prop :=
  ∀ (s : State) (m h : ChanMsg) (k : Fin 16) (q n : Nat),
    let c := s.core m.dst
    let e := c.eps[k]
    let after (i : Instr) (good : State → Ep → Prop) : Prop := ∃ t, exec i s = .next t ∧ good t (t.core m.dst).eps[k]
    let fromPeer : Prop := m.bia = 0 ∧ e.peer = m.src ∧ e.pep = m.sep ∧ e.pkind = m.skind
    m.dep = k.val → c.pair = none →
    (e.life = .moving → e.fwd = none → e.buf = [] → e.pass = [] → e.stub = none →
      after (.adopterNameArrival m) (fun t y => y.fwd = some (m.src, m.sep) ∧ ∃ r, Sent s t e.peer e.pkind (.chan r) ∧
        r.sub = .redirect ∧ r.dep = e.pep ∧ r.key = m.src + m.sep * 2 ^ 20 ∧ r.seq = e.sseq)) ∧
    (e.life = .connected → fromPeer → m.sub = .redirect →
      ((e.rseq + 65536 - m.seq) % 65536 < 32768 → s.onWay (sentBy m.dst k) = false → after (.redirectArrival m) (fun t y =>
        y = { e with peer := m.key % 2 ^ 20, pep := m.key / 2 ^ 20 % 16, pkind := 0, sseq := (e.sseq + 1) % 65536
                     old := e.old ++ [(m.src, m.sep)] } ∧
        ∃ r, Sent s t m.src m.skind (.chan r) ∧ r.sub = .redirectAck ∧ r.dep = m.sep ∧ r.seq = e.sseq)) ∧
      ((e.rseq + 65536 - m.seq) % 65536 < 32768 → s.onWay (sentBy m.dst k) = true →
        exec (.redirectArrival m) s = .next (s.after us (.redirectArrival m)))) ∧
    (e.life = .moving → e.fwd = some (q, n) → e.pass = [] → e.passing = false → e.stub = none → m.sub = .data → fromPeer →
      (m.seq = e.rseq → s.releasedTo q m = true → after (.channelMessageArrival m) (fun t y => y.passing = true ∧ y.pass = [] ∧
        y.rseq = (e.rseq + 1) % 65536 ∧ ∃ r, Sent s t q 0 (.chan r) ∧ r.sub = .forwarded 2 ∧ r.dep = n ∧ r.ty = m.ty ∧
          r.payload = m.payload ∧ r.seq = m.seq)) ∧
      (m.seq = e.rseq → s.releasedTo q m = false → after (.channelMessageArrival m) (fun t y => y.passing = false ∧ y.pass = [m] ∧
        t.net = s.net)) ∧
      (m.seq ≠ e.rseq → after (.channelMessageArrival m) (fun t y => y = e ∧ t.net = s.net))) ∧
    (e.life = .moving → e.fwd = some (q, n) → e.pass = [] → e.passing = false → m.sub = .redirectAck →
      m.bia = 1 ∨ (fromPeer ∧ m.seq = e.rseq) → after (.redirectAckArrival m) (fun t y => y.life = .idle ∧ y.aut = none ∧
        ∃ r, Sent s t q 0 (.chan r) ∧ r.sub = .stubEnd ∧ r.dep = n ∧ r.seq = e.rseq)) ∧
    (e.life = .connected → m.sub = .forwarded 2 → c.entryFull k = false → m.bia = 0 →
      (m.seq = e.rseq → after (.forwardedMessageArrival m) (fun _ y => y.rseq = (e.rseq + 1) % 65536 ∧ y.buf =
        e.buf ++ [{ sub := .data, ty := m.ty, payload := m.payload, endp := m.endp, slot := e.ring, seq := m.seq, rel := m.rel }])) ∧
      (m.seq ≠ e.rseq → after (.forwardedMessageArrival m) (fun _ y => y = e))) ∧
    (e.life = .connected → e.held = [h] → h.sub = .data → m.sub = .stubEnd → m.bia = 0 → e.stub = some (m.src, m.sep) →
      (m.seq = e.rseq → after (.stubEndArrival m) (fun t y =>
        y = { e with stub := none, held := [], rseq := (e.rseq + 1) % 65536 } ∧ t.agenda = .channelMessageArrival h :: s.agenda)) ∧
      (m.seq ≠ e.rseq → after (.stubEndArrival m) (fun _ y => y = e)))

/-- A transfer at the head of the copy queue takes a context; its segment's translation lets it go on, parks it or ends it,
and is asked for again where it is of an earlier epoch; a refusal ends the transfer, and that of a window put freezes the core (R283, R286,
R293, R294, R318, R345). While a record of the engine has not been accepted, each waits (R34). Of the model's own choice: what a refusal
carries of its command (log entry 101). -/
def Obligations.TransfersGoOn : Prop :=
  ∀ (s : State) (p : Nat) (x : Xfer) (y : Cmd) (l : List Cmd) (ra rb rc : Reg) (sp : Ls) (a b w : Word) (va : Nat) (r : XlReply)
      (f : CopyRefusal),
    let c := s.core p
    (c.recs = [] → c.cq = y :: l → c.xfers = [] → y.op = .cpGet ra rb rc sp → y.vals = [a, b, w] →
      transferBad y.op a.toNat b.toNat w.toNat = none → w.toNat % 2 ^ 24 ≠ 0 →
      ∃ t z, exec (.transferTake p) s = .next t ∧ (t.core p).cq = l ∧ (t.core p).xfers = [z] ∧ z.cmd = y ∧ z.get = true ∧
        z.ls = sp ∧ z.loc = a.toNat ∧ z.total = w.toNat % 2 ^ 24 ∧ z.off = 0 ∧ z.batch = c.batch ∧ z.far = s.farSide b.toNat) ∧
    (3 ∈ c.recs.map (·.1) → exec (.transferTake p) s = .next s) ∧
    (c.recs = [] → c.life ≠ .sealed → c.xfers = [x] → x.ctx = r.ctx → r.place = p → x.xl = .asked → x.plan = .plain → x.far = .glob va →
      r.seg = (va + x.off) / 65536 →
      (r.res = .translated → r.epoch = c.cEpoch → ∃ t, exec (.copySegmentTranslation r) s = .next t ∧
        (t.core p).xfers = [{ x with xl := .ok r.seg (r.pa - (va + x.off) % 65536) r.uc r.pois }]) ∧
      (∀ cause lvl ent slice, r.res = .fault cause lvl ent slice →
        (cause < 7 → r.epoch = c.cEpoch → ∃ t, exec (.copySegmentTranslation r) s = .next t ∧
          (t.core p).xfers = [{ x with xl := .parked }]) ∧
        (7 ≤ cause → r.epoch = c.cEpoch → ∃ t, exec (.copySegmentTranslation r) s = .next t ∧ (t.core p).xfers = []) ∧
        (r.epoch ≠ c.cEpoch → ∃ t q, exec (.copySegmentTranslation r) s = .next t ∧ t.cores = s.cores ∧
          Sent s t (s.sliceName (homeSlice c.asid (va + x.off))) 2 (.access (homeSlice c.asid (va + x.off)) q) ∧
          q.copy = some (x.ctx, (va + x.off) / 65536) ∧ q.epoch = c.cEpoch))) ∧
    (r.place = p → c.life ≠ .sealed → 3 ∈ c.recs.map (·.1) →
      exec (.copySegmentTranslation r) s = .next (s.post (.copySegmentTranslation r))) ∧
    (f.place = p → c.life ≠ .sealed → 3 ∈ c.recs.map (·.1) → exec (.copyRefusalArrival f) s = .next (s.post (.copyRefusalArrival f))) ∧
    (c.recs = [] → c.life ≠ .sealed → c.xfers = [x] → x.ctx = f.ctx → f.place = p → x.perf = false → f.by_.cseq = x.cmd.seq →
      (f.window = false → ∃ t, exec (.copyRefusalArrival f) s = .next t ∧ (t.core p).xfers = [] ∧ (t.core p).life = c.life) ∧
      (f.window = true → c.life = .running →
        ∃ t, exec (.copyRefusalArrival f) s = .next t ∧ (t.core p).xfers = [] ∧ (t.core p).life = .frozen))

/-- Copy units write their bytes and no others, at the scratchpad of a core or in a line of a slice; gets return the bytes of
their far side, which the core's own storage takes: piece by piece, in the atomic units of Table 03.6, and what follows a unit comes
once no piece is left, the order of the pieces being free (R102, R292, R293, R295, R311; log entry 118). A unit or get that met a core being evicted is
sent again while its transfer needs it (R294). A raise of a synchronisation word adds to its count, and advances its
generation where the count reaches the target; bytes outside the word's count, generation and flags stay (R310, R311). Of the
model's own choice: that a raise is a step of its own (log entry 37). -/
def Obligations.CopyUnitsMoveBytesAndRaise : Prop :=
  (∀ (s : State) (u : CopyUnit) (g : GetReq) (d : GetData) (q a va : Nat) (l : Line) (x : Xfer),
    (u.dst = .core q a → u.wcn = none →
      let todo := u.todo.getD (pieces a u.bytes.length 4)
      todo ≠ [] → (∀ y ∈ todo, y.1 + y.2 ≤ u.bytes.length) → ∃ t, ∃ y ∈ todo, exec (.copyUnitArrival u) s = .next t ∧
        (∀ i, (t.core q).sp.read i =
          if a + y.1 ≤ i ∧ i < a + y.1 + y.2 then u.bytes.getD (i - a) 0 else (s.core q).sp.read i) ∧
        t.agenda = s.agenda ++ if todo.erase y = [] then (u.swa.map (fun n => Event.syncWordRaise q (16 * n) u.bytes.length)).toList
          else [.copyUnitArrival { u with todo := some (todo.erase y) }]) ∧
    (u.dst = .glob va → u.wcn = none → u.uc = false → (s.slice (homeSlice u.asid va)).line u.asid va = some l → l.bad = false →
      l.pa % 64 = 0 → u.pa = l.pa + va % 64 → va % 64 + u.bytes.length ≤ 64 →
      let todo := u.todo.getD (pieces va u.bytes.length 8)
      todo ≠ [] → (∀ y ∈ todo, y.1 + y.2 ≤ u.bytes.length ∧ 0 < y.2) → ∃ t, ∃ y ∈ todo, exec (.copyUnitArrival u) s = .next t ∧
        (t.slice (homeSlice u.asid va)).line u.asid va =
          some { l with data := patch l.data (va % 64 + y.1) ((u.bytes.drop y.1).take y.2), dirty := true }) ∧
    (let read (f a : Nat) (bytes : Nat × Nat → List Byte) : Prop :=
       let todo := g.todo.getD (pieces a g.n f)
       todo ≠ [] → (∀ y ∈ todo, y.1 + y.2 ≤ g.n ∧ 0 < y.2) → ∃ t, ∃ y ∈ todo, exec (.copyGetRequestArrival g) s = .next t ∧
         let got := g.got ++ (upto (a + y.1) (bytes y).length).zip (bytes y)
         (todo.erase y ≠ [] → t.net = s.net ∧
           t.agenda = s.agenda ++ [.copyGetRequestArrival { g with got := got, todo := some (todo.erase y) }]) ∧
         (todo.erase y = [] →
           Sent s t g.place 0 (.getData { req := { g with todo := none, got := [] }, bytes := gathered got a g.n }))
     (g.src = .core q a → (s.core q).bad = [] → read 4 a (fun y => (s.core q).sp.readN (a + y.1) y.2)) ∧
     (g.src = .glob va → g.pois = false → g.uc = false → (s.slice (homeSlice g.asid va)).line g.asid va = some l → l.bad = false →
       l.pa % 64 = 0 → g.pa = l.pa + va % 64 → va % 64 + g.n ≤ 64 →
       read 8 va (fun y => (l.data.drop (va % 64 + y.1)).take y.2))) ∧
    (let p := d.req.place
     let a := x.loc + d.req.off
     let todo := d.todo.getD (pieces a d.bytes.length 4)
     (s.core p).recs = [] → (s.core p).xfers = [x] → x.ctx = d.req.ctx → x.cmd.seq = d.req.by_.cseq → x.out = [d.req.off] →
      x.perf = false → x.plan = .plain → x.ls = .sp → d.poison = false → todo ≠ [] →
      (∀ y ∈ todo, y.1 + y.2 ≤ d.bytes.length) → ∃ t, ∃ y ∈ todo, exec (.copyGetDataArrival d) s = .next t ∧
        (todo.erase y = [] → (t.core p).xfers = [{ x with out := [] }]) ∧
        (todo.erase y ≠ [] → (t.core p).xfers = [x] ∧
          t.agenda = s.agenda ++ [.copyGetDataArrival { d with todo := some (todo.erase y) }]) ∧
        ∀ i, (t.core p).sp.read i = if a + y.1 ≤ i ∧ i < a + y.1 + y.2 then d.bytes.getD (i - a) 0 else (s.core p).sp.read i)) ∧
  (∀ (s : State) (u : CopyUnit) (g : GetReq) (x : Xfer) (q a p spa n : Nat),
    (u.dst = .core q a → u.tries ≠ 0 → (s.core u.place).xfers = [x] → x.ctx = u.ctx → x.cmd.seq = u.by_.cseq → x.perf = false → u.off ∈ x.out →
      ∃ t, exec (.copyRetryResend (.unit u)) s = .next t ∧ Sent s t q 0 (.copyUnit u)) ∧
    (g.src = .core q a → (s.core g.place).xfers = [x] → x.ctx = g.ctx → x.cmd.seq = g.by_.cseq → x.perf = false → g.off ∈ x.out →
      ∃ t, exec (.copyRetryResend (.get g)) s = .next t ∧ Sent s t q 0 (.getReq g)) ∧
    (let m := (s.core p).sp
     let tgt := m.load spa 4
     let cnt := m.load (spa + 4) 4 + n
     ∃ t, exec (.syncWordRaise p spa n) s = .next t ∧
      let z := (t.core p).sp
      (∀ i, i < spa + 4 ∨ spa + 11 ≤ i → z.read i = m.read i) ∧
      (m.load (spa + 10) 1 % 2 = 0 ∨ tgt = 0 → z = m) ∧
      (m.load (spa + 10) 1 % 2 = 1 → tgt ≠ 0 →
        (cnt < tgt → z.load (spa + 4) 4 = cnt ∧ z.load (spa + 8) 3 = m.load (spa + 8) 3) ∧
        (tgt ≤ cnt → z.load (spa + 4) 4 = 0 ∧ z.load (spa + 8) 2 = (m.load (spa + 8) 2 + 1) % 65536) ∧
        (cnt = tgt → z.load (spa + 10) 1 = m.load (spa + 10) 1) ∧
        (tgt < cnt → z.load (spa + 10) 1 = (m.load (spa + 10) 1 ||| 2)))))

/-- A touched unit of a demand-fill window starts to be filled, and is present once its 512 bytes have been written, piece by piece in an
order that is free (R102, R306; log entry 118). A
unit of a window put passes where a registered window of its target holds every byte, with the window's owner and echo, and
is refused elsewhere; acknowledgements and echoes raise a window counter modulo 2^48, and wait while the core is being
evicted (R336, R338, R345). Of the model's own choice: the retries of a counter's acknowledgement (log entry 54). -/
def Obligations.FillsAndWindows : Prop :=
  (∀ (s : State) (p unit : Nat) (w : Fin 4) (x : LsEntry) (f : Fill),
    let c := s.core p
    (c.recs = [] → c.lsq = [x] → x.glob = false → x.op = .load → c.loadReady x = true → (w.val, unit) ∈ c.absent x.addr x.n →
      c.fills[w].todo = [] → c.fillHeld w.val unit x = false → c.filling = [] →
      ∃ t g, exec (.fillTouch p w.val unit) s = .next t ∧ (t.core p).filling = [g] ∧ g.win = w.val ∧ g.unit = unit ∧ g.cmd = x.cmd ∧
        g.bytes = [] ∧ (t.core p).lsq = c.lsq) ∧
    (c.recs = [] → c.filling = [f] → f.win = w.val → f.unit = unit → f.bytes.length = 512 →
      let a := c.fills[w].base + 512 * unit
      let todo := f.todo.getD (pieces a 512 4)
      todo ≠ [] → (∀ y ∈ todo, y.1 + y.2 ≤ 512) → ∃ t, ∃ y ∈ todo, exec (.fillComplete p w.val unit) s = .next t ∧
        (∀ i, (t.core p).sp.read i = if a + y.1 ≤ i ∧ i < a + y.1 + y.2 then f.bytes.getD (i - a) 0 else c.sp.read i) ∧
        (todo.erase y ≠ [] → (t.core p).filling = [{ f with todo := some (todo.erase y) }] ∧ (t.core p).fills = c.fills) ∧
        (todo.erase y = [] → (t.core p).filling = [] ∧ (t.core p).fills[w].present = c.fills[w].present ++ [unit]))) ∧
  (∀ (s : State) (u : CopyUnit) (q a : Nat) (x : SpWin) (p n tries : Nat) (w : Fin 8),
    let covers (y : SpWin) : Prop := y.gasid = u.asid ∧ y.base ≤ a ∧ a + u.bytes.length ≤ y.base + 64 * y.units
    (u.dst = .core q a → (s.core q).wins = [x] →
      (covers x → exec (.windowPutCheck u) s = .next (s.post (.copyUnitArrival
        { u with checked := true, asidX := x.owner, echo := if x.echo then some (q, x.wcn) else none }))) ∧
      (¬ covers x → ∃ t, exec (.windowPutCheck u) s = .next t ∧ Sent s t u.place 0 (.copyRefusal
        { place := u.place, ctx := u.ctx, off := u.off, cls := 2, cause := 1, window := true, far := a, by_ := u.by_ }))) ∧
    (let c := s.core p
     let raised := s.setCore p { c with wc := c.wc.set w ((c.wc[w] + n) % 2 ^ 48) }
     (c.life = .running ∨ c.life = .frozen → exec (.putAckArrival p w.val n) s = .next raised ∧
        exec (.echoRaise p w.val n) s = .next raised ∧ exec (.windowCounterRetry p w.val n tries) s = .next raised) ∧
     (c.life = .evicting → tries < 1023 →
        exec (.windowCounterRetry p w.val n tries) s = .next (s.after us (.windowCounterRetry p w.val n (tries + 1))))))

/-- Bytes written under a mark, or reported by another controller, are added to their region's count while the marks of that `rg.arm`
stand; a region whose count
reaches its total fires; a partial aggregate is reported to its home (R97, R322, R323, R326). The answer to an attempt fires
its region, arms it again or fails it, and a retry reply has it tried again after 1 µs; an attempt of a wake is a word to the
target core; a generation advance is answered; an `rg.bind` that waits for an attempt is acknowledged at its answer, also where the region has
been disarmed meanwhile (R327 to R329, R332, Tables 09.4 and 09.5). Of the model's own choice: that reports carry the number of their
`rg.arm` (log entry 123). -/
def Obligations.RegionsCountAndAct : Prop :=
  (∀ (s : State) (k i pa n home : Nat) (mk : Mark) (arms : List (Nat × Nat)),
    let r := s.region k i
    let after (e : Instr) : Prop := ∃ t, exec e s = .next t ∧
      (r.cnt + n < r.total → t.region k i = { r with cnt := r.cnt + n }) ∧
      (r.total ≤ r.cnt + n → r.bnd = false → t.region k i =
        { r with cnt := if r.rearm then r.cnt + n - r.total else r.cnt + n, st := .pending, phase := (r.phase + 1) % 1024
                 tries := 0, noted := false })
    (r.st = .armed → 0 < r.total → r.cnt + n < 2 ^ 48 → r.total < 2 ^ 48 →
      after (.arrivalReport k i ⟨n, r.arm⟩) ∧
      ((s.ctl k).marks = [mk] → mk.home = k → mk.idx = i → mk.lo ≤ pa → pa + n ≤ mk.hi → 0 < n → (k, mk.arm) ∈ arms →
        after (.countReport k pa ⟨n, arms⟩))) ∧
    (∀ arm, r.st = .free ∨ arm ≠ r.arm → exec (.arrivalReport k i ⟨n, arm⟩) s = .next s) ∧
    ((s.ctl k).marks = [mk] → (mk.home, mk.arm) ∉ arms → exec (.countReport k pa ⟨n, arms⟩) s = .next s) ∧
    ((s.ctl k).agg home i ≠ 0 → ∃ t, exec (.aggregateTimer k home i) s = .next t ∧ (t.ctl k).agg home i = 0 ∧
      Sent s t (s.ctlName home) 1 (.report home i ((s.ctl k).agg home i) (s.region home i).arm))) ∧
  (∀ (s : State) (k i ent place arg va p spa ctl idx : Nat),
    let r := s.region k i
    (r.flight = true → r.stale = false → r.st = .performing → r.ack = none →
      (r.cnt < r.total → ∃ t, exec (.actionAttemptAnswer k i .accepted) s = .next t ∧
        t.region k i = { r with flight := false, st := if r.rearm then .armed else .fired }) ∧
      (r.rebound = false → s.recFly = [] → ∃ t, exec (.actionAttemptAnswer k i .refused) s = .next t ∧
        t.region k i = { r with flight := false, st := .failed } ∧
        ∃ x ∈ t.net, ∃ f : FaultRec, (∃ m : SvcMsg, x.pkt.msg = .service m ∧ m.rcd = some f) ∧ f.kind = 0x0C ∧ f.place = s.ctlName k ∧
          f.skind = 1 ∧ field f.detail 0 1 = 8) ∧
      (r.rebound = false → r.tries < 1023 → ∃ t, exec (.actionAttemptAnswer k i .retry) s = .next t ∧
        t.region k i = { r with flight := false, tries := r.tries + 1 } ∧
        t.timers = s.timers ++ [(s.now + us, .actionRetry k i)])) ∧
    (∀ act seq asid, r.flight = true → r.stale = false → r.st = .performing → r.ack = some (p, act, seq, asid) → r.cnt < r.total →
      ∃ t, exec (.actionAttemptAnswer k i .accepted) s = .next t ∧ Sent s t p 0 (.regAck p act seq none) ∧
        t.region k i = { r with flight := false, ack := none, st := if r.rearm then .armed else .fired }) ∧
    (∀ act seq asid (a : ActAns), r.flight = true → r.stale = true → r.st = .free → r.owed = [(p, act, seq, asid)] → (s.ctl k).conns = [] →
      ∃ t, exec (.actionAttemptAnswer k i a) s = .next t ∧ Sent s t p 0 (.regAck p act seq none) ∧
        t.region k i = { r with flight := false, stale := false, owed := [] }) ∧
    (r.st = .performing → r.flight = false → r.binding = .wake ent place arg va → ∃ t, exec (.actionRetry k i) s = .next t ∧
      (t.region k i).flight = true ∧ Sent s t place 0 (.action place (.wake ent arg (s.ctlName k) i))) ∧
    (let m := (s.core p).sp
     ∃ t, exec (.generationAdvance p spa ctl idx) s = .next t ∧ Sent s t ctl 1 (.actionAns (ctl % 8) idx .accepted) ∧
      (m.load (spa + 10) 1 % 2 = 0 → (t.core p).sp = m) ∧
      (m.load (spa + 10) 1 % 2 = 1 → (t.core p).sp.load (spa + 4) 4 = 0 ∧
        (t.core p).sp.load (spa + 8) 2 = (m.load (spa + 8) 2 + 1) % 65536 ∧
        ∀ a, a < spa + 4 ∨ spa + 10 ≤ a → (t.core p).sp.read a = m.read a)))

/-- A capsule leaves the egress buffer for the core of its current step, lands there in a free slot and marks the step's
entry, or has a retry reply, upon which it is sent again after 1 µs (R400, R408, R409, R411). Of the model's own choice: when
a capsule leaves the egress buffer (log entry 31). -/
def Obligations.CapsulesTravel : Prop :=
  ∀ (s : State) (p : Nat) (m : Capsule) (g : EgCap) (e : Fin 20),
    let c := s.core p
    let h := m.hdr
    (c.egress = [g] → g.sent = false → s.tornDown g.cap.hdr.asid = false → coreOf (capPlace g.cap.hdr) < 192 → c.pair = none →
      ∃ t, exec (.capsuleEgressSend p) s = .next t ∧ (t.core p).egress = [{ g with sent := true }] ∧
        Sent s t (capPlace g.cap.hdr) 0 (.capsule g.cap)) ∧
    (s.tornDown h.asid = false → c.life = .running → c.asid = h.asid → capEntry h = e.val → c.hdl[e].valid = true →
      c.hdl[e].src = 1 →
      (c.slots[0].st = .free → c.hdl[e].pend < 65535 → ∃ t, exec (.capsuleArrival p m) s = .next t ∧
        (t.core p).slots[0].st = .waiting ∧ (t.core p).slots[0].hdr = some { h with st := h.st + 1 } ∧
        (t.core p).hdl[e].pend = c.hdl[e].pend + 1 ∧
        ∀ i, i < m.payload.length → (t.core p).sp.read (slotBase 0 + 64 + i) = m.payload.getD i 0) ∧
      (c.slots[0].st ≠ .free → c.slots[1].st ≠ .free → ∃ t, exec (.capsuleArrival p m) s = .next t ∧ t.core p = c ∧
        Sent s t m.sender 0 (.capRetry m))) ∧
    ((s.core m.sender).egress = [g] → g.sent = true → g.cap = m →
      (m.rtry < 1023 →
        let m' := { m with rtry := m.rtry + 1 }
        ∃ t, exec (.capsuleRetryReply m) s = .next t ∧
          (t.core m.sender).egress = [{ cap := m', sent := true }] ∧
          t.timers = s.timers ++ [(s.now + us, .capsuleRetryResend m')]) ∧
      ∃ t, exec (.capsuleRetryResend m) s = .next t ∧ Sent s t (capPlace h) 0 (.capsule m))

namespace Sys2Proof.Machine

/-- The records of a scheduler after one of them has changed. -/
def RecordBecomes (s t : State) (d rid : Nat) (f : TaskRec → TaskRec) : Prop :=
  (t.sched d).recs = (s.sched d).recs.map (fun y => if y.rid = rid then f y else y)

/-- A record that has returned to Ready. -/
def readied (s : State) (r : TaskRec) : TaskRec := { r with rst := 0, tag := 0, peer := 0, core := 0, ready := s.now }

end Sys2Proof.Machine

/-- A scheduler offers the first record in dispatch order to a free eligible core; the core takes it where its entry can be
marked and answers; the record is then Running, Ready again, or deleted once its activation has ended (R427, R430 to R433).
Of the model's own choice: that a record without a free core does not hold back the next (log entry 60). -/
def Obligations.RecordsAreDispatched : Prop :=
  ∀ (s : State) (d p q ent : Nat) (r : TaskRec) (k : Fin 20),
    ((s.sched d).down = false → s.firstReady d (fun r => (s.placeFor d r).isSome) = some r → s.placeFor d r = some (p, none) →
      s.eligible r p = true ∧ ∃ t e, exec (.dispatchOffer d) s = .next t ∧
        RecordBecomes s t d r.rid (fun y => { y with rst := 1, core := p }) ∧
        Sent s t p 0 (.dispatch p e { r with rst := 1, core := p })) ∧
    (let c := s.core q
     let answer (ok : Bool) : Msg := .dispatchAns (dieOf q) r.rid ok
     (c.life = .running → c.asid = r.asid → c.tasks.length < 16 → ent = k.val → c.hdl[k].valid = true → c.hdl[k].src = 4 →
        c.hdl[k].pend < 65535 → ∃ t, exec (.dispatchArrival q ent r) s = .next t ∧ (t.core q).tasks = c.tasks ++ [r.rid] ∧
          (t.core q).hdl[k].pend = c.hdl[k].pend + 1 ∧ Sent s t (s.schedName (dieOf q)) 3 (answer true)) ∧
     (c.life ≠ .running ∨ c.asid ≠ r.asid ∨ 16 ≤ c.tasks.length → ∃ t, exec (.dispatchArrival q ent r) s = .next t ∧
        t.core q = c ∧ Sent s t (s.schedName (dieOf q)) 3 (answer false))) ∧
    (s.recOf? d r.rid = some r →
      (r.rst = 1 → (∃ t, exec (.dispatchAnswerArrival d r.rid true) s = .next t ∧
          RecordBecomes s t d r.rid (fun y => { y with rst := 2 })) ∧
        ∃ t, exec (.dispatchAnswerArrival d r.rid false) s = .next t ∧ RecordBecomes s t d r.rid (readied s)) ∧
      (r.rst = 1 ∨ r.rst = 2 → s.pairOf d r.rid = [] → ∃ t, exec (.taskFinishedArrival d r.rid) s = .next t ∧
        (t.sched d).recs = (s.sched d).recs.filter (fun y => y.rid != r.rid)))

/-- The image of the record at the head of dispatch order, for which no free eligible core exists, is loaded into the lowest loadable core,
which then holds it and has its entry committed; a record that a region's action or a LAUNCH hands over is enqueued, or refused by the high
watermark or for want of room; a down scheduler answers nothing until it returns and asks about its records; a steal message waits behind an
earlier one (R327, R427, R428, R431, R435, R436, R438, R478, R486). Of the model's own choice: the slot that a record takes in queue memory,
when an image is loaded, and the resending over a link (log entries 61, 71 and 88). -/
def Obligations.ImagesAndRestarts : Prop :=
  ∀ (s : State) (d p : Nat) (r : TaskRec) (ctl idx : Nat) (f : CtlFrom) (k : Pkt) (tries : Nat),
    ((s.sched d).down = false → s.firstReady d (fun _ => true) = some r → (s.diePlaces d).any (s.eligible r) = false →
      (s.diePlaces d).find? (s.loadable r.asid) = some p → ∃ t cls cause, exec (.codeImageLoad d p r.rid) s = .next t ∧
        { place := p, rid := r.rid } ∈ (t.sched d).loads ∧ (t.core p).codeTag = 0 ∧
        .codeImageLoadDone d p r.rid cls cause ∈ t.agenda) ∧
    (let c := s.core p
     { place := p, rid := r.rid } ∈ (s.sched d).loads → s.recOf? d r.rid = some r → c.life = .running → c.asid = r.asid →
      ∃ t, exec (.codeImageLoadDone d p r.rid 0 0) s = .next t ∧
        t.core p = { c with codeLim := r.csize, codeTag := r.code, hdl := c.hdl.set 19 { valid := true, enable := true, src := 4 } }) ∧
    (let x := s.sched d
     let answer (a : ActAns) : Msg := .actionAns (ctl % 8) idx a
     (s.roomOn d = 0 → (∃ t, exec (.taskLaunchHandoff d r (.region ctl idx)) s = .next t ∧ (t.sched d).recs = x.recs ∧
         Sent s t ctl 1 (answer .refused)) ∧
       ∃ t, exec (.taskLaunchHandoff d r (.host f)) s = .next t ∧ (t.sched d).recs = x.recs ∧ Sent s t s.dirName 3 (.launched f 5 0)) ∧
     (s.roomOn d ≠ 0 →
      (x.readyCount r.asid + 1 ≤ (x.settings r.asid).high → ∃ t n i, exec (.taskLaunchHandoff d r (.region ctl idx)) s = .next t ∧
        (t.sched d).recs = x.recs ++ [{ r with rid := n, ready := s.now, slot := i }] ∧ (∀ y ∈ x.recs, y.slot ≠ i) ∧ Sent s t ctl 1 (answer .accepted)) ∧
      ((x.settings r.asid).high < x.readyCount r.asid + 1 → ∃ t, exec (.taskLaunchHandoff d r (.region ctl idx)) s = .next t ∧
        (t.sched d).recs = x.recs ∧ Sent s t ctl 1 (answer .refused)) ∧
      (x.readyCount r.asid + 1 ≤ (x.settings r.asid).high → ∃ t n i, exec (.taskLaunchHandoff d r (.host f)) s = .next t ∧
        (t.sched d).recs = x.recs ++ [{ r with rid := n, ready := s.now, slot := i }] ∧ (∀ y ∈ x.recs, y.rid ≠ n) ∧
        Sent s t s.dirName 3 (.launched f 0 n)) ∧
      ((x.settings r.asid).high < x.readyCount r.asid + 1 → ∃ t, exec (.taskLaunchHandoff d r (.host f)) s = .next t ∧
        (t.sched d).recs = x.recs ∧ (t.sched d).marks = x.marks ∧ Sent s t s.dirName 3 (.launched f 2 0)))) ∧
    (∃ t, exec (.schedulerResetOrPowerGating d) s = .next t ∧ (t.sched d).down = true ∧ (t.sched d).recs = (s.sched d).recs) ∧
    ((s.sched d).recs = [r] → r.rst = 2 → ∃ t, exec (.schedulerRestart d) s = .next t ∧ (t.sched d).down = false ∧
      (t.sched d).recs = [r] ∧ Sent s t r.core 0 (.tableQuery r.core d r.rid)) ∧
    (∃ t, exec (.taskTableQuery p d r.rid) s = .next t ∧
      Sent s t (s.schedName d) 3 (.tableAns d r.rid ((s.core p).tasks.contains r.rid))) ∧
    (pktChip k ≠ s.chip → ∃ t x, exec (.schedulerMessageResend k tries) s = .next t ∧ t.net = s.net ++ [x] ∧
      x.pkt = { k with id := s.pktNo, tries := tries, age := 0 }) ∧
    (pktChip k = s.chip → s.stealBehind k = false →
      ((s.sched (dieOf k.dst)).down = false → exec (.schedulerMessageResend k tries) s = .next (s.post (.deliver k))) ∧
      ((s.sched (dieOf k.dst)).down = true → tries < 1023 →
        exec (.schedulerMessageResend k tries) s = .next (s.after us (.schedulerMessageResend k (tries + 1))))) ∧
    (pktChip k = s.chip → s.stealBehind k = true →
      exec (.schedulerMessageResend k tries) s = .next (s.after us (.schedulerMessageResend k tries)))

/-- The stealing protocol between two schedulers: its messages and the states through which a record passes at the victim and at
the thief (R437 to R439, Tables 13.2 and 13.3). -/
def Obligations.RecordsAreStolen : Prop :=
  ∀ (s : State) (d e tag : Nat) (r : TaskRec) (pairs : List (Nat × Nat)),
    let said (t : State) (m : StealMsg) : Prop := Sent s t (s.schedName e) 3 (.steal e d m)
    let found (rst : Nat) : Prop := s.tagged d rst e tag = some r
    ((s.sched d).down = false → s.stealPairs d ≠ [] → ∃ t x y, exec (.stealRequest d) s = .next t ∧ t.net = s.net ++ [x, y] ∧
      x.pkt.msg = .steal ((d + 1) % 4) d (.request (s.stealPairs d)) ∧ y.pkt.msg = .steal ((d + 3) % 4) d (.request (s.stealPairs d)) ∧
      t.timers = s.timers ++ [(s.now + 2 * us, .stealRequest d)]) ∧
    (let wanted (r : TaskRec) : Bool := !r.hard && !r.paired && r.gang == 0 && pairs.contains (r.asid, r.code)
     (s.firstReady d wanted = none → ∃ t, exec (.stealRequestArrival d e pairs) s = .next t ∧ said t .none) ∧
     (s.firstReady d wanted = some r → ∃ t n, exec (.stealRequestArrival d e pairs) s = .next t ∧
        said t (.record { r with tag := n }) ∧ RecordBecomes s t d r.rid (fun y => { y with rst := 3, tag := n, peer := e }))) ∧
    (s.tornDown r.asid = true ∨ s.roomOn d = 0 → exec (.stolenRecordArrival d e r) s = .next s) ∧
    (s.tornDown r.asid = false → s.roomOn d ≠ 0 → ∃ t n i, exec (.stolenRecordArrival d e r) s = .next t ∧
      (t.sched d).recs = (s.sched d).recs ++ [{ r with rst := 4, peer := e, core := 0, rid := n, ready := s.now, slot := i }] ∧
      said t (.ack r.tag)) ∧
    (found 3 →
      (∃ t, exec (.stealAckArrival d e tag) s = .next t ∧ RecordBecomes s t d r.rid (fun y => { y with rst := 5 }) ∧
        said t (.confirm tag)) ∧
      (∃ t, exec (.heldQueryArrival d e tag) s = .next t ∧ RecordBecomes s t d r.rid (fun y => { y with rst := 5 }) ∧
        said t (.confirm tag)) ∧
      (∃ t, exec (.heldAnswerArrival d e tag) s = .next t ∧ RecordBecomes s t d r.rid (fun y => { y with rst := 5 }) ∧
        said t (.confirm tag)) ∧
      ∃ t, exec (.unknownAnswerArrival d e tag) s = .next t ∧ RecordBecomes s t d r.rid (readied s)) ∧
    (s.tagged d 3 e tag = none → s.tagged d 5 e tag = none →
      (∃ t, exec (.stealAckArrival d e tag) s = .next t ∧ said t (.revoke tag)) ∧
      ∃ t, exec (.heldQueryArrival d e tag) s = .next t ∧ said t (.revoke tag)) ∧
    (found 4 →
      (∃ t, exec (.confirmationArrival d e tag) s = .next t ∧ RecordBecomes s t d r.rid (readied s) ∧ said t (.taken tag)) ∧
      (∃ t, exec (.revocationArrival d e tag) s = .next t ∧ (t.sched d).recs = (s.sched d).recs.filter (fun y => y.rid != r.rid)) ∧
      ∃ t, exec (.lentQueryArrival d e tag) s = .next t ∧ said t (.held tag)) ∧
    (found 5 → ∃ t, exec (.takenArrival d e tag) s = .next t ∧
      (t.sched d).recs = (s.sched d).recs.filter (fun y => y.rid != r.rid)) ∧
    (s.tagged d 4 e tag = none → ∃ t, exec (.lentQueryArrival d e tag) s = .next t ∧ said t (.unknown tag)) ∧
    ((s.sched d).recs.find? (fun r => r.rst == 3 && r.tag == tag) = some r → ∃ t, exec (.lendTimerExpiry d tag) s = .next t ∧
      RecordBecomes s t d r.rid (readied s))

/-- The directory asks a scheduler for a core of its die, which keeps it or refuses; a gang with a core for each member has all of them
offered at once; one whose hold runs out gives its cores up, and is deleted at the sixteenth expiry; a cell's chunks go to its team, its children are counted, and the chunks of a sealed core are dispatched again (R440 to R447).
Of the model's own choice: the order of gangs, and how cores are asked for (log entries 72 and 143). -/
def Obligations.GangsAndForksGoOn : Prop :=
  ∀ (s : State) (g : Gang) (u k p chunk : Nat) (x : Cell) (w : ChildWord) (z : Pkt),
    (s.gangTurn = some g → g.resv.all (s.serves g) = true → s.gangCore g = some p →
      ∃ t r l, exec (.gangReserve g.gang g.asid) s = .next t ∧ g.members = r :: l ∧
        t.gangs = s.gangs.map (fun y => if y.epoch = g.epoch then { g with asked := some p } else y) ∧
        Sent s t (s.schedName (dieOf p)) 3 (.gang p g.epoch (.reserve g.asid r.code))) ∧
    (∀ n asid code, z.dkind = 3 → z.dst = s.schedName (dieOf p) → z.msg = .gang p n (.reserve asid code) →
      let free : Prop := s.freeCore p = true ∧ (s.core p).asid = asid ∧ (s.core p).codeTag = code ∧ (s.core p).taskEntry.isSome = true
      (free → ∃ t, s.deliverPkt z = t ∧ (t.sched (dieOf p)).resv = p :: (s.sched (dieOf p)).resv ∧
        Sent s t s.dirName 3 (.gang p n .reserved)) ∧
      (¬ free → ∃ t, s.deliverPkt z = t ∧ t.scheds = s.scheds ∧ Sent s t s.dirName 3 (.gang p n .denied))) ∧
    (∀ n, z.dkind = 3 → z.dst = s.schedName (dieOf p) → z.msg = .gang p n .release → ∃ t, s.deliverPkt z = t ∧
      (t.sched (dieOf p)).resv = (s.sched (dieOf p)).resv.filter (· != p)) ∧
    (s.gangs = [g] → g.asked = some p → z.dkind = 3 → z.dst = s.dirName →
      (z.msg = .gang p g.epoch .denied → ∃ t, s.deliverPkt z = t ∧ t.gangs = [{ g with asked := none }]) ∧
      (z.msg = .gang p g.epoch .reserved →
        (g.resv.length + 1 < g.members.length → ∃ t, s.deliverPkt z = t ∧
          t.gangs = [{ g with resv := g.resv ++ [p], asked := none }]) ∧
        (g.resv.length + 1 = g.members.length → ∃ t, s.deliverPkt z = t ∧ t.gangs = [] ∧
          ∀ y ∈ g.members.zip (g.resv ++ [p]), ∃ v ∈ t.net, v.pkt.dst = y.2 ∧ ∃ e r, v.pkt.msg = .dispatch y.2 e r ∧ r.rid = y.1.rid))) ∧
    (s.gangs = [g] →
      (g.expiries < 15 → ∃ t, exec (.gangHoldExpiry g.gang g.asid g.epoch) s = .next t ∧
        t.gangs = [{ g with resv := [], asked := none, expiries := g.expiries + 1 }] ∧
        (∀ q ∈ g.resv, ∃ v ∈ t.net, v.pkt.msg = .gang q g.epoch .release) ∧
        t.timers = s.timers ++ [(s.now + g.hold * us, .gangHoldExpiry g.gang g.asid g.epoch)]) ∧
      (15 ≤ g.expiries → ∃ t, exec (.gangHoldExpiry g.gang g.asid g.epoch) s = .next t ∧ t.gangs = [])) ∧
    (s.cellAt u k = x →
      (s.chunkCore u k = some p → x.team ≠ [] → x.redo = [] → x.next < x.total →
        ∃ t y, exec (.forkChunkDispatch u k) s = .next t ∧ t.cellAt u k = { x with next := x.next + 1, busy := x.busy ++ [(p, x.next)] } ∧
          Sent s t p 0 (.child p y) ∧ y.chunk = x.next ∧ y.cont = false ∧ y.gen = x.gen ∧ y.ent = x.ce ∧
          y.wid = (x.wid + x.next * x.chunk) % 2 ^ 64 ∧ y.widths = x.widths ∧ y.args = x.args) ∧
      (x.st = 1 → (p, chunk) ∈ x.busy →
        (x.cnt + 1 < x.total → ∃ t, exec (.childDoneCount u k x.gen chunk p) s = .next t ∧
          t.cellAt u k = { x with busy := x.busy.erase (p, chunk), cnt := x.cnt + 1 }) ∧
        (x.cnt + 1 = x.total → x.kv = false → x.jn = false → ∃ t, exec (.childDoneCount u k x.gen chunk p) s = .next t ∧
          t.cellAt u k = { x with busy := x.busy.erase (p, chunk), cnt := x.cnt + 1, st := 0 }) ∧
        (x.cnt + 1 < x.total → ∃ t, exec (.childFailure u k x.gen chunk p false) s = .next t ∧
          t.cellAt u k = { x with busy := x.busy.erase (p, chunk), cnt := x.cnt + 1, fail := x.fail + 1 }) ∧
        ∃ t, exec (.childFailure u k x.gen chunk p true) s = .next t ∧ t.cellAt u k =
          { x with busy := x.busy.erase (p, chunk), redo := x.redo ++ [chunk], team := x.team.erase p })) ∧
    (s.tornDown w.asid = false → ∃ t, exec (.continuationResend p w) s = .next t ∧ Sent s t p 0 (.child p w)) ∧
    (s.tornDown w.asid = true → exec (.continuationResend p w) s = .next s)

/-- A pair's packet goes once the shadow's hash equals the primary's; a hash that differs, one that does not come and a
freeze of one core alone seal both cores; what a primary has taken is applied to its shadow (R449 to R452). An eviction takes
its core once no activation holds it, and leaves it vacant once its image has been written; after a write that fails the core runs, unless
it has frozen meanwhile (R457). Of the model's own choice: the numbers and hashes of a pair's packets, the image's bytes, and a failed eviction
(log entries 8, 65 and 67). -/
def Obligations.PairsAndEvictions : Prop :=
  (∀ (s : State) (p q : Nat) (x : Pair) (y : PairHash) (z k : Pkt) (h : BitVec 64) (a b act tag v : Nat),
    let c := s.core p
    let d := s.core x.other
    let sealed (e : Instr) : Prop := ∃ t, exec e s = .next t ∧ (t.core p).life = .sealed ∧ (t.core x.other).life = .sealed
    (c.pair = some x → x.mine = [y] → y.engine = a → y.num = b →
      (h = y.hash → y.pkt = some z → ∃ t w, exec (.pairedHashArrival p a b h) s = .next t ∧
        (t.core p).pair = some { x with mine := [] } ∧ t.net = s.net ++ [w] ∧ w.pkt = z) ∧
      (c.life = .running → d.life = .running → p ≠ x.other →
        (h ≠ y.hash → sealed (.pairedHashArrival p a b h)) ∧ sealed (.pairedHashTimeout p a b))) ∧
    (c.pair = some x → c.life = .frozen → d.life = .running → p ≠ x.other → x.frozen ≠ d.pair.bind (·.frozen) →
      sealed (.pairedFreezeTimeout p)) ∧
    ((s.core q).pair = some x → (s.core q).life = .running → k.msg = .schedAns p act tag v →
      ∃ t, exec (.pairedInputCopy q k) s = .next t ∧ t.net = s.net ∧
        t.core q = ({ s.core q with schedOut := (s.core q).schedOut.filter (fun x => !(x.cmd.act == act && x.cmd.tag == tag)) } :
          Core).deliver act tag (BitVec.ofNat 64 v))) ∧
  (∀ (s : State) (p : Nat) (j : EvictJob) (l : Life),
    let c := s.core p
    c.evict = some j →
    (j.prev = none → c.pair = none → c.life = .frozen ∨ (c.life = .running ∧ c.act = none) →
      exec (.evictionStream p) s = .next (s.setCore p { c with life := .evicting, evict := some { j with prev := some c.life } })) ∧
    (j.prev = none → c.life = .running → c.act.isSome = true → exec (.evictionStream p) s = .next s) ∧
    (j.prev = some l → c.pair = none → s.still p = true →
      let w := ({ s with fresh := s.fresh + 1 } : State).globalWrite c.asid j.area (imageBytes c p s.fresh)
      ∃ t, exec (.evictionStream p) s = .next t ∧
        (w.2 = true → (t.core p).life = .vacant ∧ (t.core p).asid = 0 ∧ (t.core p).act = none) ∧
        (w.2 = false → (t.core p).life = (if c.life = .frozen then .frozen else .running) ∧ (t.core p).evict = none)))

namespace Sys2Proof.Machine

/-- A queue pair of a port that carries requests (R471, R475). -/
def Carries (s : State) (port qpn : Nat) : Prop :=
  (s.port port).st = .up ∧ ((s.port port).qp qpn).connected = true ∧ ((s.port port).qp qpn).frozen = false

/-- A window whose index and tag a key names, that grants hosts, and that holds every byte of a request (R336, R337). -/
def Grants (w : Win) (key va n : Nat) : Prop :=
  w.idx = key % 1024 ∧ w.tag = key / 65536 ∧ w.host = true ∧ w.base ≤ va ∧ va + n ≤ w.base + 64 * w.units

/-- The response to a control message: 64 bytes with its operation, its sequence number and a status (Table 14.2). -/
def Answered (s t : State) (f : CtlFrom) (op status : Nat) : Prop :=
  ∃ l b, t.out = s.out ++ l ++ [.response f b] ∧ b.length = 64 ∧ field b 0 1 = op + 128 ∧ field b 2 2 = f.seq % 65536 ∧
    field b 4 1 = status

/-- An attestation response with a code (DSP0274). -/
def Attested (s t : State) (code : Nat) (good : List Byte → Prop) : Prop :=
  ∃ b, t.out = s.out ++ [.spdm b] ∧ field b 1 1 = code ∧ good b

end Sys2Proof.Machine

/-- A WRITE within a window is performed and then acknowledged, its immediate added to the region that it names; a READ
returns the bytes; a request that the window does not grant has a NAK and freezes its queue pair, with a record and a containment notice, and
a frozen queue pair performs nothing (R36, R102, R337, R472 to R475, Table 14.1). A WRITE is written in the atomic units of Table 03.6, a READ read in units of 64
bytes. Of the model's own choice: the numbers of NAK syndromes, and that a request goes on before any other of its port (log entries 82
and 83). -/
def Obligations.HostPortsAnswer : Prop :=
  ∀ (s : State) (o : HostOp) (b : List Byte) (imm : BitVec 32) (n : Nat) (w : Win),
    o.qpn ≠ 16 → o.key < 2 ^ 32 → o.key / 32768 % 2 = 0 →
    (s.ctl (o.key / 4096 % 8)).wins = [w] →
    let todo := o.todo.getD (pieces o.va b.length 8)
    let piece := s.nextPiece todo
    let put := piece.1.hostPut w o b piece.2.1 piece.2.2
    let va := o.va + o.got.length
    let done (t : State) : State := t.emit (.ack o.port o.qpn)
    let refused (e : Instr) : Prop := ∃ t, exec e s = .next t ∧ t.out = s.out ++ [.nak o.port o.qpn 2] ∧
      ((t.port o.port).qp o.qpn).frozen = true ∧
      (s.recFly = [] → ∀ kind ∈ [1, 2], ∃ x ∈ t.net, ∃ (m : SvcMsg) (r : FaultRec), x.pkt.msg = .service m ∧ m.kind = kind ∧
        m.rcd = some r ∧ r.kind = 0x11 ∧ r.engine = 10 ∧ r.notice = decide (kind = 2) ∧ field r.detail 0 1 = 2 ∧ field r.detail 1 1 = o.port % 256 ∧
        field r.detail 2 3 = o.qpn % 2 ^ 24)
    (Carries s o.port o.qpn →
      (Grants w o.key o.va b.length → put.2 = true →
        (todo ≠ [] → piece.2.1 ∈ todo ∧ piece.2.2 = todo.erase piece.2.1) ∧
        (piece.2.2 ≠ [] →
          exec (.rdmaWrite o b) s = .next (put.1.goOn (.rdmaWrite { o with todo := some piece.2.2 } b)) ∧
          exec (.rdmaWriteWithImmediate o b imm) s =
            .next (put.1.goOn (.rdmaWriteWithImmediate { o with todo := some piece.2.2 } b imm))) ∧
        (piece.2.2 = [] →
          exec (.rdmaWrite o b) s = .next (done put.1) ∧
          (imm.toNat < 32768 → exec (.rdmaWriteWithImmediate o b imm) s = .next (done put.1)) ∧
          (32768 ≤ imm.toNat → ∃ c : RegCmd, c.fn = 2 ∧ c.window = false ∧ c.asid = w.owner ∧ c.v2 = imm.toNat / 32768 ∧
            c.v1 = put.1.regionName (imm.toNat / 4096 % 8) (imm.toNat % 4096) ∧
            exec (.rdmaWriteWithImmediate o b imm) s = .next (done (put.1.regionCommand (imm.toNat / 4096 % 8) c).1)))) ∧
      (∀ u x, Grants w o.key o.va n → s.globalRead w.owner va (min (n - o.got.length) (64 - va % 64)) = (u, some x) →
        (n ≤ o.got.length + x.length → exec (.rdmaRead o n) s = .next (u.emit (.readData o.port o.qpn (o.got ++ x)))) ∧
        (o.got.length + x.length < n → exec (.rdmaRead o n) s = .next (u.goOn (.rdmaRead { o with got := o.got ++ x } n)))) ∧
      (¬ Grants w o.key o.va b.length → refused (.rdmaWrite o b) ∧ refused (.rdmaWriteWithImmediate o b imm)) ∧
      (¬ Grants w o.key o.va n → refused (.rdmaRead o n))) ∧
    ((s.port o.port).st = .up → ((s.port o.port).qp o.qpn).connected = true → ((s.port o.port).qp o.qpn).frozen = true →
      ∀ e ∈ [Instr.rdmaWrite o b, .rdmaWriteWithImmediate o b imm, .rdmaRead o n, .controlSend o.port o.qpn b],
        exec e s = .next (s.emit (.nak o.port o.qpn 3)))

/-- A frame with a wrong checksum is dropped and counted, whatever it holds; one that is too long, doubly tagged or not of IP is dropped; an
operation that is not supported has a NAK and freezes its queue
pair; a released port comes up; a queue pair is connected; a marked packet has a notification, and each notification that is
received halves a rate for 50 µs; a SEND on queue pair 16 is acknowledged and its message performed, and one elsewhere is
refused (R470 to R472, R475, R476). Of the model's own choice: the numbers of NAK syndromes (log entry 83). -/
def Obligations.PortsCarryFrames : Prop :=
  ∀ (s : State) (port qpn len mtu op tags : Nat) (ip : Bool) (other : Option (Nat × HostOp)) (b : List Byte) (e : Event) (o : HostOp),
    let x := s.port port
    let q := x.qp qpn
    (x.st = .up → ∃ t, exec (.ethernetFrameReceive port len false ip tags other) s = .next t ∧
      (t.bank 64).cec = min (2 ^ 32 - 1) ((s.bank 64).cec + 1) ∧ { t with banks := s.banks, serials := s.serials } = s) ∧
    (x.st = .up → 9216 < len ∨ 1 < tags ∨ ip = false ∨ other = none → exec (.ethernetFrameReceive port len true ip tags other) s = .next s) ∧
    (x.st ≠ .up → exec (.ethernetFrameReceive port len true ip tags other) s = .next s) ∧
    (Carries s port qpn → qpn ≠ 16 → len ≤ 9216 → tags ≤ 1 → o.qpn = qpn →
      ∃ t, exec (.ethernetFrameReceive port len true true tags (some (op, o))) s = .next t ∧
      t.out = s.out ++ [.nak port qpn 1] ∧ ((t.port port).qp qpn).frozen = true) ∧
    (x.st = .down → port < 2 → 4 ∈ s.released → exec (.portLinkTraining port) s = .next (s.setPort port { x with st := .up })) ∧
    (x.st = .up → qpn < 4096 → mtu = 1024 ∨ mtu = 2048 ∨ mtu = 4096 → ∃ t, exec (.cmConnection port qpn mtu) s = .next t ∧
      (t.port port).qp qpn = { q with connected := true, mtu := mtu } ∧ t.out = s.out ++ [.connected port qpn]) ∧
    (x.st = .up → exec (.ecnMarkedPacket port qpn) s = .next (s.emit (.cnp port qpn))) ∧
    (x.st = .up → q.connected = true → ∃ t, exec (.cnpReceive port qpn) s = .next t ∧
      (t.port port).qp qpn = { q with half := q.half + 1 } ∧ t.timers = s.timers ++ [(s.now + 50 * us, .rateRestore port qpn)]) ∧
    (0 < q.half → ∃ t, exec (.rateRestore port qpn) s = .next t ∧ (t.port port).qp qpn = { q with half := q.half - 1 }) ∧
    (Carries s port 16 → parseControl { master := .qp port 16, seq := field b 2 2 } b = some e →
      exec (.controlSend port 16 b) s = .next ((s.emit (.ack port 16)).post e)) ∧
    (Carries s port 16 → parseControl { master := .qp port 16, seq := field b 2 2 } b = none → exec (.controlSend port 16 b) s =
      .next ((s.emit (.ack port 16)).post (.controlMalformed { master := .qp port 16, seq := field b 2 2 } (field b 0 1)))) ∧
    (Carries s port qpn → qpn ≠ 16 → ∃ t, exec (.controlSend port qpn b) s = .next t ∧ t.out = s.out ++ [.nak port qpn 1] ∧
      ((t.port port).qp qpn).frozen = true)

/-- The tenant operations of the directory (R476 to R482, R498, Tables 14.2 to 14.4): `LAUNCH` hands a record to its scheduler, whose answer it
gives while it begins no other message, or makes a gang; `TOPEN` gives an ASID a key at every controller; `TCLOSE` leaves no core with it;
`TSET` sets every scheduler; `QRES` frees a queue pair; `SUPV` fills the supervisor core's inbox, is tried again while that cannot take it,
and is refused where no core can; `EBANK` reads a bank and clears it on request; `LOCK` bars the queue pairs; a message beyond a limit of
Table 14.3 has status 1. Of the model's own choice: the hold of a gang, messages to a degraded package, the status of an entry that is no
table pointer, and the steps of `TCLOSE` in one step (log entries 77, 78, 79 and 80). -/
def Obligations.TenantsAreControlled : Prop :=
  ∀ (s : State) (f : CtlFrom) (asid va : Nat) (u : State) (b : List Byte) (port qpn mask qage high low die bank half : Nat)
      (entry : BitVec 64) (k : Fin 20) (z : Pkt),
    let said (e : Instr) (op status : Nat) : Prop := ∃ t, exec e s = .next t ∧ Answered s t f op status
    let bankOk : Prop := bank = 64 ∨ bank = 65 ∨ (bank < 64 ∧ bank % 16 ≤ 8)
    (s.locked = false →
      (¬ (asid < 8192 ∧ va % 64 = 0 ∧ va < 2 ^ 64) → said (.launch f asid va) 1 1) ∧
      (8192 ≤ asid → said (.topen f asid entry) 2 1 ∧ said (.tclose f asid) 3 1) ∧
      (¬ (asid < 8192 ∧ mask < 8 ∧ qage < 2 ^ 16 ∧ high < 2 ^ 32 ∧ low < 2 ^ 32) → said (.tset f asid mask qage high low) 4 1) ∧
      (¬ (port < 2 ∧ qpn < 4096) → said (.qres f port qpn) 5 1) ∧ (¬ (die < 4 ∧ b.length ≤ 48) → said (.supv f die b) 6 1)) ∧
    (s.locked = false → s.degraded = false → asid < 8192 → va % 64 = 0 → va < 2 ^ 64 → mask < 8 → qage < 2 ^ 16 → high < 2 ^ 32 →
      low < 2 ^ 32 →
      (asid ∉ s.openAsids → said (.launch f asid va) 1 2 ∧ (asid ≠ 0 → said (.tclose f asid) 3 2) ∧
        said (.tset f asid mask qage high low) 4 2 ∧
        (fitRoot entry.toNat = false → said (.topen f asid entry) 2 1) ∧
        (fitRoot entry.toNat = true →
          ∃ t, exec (.topen f asid entry) s = .next t ∧ Answered s t f 2 0 ∧ t.openAsids = asid :: s.openAsids ∧
            ∀ c, c < 8 → (asid, s.keyNo + 1) ∈ (t.ctl c).keys)) ∧
      (asid ∈ s.openAsids →
        said (.topen f asid entry) 2 2 ∧ said (.tclose f 0) 3 1 ∧
        (s.globalRead asid va 64 = (u, some b) →
          let h := launchOf b
          (launchMalformed h = true → f.master = .munte → ∃ t, exec (.launch f asid va) s = .next t ∧ Answered u t f 1 1) ∧
          (launchMalformed h = false → fitSpawn h = true → h.die ∈ u.released → ∃ t, exec (.launch f asid va) s = .next t ∧
            t.out = u.out ∧ t.control = some (.controlMalformed f 1) ∧
            Sent u t (s.schedName h.die) 3 (.handoff h.die (recOf h asid) (.host f))) ∧
          (∀ v n, launchMalformed h = false → h.gang ≠ 0 → h.chunk = 1 → u.newGang h asid 200 = (v, 0, n) →
            ∃ t r, exec (.launch f asid va) s = .next t ∧ t.out = v.out ++ [.response f r] ∧ field r 0 1 = 129 ∧ field r 4 1 = 0 ∧
              field r 8 3 = n % 2 ^ 24 ∧ t.gangs = v.gangs)) ∧
        (asid ≠ 0 → ∃ t, exec (.tclose f asid) s = .next t ∧ Answered s t f 3 0 ∧ asid ∉ t.openAsids ∧
          ∀ p, (t.core p).asid = asid → (t.core p).life = .vacant) ∧
        (low < high → ∃ t, exec (.tset f asid 7 qage high low) s = .next t ∧ Answered s t f 4 0 ∧
          ∀ d, d < 4 → (t.sched d).settings asid = { qage := qage, high := high, low := low }) ∧
        (high ≤ low → said (.tset f asid 7 qage high low) 4 1)) ∧
      (port < 2 → qpn < 4096 → ((s.port port).qp qpn).frozen = true → ∃ t, exec (.qres f port qpn) s = .next t ∧ Answered s t f 5 0 ∧
        ((t.port port).qp qpn).frozen = false) ∧
      (let p := s.supCore die
       let c := s.core p
       die < 4 → b.length = 48 →
        (c.svcEntry 3 = none ∨ c.life = .frozen ∨ c.life = .sealed → said (.supv f die b) 6 5) ∧
        (c.svcEntry 3 = some k → c.life ≠ .frozen → c.life ≠ .sealed →
          c.life = .evicting ∨ s.resetting.contains (clusOf p) = true ∨ 4 ≤ c.inbox.length ∨ 65535 ≤ c.hdl[k].pend →
          exec (.supv f die b) s = .next (({ s with control := some (.supv f die b) } : State).after us (.supv f die b))) ∧
        (c.life = .running → s.resetting.contains (clusOf p) = false → c.svcEntry 3 = some k → c.inbox.length < 4 → c.hdl[k].pend < 65535 →
          ∃ t, exec (.supv f die b) s = .next t ∧ Answered s t f 6 0 ∧ (t.core p).hdl[k].pend = c.hdl[k].pend + 1 ∧ t.control = none ∧
            ∃ m : SvcMsg, (t.core p).inbox = c.inbox ++ [m] ∧ m.kind = 3 ∧ m.bytes.take 48 = b))) ∧
    (∀ code n, z.dkind = 3 → z.msg = .launched f code n → ∃ r, (s.deliverPkt z).control = none ∧
      (s.deliverPkt z).out = s.out ++ [.response f r] ∧ r.length = 64 ∧ field r 0 1 = 129 ∧ field r 2 2 = f.seq % 65536 ∧
      field r 4 1 = (if code = 0 then 0 else if code = 2 then 4 else if code = 3 then 5 else 6) ∧ (code = 0 → field r 8 3 = n % 2 ^ 24)) ∧
    (bankOk → half < 2 → (∃ t r, exec (.ebank f bank half false) s = .next t ∧ t.out = s.out ++ [.response f r] ∧ r.length = 64 ∧
        field r 0 1 = 136 ∧ field r 4 1 = 0 ∧ field r 8 8 = (s.bank bank).status % 2 ^ 64 ∧ t.banks = s.banks) ∧
      ∃ t, exec (.ebank f bank half true) s = .next t ∧ Answered s t f 8 0 ∧ t.bank bank = {}) ∧
    (∀ clear, ¬ (bankOk ∧ half < 2) → said (.ebank f bank half clear) 8 1) ∧
    (f.master = .munte → ∃ t, exec (.lock f true) s = .next t ∧ t.locked = true ∧ Answered s t f 11 0) ∧
    (s.locked = true → f.master = .qp port qpn → ∀ e ∈ [(Instr.launch f asid va, 1), (.topen f asid entry, 2), (.tclose f asid, 3),
        (.tset f asid mask qage high low, 4), (.qres f port qpn, 5), (.supv f die b, 6), (.lock f false, 11)],
      ∃ t, exec e.1 s = .next t ∧ Answered s t f e.2 3 ∧ { t with out := s.out, control := s.control } = s)

/-- The background operations of the directory and the error banks (R477, R495, R496, R498, R500, R501): a cluster is held and then cleared,
a link and a port retrain and answer when they are up or have failed, a checkpoint writes the stacks and a restore reads
them, if it is one that this device has wrapped and signed; one operation runs at a time; an error is recorded in its bank, which the Munte
port reads and clears, and its unit is in error (R503). Of the model's
own choice: the records of a cluster reset, the form of a checkpoint, the conditions of `CREST`, the numbers of alerts and
of the records in a bank (log entries 26, 86, 90, 91 and 93). A message beyond a limit of Table 14.3 has status 1. -/
def Obligations.ServiceWhileRunning : Prop :=
  ∀ (s : State) (f : CtlFrom) (u n q0 q1 va0 va1 k0 k1 : Nat) (bank : Nat) (e : ErrorEv) (image : List (Nat × Byte)) (ok : Bool),
    let named (q : Nat) : Prop := q < 4096 ∧ q ≠ 16
    let fit : Prop := named q0 ∧ named q1 ∧ va0 < 2 ^ 64 ∧ va1 < 2 ^ 64 ∧ k0 < 2 ^ 32 ∧ k1 < 2 ^ 32
    let said (i : Instr) (op status : Nat) : Prop := ∃ t, exec i s = .next t ∧ Answered s t f op status
    (s.locked = false → s.back = none → (∀ d, d < 5 → d ∈ s.released) →
      (u < 16 → exec (.svcClusterReset f u) s = .next
        ({ s with back := some (.cluster f u), resetting := u :: s.resetting }.after (10000 * us) (.clusterResetTimeout u))) ∧
      (n < 12 → ∃ t, exec (.svcLinkRetrain f n) s = .next t ∧ (t.link n).st = .training ∧ t.back = some (.link f n)) ∧
      (n < 2 → ∃ t, exec (.svcPortRetrain f n) s = .next t ∧ (t.port n).st = .training ∧ t.back = some (.port f n)) ∧
      (fit → Carries s 0 q0 → Carries s 1 q1 →
        (∃ t l, exec (.ckpt f q0 q1 va0 va1 k0 k1) s = .next t ∧ t.out = s.out ++ l ∧ l.length = 9 ∧
          t.back = some (.ckpt f q0 q1 va0 va1 k0 k1)) ∧
        ((∀ a ∈ s.openAsids, a = 0) → (∀ x ∈ s.cores, x.2.asid = 0) →
          exec (.crest f q0 q1 va0 va1 k0 k1) s = .next { s with
            back := some (.crest f q0 q1 va0 va1 k0 k1)
            out := s.out ++ [.read 0 q0 k0 va0 (2 ^ 36), .read 1 q1 k1 va1 (2 ^ 36), .read 0 q0 k0 (va0 + 2 ^ 36) (2 ^ 36),
              .read 1 q1 k1 (va1 + 2 ^ 36) (2 ^ 36), .read 0 q0 k0 (va0 + 2 * 2 ^ 36) (2 ^ 36),
              .read 1 q1 k1 (va1 + 2 * 2 ^ 36) (2 ^ 36), .read 0 q0 k0 (va0 + 3 * 2 ^ 36) (2 ^ 36),
              .read 1 q1 k1 (va1 + 3 * 2 ^ 36) (2 ^ 36), .read 0 q0 k0 (va0 + 4 * 2 ^ 36) (2 ^ 20)] }))) ∧
    (s.locked = false → s.back.isSome = true → (u < 16 → said (.svcClusterReset f u) 7 4) ∧ (n < 12 → said (.svcLinkRetrain f n) 7 4) ∧
      (n < 2 → said (.svcPortRetrain f n) 7 4) ∧
      (fit → said (.ckpt f q0 q1 va0 va1 k0 k1) 9 4 ∧ said (.crest f q0 q1 va0 va1 k0 k1) 10 4)) ∧
    (s.locked = false → (16 ≤ u → said (.svcClusterReset f u) 7 1) ∧ (12 ≤ n → said (.svcLinkRetrain f n) 7 1) ∧
      (2 ≤ n → said (.svcPortRetrain f n) 7 1) ∧
      (¬ fit → said (.ckpt f q0 q1 va0 va1 k0 k1) 9 1 ∧ said (.crest f q0 q1 va0 va1 k0 k1) 10 1)) ∧
    (s.back = some (.cluster f u) → u ∈ s.resetting → (∀ x ∈ s.cores, clusOf x.1 = u → x.2.act = none) →
      ∃ t, exec (.clusterResetTimeout u) s = .next t ∧ Answered s t f 7 0 ∧ t.back = none ∧ u ∉ t.resetting ∧
        ∀ p, s.isCore p = true → clusOf p = u → (t.core p).life = .vacant) ∧
    (s.back = some (.port f n) → (s.port n).st = .training →
      (∃ t, exec (.retrainComplete true n) s = .next t ∧ (t.port n).st = .up ∧ Answered s t f 7 0 ∧ t.back = none) ∧
      ∃ t, exec (.retrainTimeout true n) s = .next t ∧ (t.port n).st = .failed ∧ Answered s t f 7 5 ∧ t.back = none) ∧
    (s.back = some (.link f n) → (s.link n).st = .training →
      (∃ t, exec (.retrainComplete false n) s = .next t ∧ (t.link n).st = .up ∧ Answered s t f 7 0 ∧ t.back = none) ∧
      ∃ t, exec (.retrainTimeout false n) s = .next t ∧ (t.link n).st = .failed ∧ Answered s t f 7 5 ∧ t.back = none) ∧
    (s.back = some (.ckpt f q0 q1 va0 va1 k0 k1) → ∃ t, exec (.ckptComplete ok) s = .next t ∧
      Answered s t f 9 (if ok then 0 else 5) ∧ t.back = none) ∧
    (s.back = some (.crest f q0 q1 va0 va1 k0 k1) →
      let whole := image.foldl (fun (m : Mem) x => m.write x.1 [x.2]) []
      let opens (x : List (List (Nat × Nat)) × List (Nat × Nat)) : Prop :=
        trailerOf x.1 (whole.filter (fun y => y.1 < 2 ^ 39)) x.2 = whole.readN (2 ^ 39) (2 ^ 20)
      ∃ t status, exec (.crestComplete ok image) s = .next t ∧
      Answered s t f 10 status ∧ t.back = none ∧ (status = 0 ∨ (status = 5 ∧ t.hbm = s.hbm ∧ t.openAsids = s.openAsids)) ∧
      (status = 0 ↔ ok = true ∧ ∃ x ∈ s.wrapped, opens x)) ∧
    (∀ l, e.uncorrectable = true → e.bank < 64 → e.bank % 16 < 4 → e.ls = some l → ∃ t, exec (.errorArrival e) s = .next t ∧
      (l.num, field e.rcd.detail 4 8 / 64) ∈ (t.core e.rcd.place).bad) ∧
    (e.uncorrectable = true → (s.bank e.bank).uc = false → ∃ t, exec (.errorArrival e) s = .next t ∧
      t.out = s.out ++ [.alert 1] ∧ t.bank e.bank = { s.bank e.bank with
        rcd := some { e.rcd with serial := (mget s.serials (5 * 2 ^ 20 + e.bank) 0 + 1) % 2 ^ 32 }, uc := true, v := true }) ∧
    (e.uncorrectable = true → (s.bank e.bank).uc = true → ∃ t, exec (.errorArrival e) s = .next t ∧
      t.bank e.bank = { s.bank e.bank with ovf := true, ovfc := min 65535 ((s.bank e.bank).ovfc + 1) }) ∧
    (∃ t r, exec (.pldmReadAndClear bank) s = .next t ∧ t.bank bank = {} ∧ t.out = s.out ++ [.pldm r] ∧
      field r 0 8 = (s.bank bank).status % 2 ^ 64)

/-- A chip link takes frames in order, acknowledging each, and asks for the frame that it misses, once, or for each frame with a bad
checksum; a packet leaves in frames of its flits, each with its checksum, which stay for a resend; the link resends what a replay request
names, and trains after the eighth; the Munte port writes the route table (R483 to R486, Table 14.5). Of the model's own choice: the numbers
in frames (log entry 87). -/
def Obligations.LinksKeepOrder : Prop :=
  ∀ (s : State) (n : Nat) (f : LinkFrame) (k : Pkt) (chip : Nat) (l : Nat) (y : Transit),
    let x := s.link n
    let asked (t : State) : Prop := (t.link n).rseq = x.rseq ∧ (t.link n).lost = true ∧ t.net = s.net ∧
      ∃ g, t.out = s.out ++ [.frame n g] ∧ goodFrame g = true ∧ g.kind = 2 ∧ g.fseq = x.rseq
    (x.st = .up → x.replay = [] → goodFrame f = true → f.kind = 0 →
      (f.fseq = x.rseq → f.pkt = some k → ∃ t y, exec (.linkFrameReceive n f) s = .next t ∧
        (t.link n).rseq = (x.rseq + 1) % 65536 ∧ t.net = s.net ++ [y] ∧ y.node = 4 ∧ y.pkt = { k with id := s.pktNo } ∧
        t.out = s.out ++ [.frame n (sealFrame { kind := 1, vnet := 0, fseq := x.sseq, ack := (x.rseq + 65536) % 65536, crc := 0 })]) ∧
      (f.fseq ≠ x.rseq → x.lost = false → ∃ t, exec (.linkFrameReceive n f) s = .next t ∧ asked t) ∧
      (f.fseq ≠ x.rseq → x.lost = true → ∃ t, exec (.linkFrameReceive n f) s = .next t ∧ t.link n = x ∧ t.net = s.net ∧ t.out = s.out)) ∧
    (x.st = .up → goodFrame f = false → ∃ t, exec (.linkFrameReceive n f) s = .next t ∧ asked t ∧
      (t.bank 64).cec = min (2 ^ 32 - 1) ((s.bank 64).cec + 1)) ∧
    (s.net = [y] → y.node = 4 → y.out = some (10 + n) → x.room y.pkt = true →
      let k : Pkt := { y.pkt with age := min 4095 (s.ageOf y + 1) }
      ∃ t, exec (.routerArbitration 4 (10 + n)) s = .next t ∧ (t.link n).replay = x.replay ++ x.frames k ∧
        t.out = s.out ++ (x.frames k).map (fun g => .frame n g)) ∧
    (∀ i, i < k.len → ∃ g, (x.frames k)[i]? = some g ∧ goodFrame g = true ∧ g.kind = 0 ∧ g.vnet = k.vnet ∧
      g.fseq = (x.sseq + i) % 65536 ∧ g.ack = (x.rseq + 65535) % 65536 ∧ g.flit.length = 64 ∧
      ∀ j, j < 64 → g.flit.getD j 0 = (pktBytes k).getD (64 * i + j) 0) ∧
    (x.st = .up → x.replay = [f] → x.replays < 7 → ∃ t, exec (.replayRequestReceive n f.fseq) s = .next t ∧
      t.link n = { x with replays := x.replays + 1 } ∧
      t.out = s.out ++ [.frame n (sealFrame { f with ack := (x.rseq + 65535) % 65536 })]) ∧
    (x.st = .up → x.replays = 7 → ∃ t, exec (.replayRequestReceive n f.fseq) s = .next t ∧ (t.link n).st = .training) ∧
    (chip < 256 →
      (l < 12 → ∃ t, exec (.routeTableWrite chip (some l)) s = .next t ∧ t.routes.find? (fun y => y.1 == chip) = some (chip, l) ∧
        ∀ c, c ≠ chip → t.routes.find? (fun y => y.1 == c) = s.routes.find? (fun y => y.1 == c)) ∧
      ∃ t, exec (.routeTableWrite chip none) s = .next t ∧ t.routes.find? (fun y => y.1 == chip) = none)

/-- The SPDM responder's answers (R489): the version, the capabilities, the algorithms, the digest and bytes of the
certificate chain in slot 0, a signed challenge, the measurement blocks, and an error for anything else; a sensor's reading (R491), which for
a link and a port is its state. Of the model's own choice: the free signatures and readings, the layout of the answers, and the numbers of
sensors (log entries 17, 84 and 139). -/
def Obligations.AttestationAnswers : Prop :=
  ∀ (s : State) (slot off len index code sensor : Nat) (nonce : List Byte) (sig : Bool) (d : BitVec 256),
    let any (_ : List Byte) : Prop := True
    (∃ t, exec .getVersion s = .next t ∧ Attested s t 0x04 any) ∧
    (∃ t, exec .getCapabilities s = .next t ∧ Attested s t 0x61 any) ∧
    (∃ t, exec .negotiateAlgorithms s = .next t ∧ Attested s t 0x63 (fun b => b.drop 4 = leBytes 4 8 ++ leBytes 4 Config.algorithm)) ∧
    (∃ t, exec .getDigests s = .next t ∧ Attested s t 0x01 (fun b => field b 4 32 = (sha3 s.flash.certs).toNat)) ∧
    (off ≤ s.flash.certs.length → ∃ t, exec (.getCertificate 0 off len) s = .next t ∧
      Attested s t 0x02 (fun b => b.drop 8 = (s.flash.certs.drop off).take len)) ∧
    (slot ≠ 0 → (∃ t, exec (.getCertificate slot off len) s = .next t ∧ Attested s t 0x7F any) ∧
      ∃ t, exec (.challenge slot nonce) s = .next t ∧ Attested s t 0x7F any) ∧
    (∃ t, exec (.challenge 0 nonce) s = .next t ∧ Attested s t 0x03 (fun b =>
      field b 4 32 = (sha3 s.flash.certs).toNat ∧ b.drop 68 = Config.sign (nonce ++ (b.drop 4).take 64))) ∧
    (s.meas.filter (fun x => x.1 == index) = [(index, d)] → 0 < index → index < 255 →
      ∃ t, exec (.getMeasurements index sig nonce) s = .next t ∧ Attested s t 0x60 (fun b =>
        field b 4 1 = index ∧ field b 5 32 = d.toNat)) ∧
    (s.meas.filter (fun x => x.1 == index) = [] → 0 < index → index < 255 →
      ∃ t, exec (.getMeasurements index sig nonce) s = .next t ∧ Attested s t 0x7F any) ∧
    (∃ t, exec (.spdmError code) s = .next t ∧ Attested s t 0x7F (fun b => field b 2 1 = code % 256)) ∧
    (let state (x : LinkSt) : OutMsg := .pldm (leBytes 4 (if x = .up then 1 else 2))
     (sensor < 12 → exec (.pldmSensorRead (64 + sensor)) s = .next (s.emit (state (s.link sensor).st))) ∧
     (sensor < 2 → exec (.pldmSensorRead (76 + sensor)) s = .next (s.emit (state (s.port sensor).st))) ∧
     (sensor < 64 ∨ 78 ≤ sensor → ∃ t, exec (.pldmSensorRead sensor) s = .next t ∧
       t.out = s.out ++ [.pldm (leBytes 4 (Config.sensor sensor s.fresh).toNat)]))

/-- Power-on measures every die and releases those that match the signed manifest; a Munte reset starts it again with the
flash memory alone; the power cap, restraint and the thermal limits (R488, R490 to R494, R499, Table 14.10). Of the model's
own choice: the flash memory's layout, what a reset keeps, and the numbers of alerts (log entries 4, 93, 94 and 97). -/
def Obligations.PowerAndBoot : Prop :=
  ∀ (s : State) (watts die temp : Nat),
    let digest (i : Nat) : BitVec 256 := sha3 (s.flash.measured i)
    let known (i : Nat) : Prop := s.flash.manifest.find? (fun x => x.1 == i) = some (i, digest i)
    (s.tripped = false → s.released = [] →
      (s.flash.signed = true → (∀ i, i ∈ [2, 3, 4, 5, 6] → known i) → ∃ t, exec .powerOn s = .next t ∧
        (∀ d, d < 5 → d ∈ t.released) ∧ t.openAsids = [0] ∧ t.chip = s.flash.chip % 256 ∧ t.routes = s.flash.routes ∧
        (∀ d, d < 4 → (t.sched d).down = false) ∧
        (∀ d, d < 4 → (t.core (t.supCore d)).life = .running ∧ (t.core (t.supCore d)).asid = 0) ∧
        (∀ c, c < 16 → (t.core (t.svcCore c)).life = .running) ∧
        ∀ i, i ∈ [1, 2, 3, 4, 5, 6, 7, 8] → t.meas.find? (fun x => x.1 == i) = some (i, digest i)) ∧
      (s.flash.signed = false ∨ s.flash.manifest = [] → ∃ t l, exec .powerOn s = .next t ∧ t.released = [] ∧ t.out = s.out ++ l ∧ OutMsg.alert 3 ∈ l)) ∧
    exec .munteReset s = .next { State.reset with
      flash := s.flash, keyNo := s.keyNo, wrapped := s.wrapped, now := s.now, out := s.out, who := s.who, tape := s.tape, fresh := s.fresh
      pktNo := s.pktNo, agenda := [.powerOn] } ∧
    (600 ≤ watts → watts ≤ 2400 → exec (.powerCapSet watts) s = .next { s with cap := watts }) ∧
    (watts < 600 ∨ 2400 < watts → exec (.powerCapSet watts) s = .next s) ∧
    (s.cap < watts → exec (.powerCapRestraint watts) s = .next { s with restraint := true }) ∧
    (watts < s.cap → exec (.powerCapRestraint watts) s = .next { s with restraint := false }) ∧
    (100 ≤ temp → (∀ x ∈ s.thermal, x.1 ≠ die) → exec (.thermalRestraint die temp) s = .next
      ({ s with thermal := (die, temp) :: s.thermal }.emit (.alert 4))) ∧
    (temp < 95 → s.thermal = [(die, watts)] → exec (.thermalRestraint die temp) s = .next ({ s with thermal := [] }.emit (.alert 4))) ∧
    (110 ≤ temp → ∃ t, exec (.thermalTrip temp) s = .next t ∧ t.tripped = true ∧ t.released = [] ∧ t.hbm = [] ∧ t.cores = [] ∧
      t.flash = s.flash ∧ t.out = s.out ++ [.alert 4])

namespace Sys2Proof.Machine

/-- A value of `n` bytes stands at an address, and every other byte is as it was. -/
def Stored (old new : Mem) (a n v : Nat) : Prop :=
  ∀ i, new.read i = if a ≤ i ∧ i < a + n then BitVec.ofNat 8 (v / 256 ^ (i - a)) else old.read i

/-- The tiles, the slice and the lane function of an element-wise integer form (Table 10.2, R353): of `ta`, `tb` and the old
`td`; under `hint.sat` sums, differences and products are clamped to the range of an `INT32`. -/
def intForm (sat : Bool) (i : Instr) : Option (Fin 8 × Fin 8 × Fin 8 × Slice × (Lane → Lane → Lane → Lane)) :=
  let clamp (v : Int) : Lane := BitVec.ofInt 32 (if sat then (if v < -2 ^ 31 then -2 ^ 31 else if 2 ^ 31 ≤ v then 2 ^ 31 - 1 else v) else v)
  let mask (b : Bool) : Lane := if b then BitVec.allOnes 32 else 0
  match i with
  | .vaddI d a b sl => some (d, a, b, sl, fun x y _ => clamp (x.toInt + y.toInt))
  | .vsubI d a b sl => some (d, a, b, sl, fun x y _ => clamp (x.toInt - y.toInt))
  | .vmli d a b sl => some (d, a, b, sl, fun x y _ => clamp (x.toInt * y.toInt))
  | .vmaxI d a b sl => some (d, a, b, sl, fun x y _ => if x.slt y then y else x)
  | .vminI d a b sl => some (d, a, b, sl, fun x y _ => if y.slt x then y else x)
  | .vnegI d a sl => some (d, a, a, sl, fun x _ _ => clamp (-x.toInt))
  | .vabsI d a sl => some (d, a, a, sl, fun x _ _ => clamp (if x.toInt < 0 then -x.toInt else x.toInt))
  | .vand d a b sl => some (d, a, b, sl, fun x y _ => x &&& y)
  | .vor d a b sl => some (d, a, b, sl, fun x y _ => x ||| y)
  | .vxor d a b sl => some (d, a, b, sl, fun x y _ => x ^^^ y)
  | .vshl d a b sl => some (d, a, b, sl, fun x y _ => x <<< (y.toNat % 32))
  | .vshr d a b sl => some (d, a, b, sl, fun x y _ => x >>> (y.toNat % 32))
  | .vsra d a b sl => some (d, a, b, sl, fun x y _ => x.sshiftRight (y.toNat % 32))
  | .vcmpEqI d a b sl => some (d, a, b, sl, fun x y _ => mask (decide (x = y)))
  | .vcmpNeI d a b sl => some (d, a, b, sl, fun x y _ => mask (decide (x ≠ y)))
  | .vcmpLtI d a b sl => some (d, a, b, sl, fun x y _ => mask (x.slt y))
  | .vcmpLeI d a b sl => some (d, a, b, sl, fun x y _ => mask (x.sle y))
  | .vcmpLtu d a b sl => some (d, a, b, sl, fun x y _ => mask (x.ult y))
  | .vmov d a sl => some (d, a, a, sl, fun x _ _ => x)
  | .vsel d a b sl => some (d, a, b, sl, fun x y z => (z &&& x) ||| (~~~z &&& y))
  | _ => none

/-- Whether an element of a tile lies in a slice with an index, and which of its positions it is (R347). -/
def inSlice (sh : Shape) (ix k : Nat) : Bool :=
  match sh with
  | .whole => true
  | .row => k / 32 == ix
  | .col => k % 32 == ix

def positionOf (sh : Shape) (k : Nat) : Nat :=
  match sh with
  | .whole => k
  | .row => k % 32
  | .col => k / 32

/-- Nothing hinders the engines of a core: it runs, no record of it is on its way, no storage is in error and no unit of a
demand-fill window is absent. -/
def Core.unhindered (c : Core) : Prop :=
  c.recs = [] ∧ c.bad = [] ∧ c.tileBad = [] ∧ c.life = .running ∧ ∀ a n, c.absent a n = []

end Sys2Proof.Machine

/-- An access to the core's own scratchpad, when it is performed: a load delivers its bytes, extended by its sign or by zeros; a
store writes its bytes and no others; an atomic delivers the old value and writes the new one, `cas` only where the old value is
the expected one (R200, R213, R216, Table 06.3). An unaligned access is performed byte by byte, in any order: a byte of a store is
written and no other, a byte of a load is kept until all have come (R102, R214). Every 4-byte word of the scratchpad has a bank and a row of
its own (R12). -/
def Obligations.ScratchpadAccesses : Prop :=
  (∀ (s : State) (p : Nat) (x : LsEntry) (f : AmoFn),
    let c := s.core p
    let old := BitVec.ofNat (8 * x.n) (c.sp.load x.addr x.n)
    let data := BitVec.ofNat (8 * x.n) x.data
    s.turn = some (.lsu p x.cmd.seq) → c.unhindered → c.lsq = [x] → c.nq = [] → c.kq = [] → c.cq = [] → c.schedOut = [] → x.page = none →
    x.glob = false → x.parts = [{ va := x.addr, n := x.n }] → (x.op = .load ∨ x.op = .store ∨ x.op = .amo f ∨ x.op = .cas) → x.n ∈ [1, 2, 4, 8] → x.data < 256 ^ x.n → x.exp < 256 ^ x.n →
    ∃ t, step s = .next t ∧ OnlyCore p { s with turn := none } t ∧
      let d := t.core p
      d.ab = c.ab ∧ d.cb = c.cb ∧ d.code = c.code ∧ d.lsq = [] ∧ d.tiles = c.tiles ∧ d.hdl = c.hdl ∧
      (x.op = .load → d = ({ c with lsq := [] } : Core).deliver x.cmd.act x.cmd.tag
        (if x.sgn then old.signExtend 64 else old.setWidth 64)) ∧
      (x.op = .store → Stored c.sp d.sp x.addr x.n x.data) ∧
      (x.op = .amo f ∨ x.op = .cas → x.sgn = true →
        d = ({ c with lsq := [], sp := d.sp } : Core).deliver x.cmd.act x.cmd.tag (old.signExtend 64)) ∧
      (x.op = .amo f → Stored c.sp d.sp x.addr x.n (amoValue old data f).toNat) ∧
      (x.op = .cas → (old.toNat = x.exp → Stored c.sp d.sp x.addr x.n x.data) ∧ (old.toNat ≠ x.exp → d.sp = c.sp))) ∧
  (∀ (s : State) (p : Nat) (x : LsEntry),
    let c := s.core p
    s.turn = some (.lsu p x.cmd.seq) → c.unhindered → c.lsq = [x] → c.nq = [] → c.kq = [] → c.cq = [] → c.schedOut = [] → x.page = none →
    x.glob = false → 1 < x.parts.length → (∀ q ∈ x.parts, q.n = 1) → (∃ q ∈ x.parts, q.st = .idle) → (x.op = .load ∨ x.op = .store) →
    ∃ t k q, step s = .next t ∧ x.parts[k]? = some q ∧ q.st = .idle ∧ (∀ r, r ≠ p → t.core r = s.core r) ∧
      let y : LsEntry := { x with parts := x.parts.set k { q with st := .done, val := c.sp.load q.va 1 } }
      let d := t.core p
      d.ab = c.ab ∧ d.cb = c.cb ∧ d.code = c.code ∧ d.hdl = c.hdl ∧
      (x.op = .load → d.sp = c.sp) ∧ (x.op = .store → Stored c.sp d.sp q.va 1 (x.data / 256 ^ k)) ∧
      ((∃ z ∈ y.parts, z.st ≠ .done) → d.lsq = [y] ∧ d.act = c.act) ∧
      ((∀ z ∈ y.parts, z.st = .done) → d = ({ c with lsq := [], sp := d.sp } : Core).deliver x.cmd.act x.cmd.tag y.value)) ∧
  ∀ w, w < lsSize .sp / 4 → spBank (4 * w) = w % 384 ∧ spRow (4 * w) = w / 384 ∧ spRow (4 * w) < 64 ∧
    ∀ a b, b < 0x18000 → spBank a = spBank b → spRow a = spRow b → a / 4 = b / 4

namespace Sys2Proof.Machine

/-! ## Commands of the channel, copy and capsule queues -/

/-- A record that does not freeze has been raised at a core that has none on its way: it goes to the service core of its cluster (R33). -/
def Noted (s t : State) (p : Nat) (good : FaultRec → Prop) : Prop :=
  ∃ r : FaultRec, good r ∧ r.frozen = false ∧ r.place = p ∧ r.skind = 0 ∧ ∃ x ∈ t.net, x.pkt.dst = s.svcCore (clusOf p) ∧ x.pkt.cls = 12 ∧
    x.pkt.msg = .service { kind := 1, src := p, dst := s.svcCore (clusOf p), rcd := some r, bytes := recBytes r }

/-- The number of a life (Table 07.1). -/
def lifeNumber : EpLife → Nat
  | .idle => 0
  | .listening => 1
  | .connecting => 2
  | .connected => 3
  | .closed => 4
  | .moving => 5
  | .shared => 6
  | .violated => 7
  | .adopting => 8

/-- The state word of an endpoint (Table 07.2). -/
def stateWord (e : Ep) : Nat :=
  let flag (b : Bool) (n : Nat) : Nat := if b then 2 ^ n else 0
  lifeNumber e.life * 2 ^ 60 + flag e.aut.isSome 59 + flag (e.aut.any (·.shared)) 58 +
    (if e.life ∈ [EpLife.closed, .violated] then e.code * 2 ^ 53 else 0) + e.cur * 2 ^ 49 + e.lref * 2 ^ 45 + e.buf.length % 128 * 2 ^ 38 +
    e.pep * 2 ^ 34 + e.pkind * 2 ^ 32 + e.laout * 2 ^ 24 + e.lain * 2 ^ 20 + e.peer % 2 ^ 20

/-- Some bytes stand at an address, and every other byte is as it was. -/
def Placed (old new : Mem) (a : Nat) (b : List Byte) : Prop :=
  ∀ i, new.read i = if a ≤ i ∧ i < a + b.length then b.getD (i - a) 0 else old.read i

/-- An endpoint without reservation, message or notice. -/
def Ep.emptied (e : Ep) : Ep := { e with life := .idle, resv := none, buf := [], notice := none, mslots := 0 }

end Sys2Proof.Machine

/-- A command of the channel queue, when it is performed. Of a connected endpoint, `send`, `select`, `deleg` and `close` put their message
on the way, with the endpoint's next number, and `close` closes the endpoint; on one that is closed they have no effect (R255, R257 to R259,
R265). `recv` and `offer` take the oldest message and write its word, `recv` also its bytes and no others, or wait, or return the closed status; from
a mailbox `recv` takes the oldest post of its type (R250, R255 to R257). `adopt` installs the endpoint of the message and tells its stub, or
closes with 19 (R267). `ep.bind`, `ep.acc`, `ep.conn`, `ep.st`, `ep.shr` and `at.load` set up their endpoint or write the code of the check
that fails (R236, R237, R242, R243, R261 to R264, R268), and `post` sends its bytes or writes 3 or 8 (R269). Of the model's own choice: the numbers of
messages (log entry 22), a name of kind 0 with a selector (log entry 130), and that `ep.shr` writes no `lref` (log entry 132). -/
def Obligations.ChannelCommands : Prop :=
  ∀ (s : State) (p : Nat) (x : Cmd) (k j : Fin 16) (o : Automaton) (m : BufMsg) (l : List BufMsg) (b n : Nat),
    let c := s.core p
    let e := c.eps[k]
    let u : State := { s with turn := none }
    let a := (v1 x.vals).toNat
    let popped : Core := { c with nq := [] }
    let ends (d : Core) (v : Nat) : Prop := ∃ t, step s = .next t ∧ OnlyCore p u t ∧ t.core p = d.deliver x.act x.tag (BitVec.ofNat 64 v)
    let done (y : Ep) (v : Nat) : Prop := ends { popped with eps := c.eps.set k y } v
    let next : Ep := { e with sseq := (e.sseq + 1) % 65536 }
    let sends (y : Vector Ep 16) (good : ChanMsg → Prop) : Prop := ∃ t r, step s = .next t ∧ Sent u t e.peer e.pkind (.chan r) ∧
      t.core p = { c with nSent := true, eps := y } ∧ r.src = p ∧ r.sep = k.val ∧ r.dep = e.pep ∧ r.seq = e.sseq ∧ r.cmd = x.seq ∧ good r
    let speaks : Prop := (∃ q r t, x.op = .send k q r t) ∨ (∃ i, x.op = .select k i) ∨ (∃ i, x.op = .deleg k i) ∨ ∃ q, x.op = .close k q
    let hears : Prop := (∃ d r t, x.op = .recv k d r t) ∨ ∃ d, x.op = .offer k d
    let fits : Prop := e.range = some (b, n) ∧ b + needOf o ≤ n ∧ c.clear k b (needOf o) = true
    let unready : Prop := e.life ∉ [EpLife.idle, .closed] ∨ o.shared = true ∨ e.range = none
    s.turn = some (.drain p 2) → c.unhindered → c.lsq = [] → c.pair = none → c.nq = [x] → c.nSent = false → x.lost = false →
    (e.life = .connected →
      (∀ q r t, x.op = .send k q r t → sends (c.eps.set k next) (fun z => z.sub = .data ∧ z.ty = t.toNat ∧
        z.payload = c.sp.readN a (v2 x.vals).toNat)) ∧
      (∀ i, x.op = .select k i → sends (c.eps.set k next) (fun z => z.sub = .label ∧ z.ty = i.toNat)) ∧
      (∀ q, x.op = .close k q → sends
        (c.eps.set k { next with
          life := .closed, code := q.toNat, notice := some { code := q.toNat, conf := x.conf, err := false }, cur := x.to_.getD e.cur })
        (fun z => z.sub = .close ∧ z.code = q.toNat ∧ z.conf = x.conf)) ∧
      (x.op = .deleg k j → j ≠ k → c.eps[j].life = .connected → c.eps[j].aut = some o → c.eps[j].buf.length < 2 ^ 16 → sends
        ((c.eps.set j { c.eps[j] with life := .moving, fwd := none }).set k next)
        (fun z => z.sub = .endp ∧ ∃ d, z.endp = some d ∧ d.aut = o ∧ d.cur = c.eps[j].cur ∧ d.peer = c.eps[j].peer ∧ d.pep = c.eps[j].pep ∧
          d.pkind = c.eps[j].pkind ∧ d.stub = p ∧ d.stubEp = j.val ∧ d.sseq = c.eps[j].sseq ∧
          (d.rseq + c.eps[j].buf.length) % 65536 = c.eps[j].rseq % 65536))) ∧
    (e.life = .closed → speaks → done e 0) ∧
    (∀ q, x.op = .close k q → e.life = .listening ∨ e.life = .shared → done e.emptied 0) ∧
    (∀ d r t, x.op = .recv k d r t → m.sub = .data → a + m.payload.length ≤ 0x18000 →
      (e.life = .connected → e.buf = m :: l → x.to_.isSome = true → ∃ w, Placed c.sp w a m.payload ∧
        ends { popped with sp := w, eps := c.eps.set k { e with buf := l, cur := x.to_.getD e.cur } } (m.ty * 2 ^ 16 + m.payload.length)) ∧
      (e.life = .shared → e.buf.find? (fun z => z.ty == t.toNat) = some m → m.ty = t.toNat → ∃ w, Placed c.sp w a m.payload ∧
        ends { popped with sp := w, eps := c.eps.set k { e with buf := e.buf.filter (fun z => z.slot != m.slot) } }
          (t.toNat * 2 ^ 16 + m.payload.length))) ∧
    (∀ d w, x.op = .offer k d → e.life = .connected → e.buf = m :: l → m.sub = .label → e.aut = some o → e.ist = none →
      (edgesAt o e.cur).find? (fun y => edgeRecv y && edgeKind y == 1 && edgeLabel y == m.ty) = some w →
      done { e with buf := l, cur := edgeTo w, ist := some (edgeTo w) } m.ty) ∧
    (∀ z, hears → e.life = .closed → e.buf = [] → e.notice = some z → e.ist.isSome = true →
      done e ((if z.err then 2 else 1) * 2 ^ 62 + (if z.conf then 2 ^ 40 else 0) + z.code * 2 ^ 32)) ∧
    (hears → e.life = .connected → e.buf = [] → (∀ i : Fin 16, c.eps[i].life ≠ .moving) → step s = .next u) ∧
    (∀ d f, x.op = .adopt k j → j ≠ k → x.conf = true → x.to_.isSome = true → e.life = .connected → e.buf = m :: l → m.endp = some d →
      c.eps[j].range = some (b, f) →
      let size := needOf d.aut
      (b + size ≤ f → c.clear j b size = true → ∃ t r, step s = .next t ∧ (t.core p).nq = [] ∧ Sent u t d.stub 0 (.chan r) ∧
        r.sub = .adopterName ∧ r.src = p ∧ r.sep = j.val ∧ r.dep = d.stubEp ∧ (t.core p).eps[k] = { e with buf := l, cur := x.to_.getD e.cur } ∧
        let y := (t.core p).eps[j]
        y.life = .connected ∧ y.aut = some d.aut ∧ y.cur = d.cur ∧ y.peer = d.peer ∧ y.pep = d.pep ∧ y.pkind = d.pkind ∧ y.buf = [] ∧
          y.resv = some (b, size) ∧ y.sseq = d.sseq ∧ y.rseq = d.rseq ∧ y.stub = some (d.stub, d.stubEp)) ∧
      (f < b + size → ∃ t r, step s = .next t ∧ (t.core p).nq = [] ∧ Sent u t d.peer d.pkind (.chan r) ∧ r.sub = .close ∧ r.code = 19 ∧
        r.dep = d.pep ∧ (t.core p).eps[j].life = .closed ∧ (t.core p).eps[j].code = 19)) ∧
    (∀ r, x.op = .epBind k r → e.life ∈ [EpLife.idle, .closed] →
      done { e.emptied with range := if a = 0 then none else some (a % 2 ^ 17, a / 2 ^ 32 % 2 ^ 17) } 0) ∧
    (∀ d r, x.op = .epAcc k d r → e.aut = some o →
      (unready → done { e with lref := 10, exp := none } 10) ∧
      (e.life ∈ [EpLife.idle, .closed] → o.shared = false → e.range = some (b, n) → n < b + needOf o → done { e with lref := 5, exp := none } 5) ∧
      (e.life ∈ [EpLife.idle, .closed] → o.shared = false → fits → done
        { e with life := .listening, prev := e.life, lref := 0, key := v1 x.vals, resv := some (b, needOf o), exp := none } 0)) ∧
    (∀ d r q, x.op = .epConn k d r q → e.aut = some o →
      let kind := a / 2 ^ 24 % 4
      let sel := a / 2 ^ 26 % 4
      let name := a % 2 ^ 20
      let good : Prop := a < 2 ^ 28 ∧ ((kind = 0 ∧ sel = 0 ∧ coreOf name < 192) ∨ (kind = 1 ∧ sel < 3 ∧ a / 2 ^ 11 % 2 ^ 13 = 0))
      (unready → done { e with lref := 10, exp := none } 10) ∧
      (e.life ∈ [EpLife.idle, .closed] → o.shared = false → fits → ¬ good → done { e with lref := 1, exp := none } 1) ∧
      (e.life ∈ [EpLife.idle, .closed] → o.shared = false → fits → good → ∃ t z, step s = .next t ∧ Sent u t name kind (.chan z) ∧
        z.sub = .request ∧ z.src = p ∧ z.sep = k.val ∧ z.dep = a / 2 ^ 20 % 16 ∧ z.bia = sel ∧ z.key = (v2 x.vals).toNat ∧ z.aut = some o ∧
        z.cmd = x.seq ∧ t.core p = { c with nSent := true, eps := (c.eps.set k
          { e with life := .connecting, prev := e.life, peer := name, pep := a / 2 ^ 20 % 16, pkind := kind, key := v2 x.vals,
                   resv := some (b, needOf o), exp := none }) })) ∧
    (∀ d, x.op = .epSt k d → done e (stateWord e)) ∧
    (∀ d r, x.op = .atLoad k d r →
      let ned := (c.sp.read (a + 1)).toNat
      (a % 4 ≠ 0 ∨ 0x18000 < a + 4 + 4 * ned → done e 7) ∧
      (a % 4 = 0 → a + 4 + 4 * ned ≤ 0x18000 → e.life ∉ [EpLife.idle, .closed] → done e 6) ∧
      (∀ v, validate c.sp a e.life = .error v → done e v) ∧
      (validate c.sp a e.life = .ok o → done { e.emptied with
        aut := some o, laout := if o.shared then 0 else lookAhead o.edges false, lain := if o.shared then 0 else lookAhead o.edges true } 0)) ∧
    (∀ d r, x.op = .epShr k d r → e.aut = some o →
      let at_ := a % 2 ^ 17
      let slots := a / 2 ^ 32 % 128
      let size := slots * slotSize o
      let good : Prop := a < 2 ^ 39 ∧ a / 2 ^ 17 % 2 ^ 15 = 0 ∧ at_ % 16 = 0 ∧ 1 ≤ slots ∧ slots ≤ 64
      (e.life ∉ [EpLife.idle, .closed] ∨ o.shared = false → done e 10) ∧
      (e.life ∈ [EpLife.idle, .closed] → o.shared = true → ¬ good → done e 11) ∧
      (e.life ∈ [EpLife.idle, .closed] → o.shared = true → good → 0x18000 < at_ + size → done e 5) ∧
      (e.life ∈ [EpLife.idle, .closed] → o.shared = true → good → at_ + size ≤ 0x18000 → c.clear k at_ size = true → done
        { e with life := .shared, resv := some (at_, size), mslots := slots, msize := slotSize o, msealed := false, buf := [], notice := none } 0)) ∧
    (∀ d r q, x.op = .post d r q →
      let len := a / 2 ^ 32 % 128
      let good : Prop := a < 2 ^ 39 ∧ a / 2 ^ 30 % 4 = 0 ∧ len ≤ 64
      (¬ good → ends popped 3) ∧ (good → 192 ≤ coreOf (a % 2 ^ 20) → ends popped 8) ∧
      (good → coreOf (a % 2 ^ 20) < 192 → ∃ t z, step s = .next t ∧ Sent u t (a % 2 ^ 20) 0 (.post z) ∧ t.core p = { c with nSent := true } ∧
        z.src = p ∧ z.dep = a / 2 ^ 20 % 16 ∧ z.asid = c.asid ∧ z.ty = a / 2 ^ 24 % 64 ∧ z.payload = c.sp.readN (v2 x.vals).toNat len ∧
        z.seq = x.seq))

/-- A command of the copy queue that is no transfer, when it is performed. `cp.seal` seals the open batch and opens the next, or waits behind
63 sealed ones; `cp.wait` ends once so few sealed batches are unfinished; `cp.st` gives the status word of a batch (R299 to R303). `fw.set`
makes a window with every unit absent and `fw.clr` clears it (R305, R309). `sw.init` writes a synchronisation word, `sw.wait` ends once its
generation has come, and `sw.rd` reads it (R310, R312, R313). One that is malformed changes nothing, and its record and its batch say so
(R286). -/
def Obligations.CopyCommands : Prop :=
  ∀ (s : State) (p : Nat) (x : Cmd) (k : Fin 4),
    let c := s.core p
    let u : State := { s with turn := none }
    let a := (v1 x.vals).toNat
    let b := (v2 x.vals).toNat
    let w := (v3 x.vals).toNat
    let popped : Core := { c with cq := [] }
    let ends (d : Core) (v : Nat) : Prop := ∃ t, step s = .next t ∧ OnlyCore p u t ∧ t.core p = d.deliver x.act x.tag (BitVec.ofNat 64 v)
    let waits : Prop := step s = .next u
    let fails (cause : Nat) : Prop := ∃ t, step s = .next t ∧
      Noted u t p (fun r => r.kind = 11 ∧ r.engine = 3 ∧ field r.detail 0 1 = cause ∧ field r.detail 1 1 = 3 ∧ r.cseq = x.seq) ∧
      let d := t.core p
      d.cq = [] ∧ d.life = .running ∧ d.fills = c.fills ∧ d.sp = c.sp ∧ d.xfers = c.xfers ∧
        ∃ z ∈ d.batches, z.num = c.batch ∧ z.err.isSome = true
    s.turn = some (.drain p 3) → c.unhindered → c.cq = [x] → c.batch < 2 ^ 32 →
    (∀ r, x.op = .cpSeal r →
      (63 ≤ c.inFlight → c.unfinished c.batch = true → waits) ∧
      (c.inFlight < 63 ∨ c.unfinished c.batch = false → ∃ z : List Batch,
        ends { popped with batch := if c.batch = 2 ^ 32 - 1 then 1 else c.batch + 1, batches := z } c.batch ∧
        (c.batches.length < 64 →
          (∀ y, y.num ≠ c.batch → (y ∈ z ↔ y ∈ c.batches)) ∧ (∀ y ∈ c.batches, y.num = c.batch → { y with sealed := true } ∈ z) ∧
          ((∀ y ∈ c.batches, y.num ≠ c.batch) → { num := c.batch, sealed := true } ∈ z)))) ∧
    (∀ r, x.op = .cpWait r → (64 ≤ a ∨ c.inFlight ≤ a → ends popped 0) ∧ (a < 64 → a < c.inFlight → waits)) ∧
    (∀ r q, x.op = .cpSt r q →
      let n := a % 2 ^ 32
      let d := (c.batch + 2 ^ 32 - n) % 2 ^ 32
      (n = 0 ∨ 2 ^ 31 ≤ d → ends popped (5 * 2 ^ 61)) ∧
      (n ≠ 0 → d = 0 → ends popped 0) ∧
      (n ≠ 0 → 64 < d → d < 2 ^ 31 → ends popped (4 * 2 ^ 61)) ∧
      ∀ y, n ≠ 0 → 1 ≤ d → d ≤ 64 → c.batches.find? (fun z => z.num == n) = some y →
        let count := min 255 y.ncmd * 2 ^ 32
        (c.unfinished n = true → (∀ z ∈ c.xfers, c.parkedAt z = none) → ends popped (2 ^ 61 + count)) ∧
        (∀ z f, c.unfinished n = true → c.xfers = [z] → z.batch = n → c.parkedAt z = some f →
          ends popped (2 ^ 61 + 2 ^ 60 + count + f % 2 ^ 32)) ∧
        (c.unfinished n = false → y.err = none → ends popped (2 * 2 ^ 61 + count)) ∧
        (∀ q cls cause f, c.unfinished n = false → y.err = some (q, cls, cause, f) →
          ends popped (3 * 2 ^ 61 + cls * 2 ^ 48 + cause * 2 ^ 40 + count + f % 2 ^ 32))) ∧
    (∀ r q y, x.op = .fwSet r q y →
      let base := a % 2 ^ 17
      let n := a / 2 ^ 32 % 128
      let shaped : Prop := a / 2 ^ 50 = 0 ∧ a / 2 ^ 39 % 2 ^ 9 = 0 ∧ a / 2 ^ 17 % 2 ^ 15 = 0 ∧ a / 2 ^ 48 % 4 = k.val ∧ w < 2 ∧
        (b / 2 ^ 62 = 0 ∧ b / 2 ^ 52 % 2 ^ 10 = 0 ∨ b / 2 ^ 62 = 2 ∧ b / 2 ^ 60 % 4 = 0)
      let clash : Prop := 0x18000 < base + 512 * n ∨
        ∃ i : Fin 4, (c.fills[i]).active = true ∧ (i = k ∨ (c.fills[i].base < base + 512 * n ∧ base < c.fills[i].base + 512 * c.fills[i].units))
      (shaped → base % 512 = 0 → b % 512 = 0 → 1 ≤ n → n ≤ 64 →
        (clash → fails 6) ∧
        (¬ clash → ∃ t f, step s = .next t ∧ OnlyCore p u t ∧ t.core p = { popped with fills := c.fills.set k f } ∧ f.active = true ∧
          f.base = base ∧ f.units = n ∧ f.present = [] ∧ f.batch = c.batch ∧
          f.src = (if b / 2 ^ 62 = 2 ∧ b / 2 ^ 52 % 256 ≠ s.chip then .chipGlob (b / 2 ^ 52 % 256) (b % 2 ^ 52) else .glob (b % 2 ^ 52)) ∧
          f.pre = (if w = 1 then some x else none) ∧ f.todo = if w = 1 then List.range n else [])) ∧
      (shaped → 1 ≤ n → n ≤ 64 → base % 512 ≠ 0 ∨ b % 512 ≠ 0 → fails 3)) ∧
    (∀ r, x.op = .fwClr r →
      (a = k.val → c.xfers = [] → c.filling = [] → c.fills[k].todo = [] → ∃ t, step s = .next t ∧ OnlyCore p u t ∧
        t.core p = { popped with fills := c.fills.set k {} }) ∧
      (a = k.val → c.xfers ≠ [] → waits) ∧ (4 ≤ a → fails 1)) ∧
    (∀ r q, x.op = .swInit r q →
      (b < 2 ^ 48 → a % 16 = 0 → ∃ t, step s = .next t ∧ OnlyCore p u t ∧ t.core p = { popped with sp := (t.core p).sp } ∧
        Stored c.sp (t.core p).sp a 16 (b % 2 ^ 32 + b / 2 ^ 32 * 2 ^ 64 + 2 ^ 80)) ∧
      (2 ^ 48 ≤ b → fails 1) ∧ (b < 2 ^ 48 → a % 16 ≠ 0 → fails 3)) ∧
    (∀ r q, x.op = .swWait r q → (a % 16 ≠ 0 → fails 3) ∧ (a % 16 = 0 →
      let ahead := (c.sp.load (a + 8) 2 + 65536 - b % 65536) % 65536
      (ahead < 32768 → ends popped 0) ∧ (32768 ≤ ahead → waits))) ∧
    (∀ r q, x.op = .swRd r q → (a % 16 ≠ 0 → fails 3) ∧ (a % 16 = 0 →
      ends popped (c.sp.load (a + 4) 4 * 2 ^ 32 + c.sp.load (a + 10) 2 * 2 ^ 16 + c.sp.load (a + 8) 2)))

namespace Sys2Proof.Machine

/-- Whether a lane is a NaN, and a number that orders the lanes that are none, zeros equal (R42, R43). -/
def nanBits (x : Lane) : Bool := decide (0x7F800000 < x.toNat % 2 ^ 31)

def rank (x : Lane) : Int := if x.msb then -((x.toNat % 2 ^ 31 : Nat) : Int) else ((x.toNat % 2 ^ 31 : Nat) : Int)

/-- The greater and the lesser of two lanes, −0 below +0, or the canonical NaN (R74). -/
def greater (x y : Lane) : Lane :=
  if nanBits x ∨ nanBits y then 0x7FC00000 else if rank x < rank y ∨ (rank x = rank y ∧ x.msb = true) then y else x

def lesser (x y : Lane) : Lane :=
  if nanBits x ∨ nanBits y then 0x7FC00000 else if rank y < rank x ∨ (rank x = rank y ∧ y.msb = true) then y else x

/-- Bit `k` of the product of two lanes as polynomials over GF(2) (R353). -/
def productBit (x y : Lane) (k : Nat) : Bool :=
  ((List.range 32).filter (fun i => decide (i ≤ k) && y.getLsbD i && x.getLsbD (k - i))).length % 2 == 1

/-- The tiles, the slice and the lane function of an element-wise FP32 form or lane conversion (Tables 02.8 and 10.1, R73, R74, R352,
R355, R358): of `ta`, `tb` and the old `td`, rounded once in the mode of `rz`, saturated under `sat`. -/
def floatForm (rz sat : Bool) (i : Instr) : Option (Fin 8 × Fin 8 × Fin 8 × Slice × (Lane → Lane → Lane → Lane)) :=
  let r (v : Val) : Lane := toLane rz sat v
  let mask (b : Bool) : Lane := if b then BitVec.allOnes 32 else 0
  let holds (f : Int → Int → Bool) (x y : Lane) : Bool := !nanBits x && !nanBits y && f (rank x) (rank y)
  match i with
  | .vadd d a b sl => some (d, a, b, sl, fun x y _ => r ((laneVal x).add (laneVal y)))
  | .vsub d a b sl => some (d, a, b, sl, fun x y _ => r ((laneVal x).add (laneVal y).neg))
  | .vmul d a b sl => some (d, a, b, sl, fun x y _ => r ((laneVal x).mul (laneVal y)))
  | .vfma d a b sl => some (d, a, b, sl, fun x y z => r ((laneVal z).add ((laneVal x).mul (laneVal y))))
  | .vfms d a b sl => some (d, a, b, sl, fun x y z => r ((laneVal z).add ((laneVal x).mul (laneVal y)).neg))
  | .vmax d a b sl => some (d, a, b, sl, fun x y _ => greater x y)
  | .vmin d a b sl => some (d, a, b, sl, fun x y _ => lesser x y)
  | .vabs d a sl => some (d, a, a, sl, fun x _ _ => if nanBits x then 0x7FC00000 else x &&& 0x7FFFFFFF)
  | .vneg d a sl => some (d, a, a, sl, fun x _ _ => if nanBits x then 0x7FC00000 else x ^^^ 0x80000000)
  | .vcmpEq d a b sl => some (d, a, b, sl, fun x y _ => mask (holds (fun u v => decide (u = v)) x y))
  | .vcmpNe d a b sl => some (d, a, b, sl, fun x y _ => mask (!holds (fun u v => decide (u = v)) x y))
  | .vcmpLt d a b sl => some (d, a, b, sl, fun x y _ => mask (holds (fun u v => decide (u < v)) x y))
  | .vcmpLe d a b sl => some (d, a, b, sl, fun x y _ => mask (holds (fun u v => decide (u ≤ v)) x y))
  | .vexp2 d a sl => some (d, a, a, sl, fun x _ _ => r (laneVal x).exp2)
  | .vlog2 d a sl => some (d, a, a, sl, fun x _ _ => r (laneVal x).log2)
  | .vrcp d a sl => some (d, a, a, sl, fun x _ _ => r (laneVal x).rcp)
  | .vrsqrt d a sl => some (d, a, a, sl, fun x _ _ => r (laneVal x).rsqrt)
  | .vcvtFi d a sl => some (d, a, a, sl, fun x _ _ => toLane rz false (.ofInt x.toInt))
  | .vcvtIf d a sl => some (d, a, a, sl, fun x _ _ => BitVec.ofInt 32 ((laneVal x).toInt rz (-2 ^ 31) (2 ^ 31 - 1)))
  | .vcvtI8 d a sl => some (d, a, a, sl, fun x _ _ => BitVec.ofInt 32 ((laneVal x).toInt rz (-128) 127))
  | _ => none

/-- The element at a position of the slice in which an element lies: its row, or its column. -/
def sliceAt (sh : Shape) (k i : Nat) : Nat := if sh = .col then 32 * i + k % 32 else 32 * (k / 32) + i

/-- How many positions such a slice has. -/
def sliceLen (sh : Shape) : Nat := if sh = .col then 16 else 32

/-- The pairwise tree over `2 ^ n` values (R75). -/
def treeOf (f : Lane → Lane → Lane) : Nat → (Nat → Lane) → Lane
  | 0, v => v 0
  | n + 1, v => f (treeOf f n v) (treeOf f n (fun i => v (2 ^ n + i)))

/-- A form that moves or combines lanes within a slice (R354, R356 to R358, Table 10.4): the tile that it writes, its slice, and the value
that it gives an element. -/
def sliceForm (c : Core) (rz sat : Bool) (i : Instr) : Option (Fin 8 × Slice × (Nat → Lane)) :=
  let el (t : Fin 8) (k : Nat) : Lane := (c.tiles[t]).getD k 0
  let tree (f : Lane → Lane → Lane) (a : Fin 8) (sl : Slice) (k : Nat) : Lane :=
    treeOf f (if sl.shape = .col then 4 else 5) (fun i => el a (sliceAt sl.shape k i))
  let half (x : Lane) (m : Nat) : Nat := x.toNat / 2 ^ (16 * (m % 2)) % 2 ^ 16
  let code (a : Fin 8) (k : Nat) : Nat := bf16.round rz sat (laneVal (el a k))
  match i with
  | .vrsum d a sl => some (d, sl, tree (fun x y => toLane rz sat ((laneVal x).add (laneVal y))) a sl)
  | .vrmax d a sl => some (d, sl, tree greater a sl)
  | .vrsumI d a sl => some (d, sl, tree (fun x y => x + y) a sl)
  | .vrmaxI d a sl => some (d, sl, tree (fun x y => if x.slt y then y else x) a sl)
  | .vtr d a => some (d, { shape := .whole, ix := .z, io := 0 }, fun k => el a (32 * (k % 16) + 16 * (k % 32 / 16) + k / 32))
  | .vperm d a b sl => some (d, sl, fun k => el a (sliceAt sl.shape k ((el b k).toNat % sliceLen sl.shape)))
  | .vrot d a b sl => some (d, sl, fun k =>
      el a (sliceAt sl.shape k ((positionOf (if sl.shape = .whole then .row else sl.shape) k +
        (el b (sliceAt sl.shape k 0)).toNat) % sliceLen sl.shape)))
  | .vcvtFb d a sl =>
    if sl.shape = .col then none
    else some (d, sl, fun k =>
      let m := positionOf sl.shape k
      toLane false false (bf16.value (half (el a (k - m + m / 2)) m)))
  | .vcvtBf d a sl =>
    if sl.shape = .col then none
    else some (d, sl, fun k =>
      let m := positionOf sl.shape k
      if 2 * m < shapeLen sl.shape then BitVec.ofNat 32 (code a (k + m) + 2 ^ 16 * code a (k + m + 1)) else 0)
  | _ => none

/-- What a vector command that stores writes (R363, R365): the space and the bytes. -/
def storeForm (c : Core) (x : Cmd) : Option (Spc × List Byte) :=
  let lanes (t : Fin 8) (sl : Slice) : List Lane := ((List.finRange 512).filter (fun k => inSlice sl.shape x.ix k.val)).map (fun k => c.tiles[t][k])
  let packed (f : PackFmt) (t : Fin 8) (sl : Slice) : List Byte := packBlocks f x.rnd x.sat ((lanes t sl).map laneVal)
  match x.op with
  | .vst t _ q sl => some (q, (lanes t sl).flatMap (fun v => leBytes 4 v.toNat))
  | .vpkE2m1 t _ q sl => some (q, packed .e2m1 t sl)
  | .vpkE4m3 t _ q sl => some (q, packed .e4m3 t sl)
  | .vpkE5m2 t _ q sl => some (q, packed .e5m2 t sl)
  | .vpkInt8 t _ q sl => some (q, packed .int8 t sl)
  | _ => none

/-- The tile, the space and the slice of a vector command that loads or unpacks, and whether it gives BF16 pairs. -/
def unpackForm : Instr → Option (Fin 8 × Slice × Bool)
  | .vunpkF t _ _ sl => some (t, sl, false)
  | .vunpkBf t _ _ sl => some (t, sl, true)
  | _ => none

/-- The lanes of `n` bytes from an address of which a command has moved none yet. -/
def Core.lanesLeft (c : Core) (a n : Nat) : List Nat := (List.range (n / 4)).filter (fun k => !c.vGot.any (fun z => z.1 == a + 4 * k))

/-- What a vector command that writes a tile leaves: the elements of the tile that it covers have new values; the other tiles and elements,
and storage, are as they were, and it is gone from its queue. -/
def Wrote (c y : Core) (d : Fin 8) (within : Nat → Bool) (v : Nat → Lane) : Prop :=
  (∀ (e : Fin 8) (k : Fin 512), y.tiles[e][k] = if e = d ∧ within k.val = true then v k.val else c.tiles[e][k]) ∧
    y.vq = [] ∧ y.vGot = [] ∧ y.lut = c.lut ∧ y.hdl = c.hdl ∧ y.sp = c.sp ∧ y.ab = c.ab ∧ y.cb = c.cb

end Sys2Proof.Machine

/-- A vector command, when it is performed: an integer form writes its lanes in its slice of `td` and nothing else; `vbcast`, `vins` and
`vext` move one value, and `ltab` sets a table (R347, R353, R360, Table 10.2). `vld` reads, and `vst` and the packing forms write, one
32-bit lane of storage after another, in any order; a `vld` then has its slice, a `vunpk` the elements of the blocks that it has read, each
rounded once (R102, R363 to R365). -/
def Obligations.VectorCommands : Prop :=
  ∀ (s : State) (p : Nat) (x : Cmd),
    let c := s.core p
    let a := (v1 x.vals).toNat
    let low : Lane := (v1 x.vals).setWidth 32
    let el (t : Fin 8) (k : Nat) : Lane := (c.tiles[t]).getD k 0
    let ends (good : Core → Prop) : Prop := ∃ t, step s = .next t ∧ OnlyCore p { s with turn := none } t ∧ good (t.core p)
    s.turn = some (.drain p 5) → c.unhindered → c.vq = [x] →
    (∀ d u w sl f, intForm x.sat x.op = some (d, u, w, sl, f) → x.ix < indexLimit sl.shape →
      ends (fun y => Wrote c y d (inSlice sl.shape x.ix) (fun k => f (el u k) (el w k) (el d k)))) ∧
    (∀ d r sl, x.op = .vbcast d r sl → x.ix < indexLimit sl.shape → ends (fun y => Wrote c y d (inSlice sl.shape x.ix) (fun _ => low))) ∧
    (∀ d r i io, x.op = .vins d r i io → ends (fun y => Wrote c y d (fun k => k == x.ix) (fun _ => low))) ∧
    (∀ d r i io, x.op = .vext d r i io → ends (fun y =>
      y = ({ c with vq := [], vGot := [] } : Core).deliver x.act x.tag ((el d x.ix).setWidth 64))) ∧
    (∀ d n i io, x.op = .ltab d n i io → x.ix < 16 → ends (fun y =>
      y = { c with vq := [], vGot := [], lut := y.lut } ∧ ∀ (m : Fin 4) (k : Fin 16),
        y.lut[m][k] = if m = n then (el d (32 * x.ix + k.val)).setWidth 8 else c.lut[m][k])) ∧
    (∀ d b q sl, x.op = .vld d b q sl → x.ix < indexLimit sl.shape → a % 4 = 0 →
      let left := c.lanesLeft a (4 * shapeLen sl.shape)
      left ≠ [] → ∃ t, ∃ k ∈ left, step s = .next t ∧ OnlyCore p { s with turn := none, fresh := t.fresh } t ∧
        let got := c.vGot ++ (upto (a + 4 * k) 4).zip ((c.mem (spcLs q)).readN (a + 4 * k) 4)
        (left ≠ [k] → t.core p = { c with vGot := got }) ∧
        (left = [k] → Wrote c (t.core p) d (inSlice sl.shape x.ix)
          (fun j => BitVec.ofNat 32 (leNat (gathered got (a + 4 * positionOf sl.shape j) 4))))) ∧
    (∀ q b, storeForm c x = some (q, b) → a % 4 = 0 →
      let left := c.lanesLeft a b.length
      left ≠ [] → ∃ t, ∃ k ∈ left, step s = .next t ∧ OnlyCore p { s with turn := none, fresh := t.fresh } t ∧
        let y := t.core p
        y.tiles = c.tiles ∧ y.lut = c.lut ∧ y.hdl = c.hdl ∧ (∀ l, l ≠ spcLs q → y.mem l = c.mem l) ∧
        (∀ i, (y.mem (spcLs q)).read i = if a + 4 * k ≤ i ∧ i < a + 4 * k + 4 then b.getD (i - a) 0 else (c.mem (spcLs q)).read i) ∧
        (left ≠ [k] → y.vq = [x]) ∧ (left = [k] → y.vq = [] ∧ y.vGot = [])) ∧
    (∀ d sl bf m, unpackForm x.op = some (d, sl, bf) → x.ix < indexLimit sl.shape →
      let blk (i : Nat) : List Byte := gathered c.vGot (a + 64 * i) 64
      let n := if bf then 2 * shapeLen sl.shape else shapeLen sl.shape
      let upTo (j : Nat) : List Val := (List.range j).flatMap (fun i => (List.range (blockExtent (blk i))).map (blockValue c.lut (blk i)))
      let value (k : Nat) : Val := (upTo m).getD k .nan
      (∀ i, a ≤ i → i < a + 64 * m → ∃ y ∈ c.vGot, y.1 = i) → (∀ i, i < m → blockCheck (blk i) = none) →
      (upTo (m - 1)).length < n → n ≤ (upTo m).length → (∀ q b i, x.op = .vunpkF d b q i ∨ x.op = .vunpkBf d b q i → a + 64 * m ≤ spaceSize q) →
      ends (fun y => Wrote c y d (inSlice sl.shape x.ix) (fun k =>
        let j := positionOf sl.shape k
        if bf then BitVec.ofNat 32 (bf16.round x.rnd x.sat (value (2 * j)) + 2 ^ 16 * bf16.round x.rnd x.sat (value (2 * j + 1)))
        else toLane x.rnd x.sat (value j))))

/-- The FP32 forms, comparisons and conversions write their lanes in a slice of `td`, each rounded once from the exact result, and nothing
else; the carry-less products give the bits of the product; a reduction gives the pairwise tree's value to its whole slice; `vtr`, `vperm`
and `vrot` move lanes, and the BF16 conversions widen and narrow them (R60, R62, R73 to R75, R352 to R358, Tables 02.8, 10.1 and 10.4). The
special cases of the elementary functions are those of Table 10.3. -/
def Obligations.VectorArithmetic : Prop :=
  (∀ (s : State) (p : Nat) (x : Cmd),
    let c := s.core p
    let el (t : Fin 8) (k : Nat) : Lane := (c.tiles[t]).getD k 0
    let ends (good : Core → Prop) : Prop := ∃ t, step s = .next t ∧ OnlyCore p { s with turn := none } t ∧ good (t.core p)
    s.turn = some (.drain p 5) → c.unhindered → c.vq = [x] →
    (∀ d u w sl f, floatForm x.rnd x.sat x.op = some (d, u, w, sl, f) → x.ix < indexLimit sl.shape →
      ends (fun y => Wrote c y d (inSlice sl.shape x.ix) (fun k => f (el u k) (el w k) (el d k)))) ∧
    (∀ d sl v, sliceForm c x.rnd x.sat x.op = some (d, sl, v) → x.ix < indexLimit sl.shape →
      ends (fun y => Wrote c y d (inSlice sl.shape x.ix) v)) ∧
    (∀ d u w sl h, (x.op = .vclmul d u w sl ∧ h = 0) ∨ (x.op = .vclmulh d u w sl ∧ h = 32) → x.ix < indexLimit sl.shape →
      ends (fun y => ∃ v, Wrote c y d (inSlice sl.shape x.ix) v ∧
        ∀ k, inSlice sl.shape x.ix k = true → k < 512 → ∀ j, j < 32 → (v k).getLsbD j = productBit (el u k) (el w k) (j + h)))) ∧
  ∀ (rz : Bool) (x : Lane),
    let r (f : Val → Val) (x : Lane) : Lane := toLane rz false (f (laneVal x))
    let row (x : Lane) : List Lane := [r Val.exp2 x, r Val.log2 x, r Val.rcp x, r Val.rsqrt x]
    (nanBits x = true → row x = List.replicate 4 0x7FC00000) ∧
    row 0x7F800000 = [0x7F800000, 0x7F800000, 0, 0] ∧ row 0xFF800000 = [0, 0x7FC00000, 0x80000000, 0x7FC00000] ∧
    row 0 = [0x3F800000, 0xFF800000, 0x7F800000, 0x7F800000] ∧ row 0x80000000 = [0x3F800000, 0xFF800000, 0xFF800000, 0xFF800000] ∧
    row 0x3F800000 = [0x40000000, 0, 0x3F800000, 0x3F800000] ∧
    (x.msb = true → nanBits x = false → rank x < 0 → r Val.log2 x = 0x7FC00000 ∧ r Val.rsqrt x = 0x7FC00000)

namespace Sys2Proof.Machine

/-- A finite element of a block in units of 2^−18, of which every one is a multiple (R70). -/
def elementUnits : Val → Int
  | .fin n m e => (if n then -1 else 1) * (m * 2 ^ (e + 18).toNat : Nat)
  | _ => 0

/-- A value is an integer times a power of 2. -/
def IsNumber (v : Val) (z : Int) (e : Int) : Prop :=
  ∃ n m f, v = .fin n m f ∧ n = decide (z < 0) ∧ m * 2 ^ (f - min e f).toNat = z.natAbs * 2 ^ (e - min e f).toNat

/-- One cell's block step (R71): its accumulator before and after `n` elements, from `ka` of block `a` and from `kb` of block `b`. -/
def CellStepped (lut : Vector (Vector Byte 16) 4) (a b : List Byte) (ka kb n : Nat) (acc acc' : Lane) : Prop :=
  let x (i : Nat) : Val := element lut a (ka + i)
  let y (i : Nat) : Val := element lut b (kb + i)
  let inf (neg : Bool) (i : Nat) : Prop := ∃ p q, p = (q != neg) ∧
    ((x i = .inf p ∧ (y i = .inf q ∨ ∃ m e, y i = .fin q m e ∧ m ≠ 0)) ∨ ((∃ m e, x i = .fin p m e ∧ m ≠ 0) ∧ y i = .inf q))
  let zero (v : Val) : Prop := ∃ q e, v = .fin q 0 e
  let scale (z : List Byte) : Nat := if field z 0 1 / 16 = 0 then 127 else field z 1 1
  let nan : Prop := nanBits acc = true ∨ (field a 0 1 / 16 ≠ 0 ∧ field a 1 1 = 0xFF) ∨ (field b 0 1 / 16 ≠ 0 ∧ field b 1 1 = 0xFF) ∨
    ∃ i, i < n ∧ (x i = .nan ∨ y i = .nan ∨ ((∃ q, x i = .inf q) ∧ zero (y i)) ∨ (zero (x i) ∧ ∃ q, y i = .inf q))
  let pinf : Prop := ∃ i, i < n ∧ inf false i
  let ninf : Prop := ∃ i, i < n ∧ inf true i
  let sum : Int := ((List.range n).map (fun i => elementUnits (x i) * elementUnits (y i))).sum
  (nan ∨ (pinf ∧ ninf) → acc' = 0x7FC00000) ∧
  (¬ nan → pinf → ¬ ninf → acc' = toLane false false ((laneVal acc).add (.inf false))) ∧
  (¬ nan → ninf → ¬ pinf → acc' = toLane false false ((laneVal acc).add (.inf true))) ∧
  (¬ nan → ¬ pinf → ¬ ninf →
    (sum = 0 → acc' = acc) ∧
    (sum ≠ 0 → ∃ v, IsNumber v sum ((scale a : Int) + scale b - 254 - 36) ∧ acc' = toLane false false ((laneVal acc).add v)))

end Sys2Proof.Machine

/-- A step of the array: the 128 operand lines of a block step take one extent, 124 or 62, every cell adds the exact sum of its products,
scaled, with one rounding, and each line goes on in its block or to the next (R69 to R71, R379, R380). A chunk of BF16 values is added
product by product, each with one rounding (R72, R381). In redundant mode the tile of rows 0 to 31 comes first, then that of rows 32 to 63,
which ends the command; where the comparator has found cells that differ the core is sealed instead (R387 to R391). -/
def Obligations.ArrayComputes : Prop :=
  ∀ (s : State) (g : Nat) (j : TileJob) (x : Cmd) (l : List Cmd) (ra rb rc : Reg) (c : Fin 2) (diff : List (Nat × Nat)),
    let d := s.core j.place
    let w := s.group g
    let ku := (v3 x.vals).toNat % 4096
    let at_ (k : Nat) : Nat × Nat := j.ats.getD k (0, 0)
    let lineA (r b : Nat) : Nat := (v1 x.vals).toNat + 64 * (64 * b + r)
    let lineB (n b : Nat) : Nat := (v2 x.vals).toNat + 64 * b
    let line (k b : Nat) : List Byte :=
      if k < 64 then d.ab.readN (lineA k b) 64 else w.wb.readN (0x20000 * (k - 64) + lineB (k - 64) b) 64
    let blk (k : Nat) : List Byte := line k (at_ k).1
    let ext : Nat := if (List.range 128).all (fun k => (at_ k).2 == 0 && blockExtent (blk k) == 124) ∧ 124 ≤ 62 * ku - j.pos then 124 else 62
    w.job = some j → d.mq = x :: l → x.seq = j.seq → d.bad = [] → w.bad = [] → j.acc.length = (if d.red then 2048 else 4096) →
    j.row + j.acc.length / 64 ≤ 64 →
    (s.turn = some (.array g) → x.op = .mma ra rb rc c → j.pos < 62 * ku →
      (∀ k, k < 128 → (at_ k).2 = 0 → blockCheck (blk k) = none) →
      (∀ k, k < 64 → lineA k (at_ k).1 + 64 ≤ 0x10000) → (∀ k, 64 ≤ k → k < 128 → lineB (k - 64) (at_ k).1 + 64 ≤ 0x20000) →
      ∃ t z, step s = .next t ∧ (∀ p, t.core p = s.core p) ∧ (t.group g).job = some z ∧ z.place = j.place ∧ z.seq = j.seq ∧
        z.row = j.row ∧ z.pos = j.pos + ext ∧ z.step = j.step + 1 ∧ z.acc.length = j.acc.length ∧
        (∀ k, k < 128 → z.ats.getD k (0, 0) =
          if (at_ k).2 + ext = blockExtent (blk k) then ((at_ k).1 + 1, 0) else ((at_ k).1, (at_ k).2 + ext)) ∧
        ∀ e, e < j.acc.length →
          let r := j.row + e / 64
          let n := 64 + e % 64
          CellStepped d.mLut (blk r) (blk n) (at_ r).2 (at_ n).2 ext (j.acc.getD e 0) (z.acc.getD e 0)) ∧
    (s.turn = some (.array g) → x.op = .mmaBf16 ra rb rc c → j.pos < 32 * ku →
      ∃ t z, step s = .next t ∧ (∀ p, t.core p = s.core p) ∧ (t.group g).job = some z ∧ z.place = j.place ∧ z.seq = j.seq ∧
        z.row = j.row ∧ z.pos = j.pos + 32 ∧ z.step = j.step + 1 ∧ z.acc.length = j.acc.length ∧
        ∀ e, e < j.acc.length → z.acc.getD e 0 = (List.range 32).foldl (fun (acc : Lane) (k : Nat) =>
          let a := bf16.value (field (line (j.row + e / 64) j.step) (2 * k) 2)
          let b := bf16.value (field (line (64 + e % 64) j.step) (2 * k) 2)
          toLane false false ((laneVal acc).add (a.mul b))) (j.acc.getD e 0)) ∧
    (x.op = .mma ra rb rc c ∧ 62 * ku ≤ j.pos ∨ x.op = .mmaBf16 ra rb rc c ∧ 32 * ku ≤ j.pos → (∀ k, k < 128 → (at_ k).2 = 0) →
      j.ats.length ≤ 128 → d.red = true → d.life = .running → x.seq < 2 ^ 32 → 0 < x.seq → d.recs = [] →
      (∃ t, exec (.matrixTileDrain g []) s = .next t ∧ (t.group g).job = none ∧
        (∀ e, e < 2048 → (t.core j.place).cb.load (0x4000 * c.val + 256 * j.row + 4 * e) 4 = (j.acc.getD e 0).toNat) ∧
        (j.tile = 0 → (t.core j.place).mq = x :: l ∧ (t.core j.place).mTile = 1) ∧
        (j.tile ≠ 0 → (t.core j.place).mq = l ∧ (t.core j.place).mTile = 0 ∧ (t.core j.place).lseq = x.seq)) ∧
      (diff ≠ [] → ∃ t, exec (.matrixTileDrain g diff) s = .next t ∧ (t.group g).job = none ∧ (t.core j.place).life = .sealed))

namespace Sys2Proof.Machine

/-- The step of a capsule that a command names, and the first that is open (R416). -/
def stepOf (h : CapHdr) (k : Fin 12) : Nat := h.cur + k.val

def firstOpen (h : CapHdr) : Nat := if h.st = 2 then h.cur + 1 else h.cur

/-- The limit of R419, R420 or R418 that a capsule command breaks, by its cause. -/
inductive BreaksLimit (h : CapHdr) (w : Nat) : Instr → Nat → Prop where
  | insFull (r k q) (hn : h.nst = 12) : BreaksLimit h w (.capIns r k q) 3
  | insStep (r k q) (hn : h.nst ≠ 12) (hk : stepOf h k < firstOpen h ∨ h.nst < stepOf h k) : BreaksLimit h w (.capIns r k q) 2
  | insWord (r k q) (hn : h.nst ≠ 12) (ho : firstOpen h ≤ stepOf h k) (hk : stepOf h k ≤ h.nst) (hw : 2 ^ 32 ≤ w) :
      BreaksLimit h w (.capIns r k q) 4
  | delStep (k q) (hk : stepOf h k < firstOpen h ∨ h.nst ≤ stepOf h k) : BreaksLimit h w (.capDel k q) 2
  | repStep (r k q) (hk : stepOf h k < firstOpen h ∨ h.nst ≤ stepOf h k) : BreaksLimit h w (.capRep r k q) 2
  | repWord (r k q) (ho : firstOpen h ≤ stepOf h k) (hk : stepOf h k < h.nst) (hw : 2 ^ 32 ≤ w) : BreaksLimit h w (.capRep r k q) 4
  | div (r q) (hw : w < 16 ∨ 255 < w) : BreaksLimit h w (.capDiv r q) 6
  | hdrBits (d r q) (hw : w / 2 ^ 32 % 2 ^ 27 ≠ 0) : BreaksLimit h w (.capHdr d r q) 4
  | hdrSel (d r q) (hz : w / 2 ^ 32 % 2 ^ 27 = 0)
      (hw : 10 < w / 2 ^ 60 ∨ (w / 2 ^ 59 % 2 = 1 ∧ (4 < w / 2 ^ 60 ∨ (w / 2 ^ 60 = 4 ∧ h.st = 2)))) : BreaksLimit h w (.capHdr d r q) 5
  | hdrValue (d r q) (hz : w / 2 ^ 32 % 2 ^ 27 = 0) (hb : w / 2 ^ 59 % 2 = 1) (hs : w / 2 ^ 60 < 4 ∨ (w / 2 ^ 60 = 4 ∧ h.st ≠ 2))
      (hw : ∀ n, (w / 2 ^ 60, n) ∈ [(0, 65536), (1, 4033), (4, h.nst + 1)] → n ≤ w % 2 ^ 32)
      (ht : w / 2 ^ 60 = 2 ∨ w / 2 ^ 60 = 3 → w % 128 ≠ 0) : BreaksLimit h w (.capHdr d r q) 6

/-- The fields that `cap.hdr` reads, by their selectors (Table 12.10). -/
def headerFields (h : CapHdr) : List Nat :=
  [h.cid, h.len, h.rtn, h.flt, h.cur, h.nst, h.st, h.fcode, h.asid, field (hdrBytes h) 0 8, field (hdrBytes h) 8 8]

/-- The header that an itinerary command within its limits leaves, and the value that it writes (R419, R420). -/
inductive Edits (h : CapHdr) (w : Nat) : Instr → CapHdr → Nat → Prop where
  | ins (r k q) (hn : h.nst < 12) (ho : firstOpen h ≤ stepOf h k) (hk : stepOf h k ≤ h.nst) (hw : w < 2 ^ 32) :
      Edits h w (.capIns r k q)
        { h with steps := (h.steps.take (stepOf h k) ++ w :: h.steps.drop (stepOf h k)).take 12, nst := h.nst + 1 } 0
  | del (k q) (ho : firstOpen h ≤ stepOf h k) (hk : stepOf h k < h.nst) :
      Edits h w (.capDel k q) { h with steps := h.steps.eraseIdx (stepOf h k) ++ [0], nst := h.nst - 1 } 0
  | rep (r k q) (ho : firstOpen h ≤ stepOf h k) (hk : stepOf h k < h.nst) (hw : w < 2 ^ 32) :
      Edits h w (.capRep r k q) { h with steps := h.steps.set (stepOf h k) w } 0
  | rd (d k q) : Edits h w (.capRd d k q) h (if stepOf h k < h.nst then h.steps.getD (stepOf h k) 0 else 0)
  | hdrRead (d r q) (hz : w / 2 ^ 32 % 2 ^ 28 = 0) (hs : w / 2 ^ 60 ≤ 10) :
      Edits h w (.capHdr d r q) h ((headerFields h).getD (w / 2 ^ 60) 0)
  | hdrWrite (d r q h') (hz : w / 2 ^ 32 % 2 ^ 28 = 2 ^ 27)
      (hs : (w / 2 ^ 60, h') ∈ [(0, { h with cid := w % 2 ^ 32 }), (1, { h with len := w % 2 ^ 32 }), (2, { h with rtn := w % 2 ^ 32 }),
        (3, { h with flt := w % 2 ^ 32 }), (4, { h with cur := w % 2 ^ 32 })])
      (hv : h'.cid < 65536 ∨ w / 2 ^ 60 ≠ 0) (hl : h'.len ≤ 4032 ∨ w / 2 ^ 60 ≠ 1) (hr : w % 128 = 0 ∨ (w / 2 ^ 60 ≠ 2 ∧ w / 2 ^ 60 ≠ 3))
      (hc : (h'.cur ≤ h.nst ∧ h.st ≠ 2) ∨ w / 2 ^ 60 ≠ 4) : Edits h w (.capHdr d r q) h' ((headerFields h).getD (w / 2 ^ 60) 0)

/-- The header with which a capsule command sends (R418). -/
inductive SendsWith (h : CapHdr) (w : Nat) : Instr → CapHdr → Prop where
  | fwd (q) : SendsWith h w (.capFwd q)
      (let n := if h.st = 2 then h.cur + 1 else h.cur
       { h with cur := n, st := if n < h.nst then 1 else 3 })
  | ret (q) : SendsWith h w (.capRet q) { h with cur := h.nst, st := 3 }
  | div (r q) (hl : 16 ≤ w) (hu : w ≤ 255) : SendsWith h w (.capDiv r q) { h with st := 5, fcode := w }

/-- The slot and the number in records of a command that acts on a capsule (R416). -/
def capsuleCommand : Instr → Option (Fin 2 × Nat)
  | .capFwd q => some (q, 1)
  | .capIns _ _ q => some (q, 2)
  | .capDel _ q => some (q, 3)
  | .capRep _ _ q => some (q, 4)
  | .capRd _ _ q => some (q, 5)
  | .capDiv _ q => some (q, 6)
  | .capRet q => some (q, 7)
  | .capKill q => some (q, 8)
  | .capHdr _ _ q => some (q, 9)
  | _ => none

end Sys2Proof.Machine

/-- The commands of the matrix queue that do not use the array, when they are performed: `mm.zero` writes its accumulator tile and nothing
else, `mm.st` gives the status word, `mm.cfg` sets mode and weight, and `mm.fence` ends once the vector commands before it have (R383 to
R386, Table 11.4). The arbiter gives the free array the tile of a core whose `mma` is at its queue's head, with the accumulators of its C tile
or zeros; a tile that has run over all of K is written to CB, and its command is performed (R375, R379, R387). -/
def Obligations.MatrixCommandsAndTiles : Prop :=
  (∀ (s : State) (p : Nat) (x : Cmd),
    let c := s.core p
    let done : Core := { c with mq := [], lseq := x.seq, mTile := 0 }
    let ends (d : Core) : Prop := ∃ t, step s = .next t ∧ OnlyCore p { s with turn := none } t ∧ t.core p = d
    c.unhindered → s.turn = some (.drain p 6) → c.mq = [x] → 0 < x.seq → x.seq < 2 ^ 32 →
    (∀ n, x.op = .mmZero n → ∃ t, step s = .next t ∧ OnlyCore p { s with turn := none } t ∧ t.core p = { done with cb := (t.core p).cb } ∧
      ∀ i, (t.core p).cb.read i = if 0x4000 * n.val ≤ i ∧ i < 0x4000 * n.val + 0x4000 then 0 else c.cb.read i) ∧
    (∀ r, x.op = .mmSt r → ends (done.deliver x.act x.tag (BitVec.ofNat 64
      (c.lseq * 2 ^ 32 + c.wt * 2 ^ 20 + (if c.red then 2 ^ 16 else 0) + inGroup p * 2 ^ 8 + groupOf p % 24)))) ∧
    (∀ r, x.op = .mmCfg r → ends { done with
      red := (v1 x.vals).getLsbD 0, wt := if (v1 x.vals).toNat / 16 % 16 = 0 then c.wt else (v1 x.vals).toNat / 16 % 16 }) ∧
    (x.op = .mmFence → ((∀ y ∈ c.vq, x.ix < y.seq) → ends (done.deliver x.act x.tag 0)) ∧
      ((∃ y ∈ c.vq, y.seq ≤ x.ix) → step s = .next { s with turn := none }))) ∧
  ∀ (s : State) (g i n c : Nat) (h : Bool) (x : Cmd) (l : List Cmd) (j : TileJob),
    (let p := (s.groupCores g).getD i 0
     let d := s.core p
     (s.group g).job = none → s.arbiter g = some (i, n) → d.mq = x :: l → mmaHead x = some (h, c) →
      (s.group g).owner = none ∨ (s.group g).owner = some x.asid → d.red = false → d.bad = [] →
      ∃ t z, exec (.matrixTileGrant g) s = .next t ∧ (t.group g).job = some z ∧ (t.group g).owner = some x.asid ∧
        (t.group g).cur = i ∧ (t.group g).grants = n ∧ z.place = p ∧ z.seq = x.seq ∧ z.step = 0 ∧ z.pos = 0 ∧
        z.acc = (List.range 4096).map (fun e => if bit (v3 x.vals).toNat 12 then 0
          else BitVec.ofNat 32 (d.cb.load (0x4000 * c + 4 * e) 4))) ∧
    (let d := s.core j.place
     (s.group g).job = some j → s.tileReady g = true → d.mq = x :: l → mmaHead x = some (h, c) → d.red = false →
      j.acc.length = 4096 → ∃ t, exec (.matrixTileDrain g []) s = .next t ∧ (t.group g).job = none ∧
        (t.core j.place).mq = l ∧ (0 < x.seq → x.seq < 2 ^ 32 → (t.core j.place).lseq = x.seq) ∧
        ∀ e, e < 4096 → (t.core j.place).cb.load (0x4000 * c + 4 * e) 4 = (j.acc.getD e 0).toNat)

/-- A capsule command, when it is performed. `cap.new` builds a capsule in a free slot from its image, or gives its code; an itinerary command
changes the header and its copy and nothing else; `cap.fwd`, `cap.ret` and `cap.div` hand header and payload to the egress buffer and free the
slot; `cap.kill` frees it (R416 to R420, Table 12.10). A command on a slot that its activation does not own, and one that breaks its limits, has no
effect of its own but a record with its cause; its `rd` receives 0, and the capsule that the activation owns is diverted with code 9 (R416,
Table 12.13). -/
def Obligations.CapsuleCommands : Prop :=
  ∀ (s : State) (p : Nat) (x : Cmd) (a : Act) (k : Fin 2) (h : CapHdr),
    let c := s.core p
    let u : State := { s with turn := none }
    let w := (v1 x.vals).toNat
    let z := c.slots[k]
    let popped : Core := { c with kq := [] }
    let ends (d : Core) (v : Nat) : Prop := ∃ t, step s = .next t ∧ OnlyCore p u t ∧ t.core p = d.deliver x.act x.tag (BitVec.ofNat 64 v)
    let fails (t : State) (cause fn : Nat) : Prop :=
      Noted u t p (fun r => r.kind = 13 ∧ r.engine = 7 ∧ r.cseq = x.seq ∧ r.pc = x.pc ∧ r.entry = x.ent ∧ field r.detail 0 1 = cause ∧
        field r.detail 1 1 = 2 ∧ field r.detail 24 1 = fn)
    c.unhindered → s.turn = some (.drain p 7) → c.kq = [x] → c.act = some a → a.id = x.act → c.lsq = [] → c.pair = none →
    (∀ d r, x.op = .capNew d r k →
      let b := c.sp.readN w 64
      let g : CapHdr := { hdrOfBytes b with asid := x.asid, st := 0, fcode := 0, cur := 0 }
      let n : Nat := if g.cid = 0 then c.capNo else g.cid
      (z.st ≠ .free → ends popped (1 * 2 ^ 32)) ∧
      (z.st = .free → w % 64 ≠ 0 → ends popped (3 * 2 ^ 32)) ∧
      (z.st = .free → w % 64 = 0 → hdrOK g = false ∨ 8192 ≤ field b 2 2 → ends popped (2 * 2 ^ 32)) ∧
      (z.st = .free → w % 64 = 0 → hdrOK g = true → field b 2 2 < 8192 → ∃ m, Placed c.sp m (slotBase k) (hdrBytes { g with cid := n }) ∧
        ends { popped with
          sp := m, slots := c.slots.set k { st := .building, hdr := some { g with cid := n }, owner := some x.act }
          capNo := if g.cid = 0 then (if c.capNo = 65535 then 1 else c.capNo + 1) else c.capNo } n)) ∧
    (∀ fn, z.st = .taken ∨ z.st = .building → z.owner = some x.act → z.hdr = some h → capsuleCommand x.op = some (k, fn) →
      (∀ h' v, Edits h w x.op h' v → ∃ m, (if h' = h then m = c.sp else Placed c.sp m (slotBase k) (hdrBytes h')) ∧
        ends { popped with sp := m, slots := c.slots.set k { z with hdr := some h' } } v) ∧
      (∀ h', SendsWith h w x.op h' → c.egress = [] → ∃ t g, step s = .next t ∧ OnlyCore p u t ∧
        t.core p = { popped with slots := c.slots.set k {}, egress := [g] } ∧ g.sent = false ∧ g.cap.hdr = h' ∧
        g.cap.payload = c.slotPayload k h.len ∧ g.cap.sender = p) ∧
      (∀ h', SendsWith h w x.op h' → 2 ≤ c.egress.length → step s = .next u) ∧
      (x.op = .capKill k → ends { popped with slots := c.slots.set k {} } 0) ∧
      (∀ n, BreaksLimit h w x.op n → c.egress = [] → ∃ t g, step s = .next t ∧ fails t n fn ∧
        (t.core p).kq = [] ∧ (t.core p).life = .running ∧ (t.core p).sp = c.sp ∧ (t.core p).slots = c.slots.set k {} ∧
        (t.core p).egress = [g] ∧ g.cap.hdr = { h with st := 5, fcode := 9 } ∧ g.cap.payload = c.slotPayload k h.len)) ∧
    (∀ fn, x.priv = false → z.owner ≠ some x.act → capsuleCommand x.op = some (k, fn) → ∃ t, step s = .next t ∧ fails t 1 fn ∧
      t.core p = ({ popped with recs := [(7, (c.serial + 1) % 2 ^ 32)], serial := (c.serial + 1) % 2 ^ 32 } : Core).deliver x.act x.tag 0)

/-- The machine right after power has been applied (R5, R493, Table 05.6): nothing is released, no core runs, memories are
empty and canonical, and the power-on sequence is to come. The registers' values after reset are those of a core that is not
listed. Of the model's own choice: empty memories, and every value for which the spec states none (log entries 2, 3, 4 and
97). -/
def Obligations.ResetState : Prop :=
  State.reset.memWf = true ∧ State.reset.released = [] ∧ State.reset.openAsids = [] ∧ State.reset.agenda = [.powerOn] ∧
  State.reset.hbm = [] ∧ State.reset.cores = [] ∧ State.reset.cap = 2400 ∧
  ∀ p, let c := State.reset.core p
    c.life = .vacant ∧ c.asid = 0 ∧ c.codeLim = 0 ∧ c.ageUs = 50 ∧ c.parkNs = 1000 ∧ c.wdogLim = 4194304 ∧ c.hdSel = 0 ∧
      c.act = none ∧ c.ctxs = [] ∧ c.batch = 1 ∧ c.wt = 1 ∧ c.red = false ∧ (∀ k : Fin 20, c.hdl[k].valid = false) ∧
      (∀ k : Fin 16, c.eps[k].life = .idle) ∧ ∀ w : Fin 8, c.wc[w] = 0

/-- Words written out from the spec's encodings decode to the instructions that they stand for, and words with a reserved major,
a wrong stream, a reserved minor code, a register that may not stand there, a nonzero
unused field or a field beyond its limit are refused by their cause (Tables 04.1 to 04.12). -/
def Obligations.SomeWordsDecode : Prop :=
  decode 0b0_000001_00011_00001_00010_10000_00001#32 = .ok (.sub .a (.r 3) (.r 1) (.r 2)) ∧
  decode 0b1_001000_00100_10001_000_111111111111#32 = .ok (.addi .e (.r 4) .lq 0xFFF) ∧
  decode 0b0_010000_000_01_00001_10000_1111111111#32 = .ok (.beq .a .target (.r 1) .z 0x3FF) ∧
  decode 0b0_011010_10001_00010_101_000000001000#32 = .ok (.ldg .lq (.r 2) .wu 8) ∧
  decode 0b0_100000_0111_10000_00001_00010_000101#32 = .ok (.send 7 (.r 1) (.r 2) 5) ∧
  decode 0b1_110001_011_001_010_01_00101_0011_00001#32 = .ok (.vsubI 3 1 2 { shape := .row, ix := .r 5, io := 3 }) ∧
  decode 0b1_111000_10000_10000_10000_1_0000_010_00#32 = .ok (.mmZero 1) ∧
  decode 0b0_111101_00001_00010_10000_00000_011_00#32 = .ok (.evict (.r 1) (.r 2)) ∧
  decode 0b0_000100_00000_00000_00000_00000_00000#32 = .error .reservedMajor ∧
  decode 0b0_111000_10000_10000_10000_1_0000_010_00#32 = .error .wrongStream ∧
  decode 0b0_000001_00011_00001_00010_10000_10100#32 = .error .reservedMinor ∧
  decode 0b0_000001_10001_00001_00010_10000_00001#32 = .error .registerCode ∧
  decode 0b0_000001_00011_00001_00010_00000_00001#32 = .error .unusedField ∧
  decode 0b0_010000_000_11_00001_10000_1111111111#32 = .error .fieldLimit

/-- When the word at a stream's `pc` is one of that stream and decodes, a step is `exec` of its instruction at that state,
with the turn taken and the core noted; a word of the other stream that is no branch is skipped, and one that does not decode
is an illegal encoding (R107, R123, R172). At a branch word of the other stream it pops that stream's outcome or target and follows it, or
waits for it; it follows a jump, and ends at `done` (R121, R160, Table 04.10). Where the words of both streams are illegal in one cycle, each has its
record, the access stream's first, and the other waits until that has been accepted (R34, R124). Of the model's own choice: that a step is one turn, and the turn of both streams
(log entries 1 and 102). -/
def Obligations.StepRunsTheDecodedInstruction : Prop :=
  (∀ (s : State) (p : Nat) (st : Stream) (a : Act) (w : IWord),
    let c := s.core p
    let x := a.str st
    let u : State := { s with turn := none, who := p }
    s.turn = some (.issue p st) → c.life = .running → c.act = some a → x.ended = false → x.hold = none → x.pc < c.codeLim →
    c.bad = [] → w = BitVec.ofNat 32 (c.code.load x.pc 4) →
    (sBit w = st → ∀ i, decode w = .ok i → step s = exec i u) ∧
    (sBit w = st → ∀ k, decode w = .error k → step s = exec (.illegalEncoding st w k.number) u) ∧
    (sBit w ≠ st → (fld w 25 6 < 0x10 ∨ 0x13 < fld w 25 6) →
      step s = .next (u.setCore p { c with act := some { a.setStr st { x with pc := x.pc + 4, wait := none } with idle := 0 } })) ∧
    (sBit w ≠ st → ∀ i, decode w = .ok i →
      let o := otherStream st
      let goes (b : Act) (pc : Nat) : Prop := step s = .next (u.setCore p { c with
        act := some { b.setStr st { x with pc := pc, last := x.pc, wait := none } with idle := 0 } })
      let waits : Prop := step s = .next (u.setCore p { c with act := some (a.setStr st { x with wait := some .branchPop }) })
      (∀ f g, branchOf i = some (f, g) → (a.branches o = [] → waits) ∧ ∀ y r, a.branches o = .taken y :: r →
        goes (a.setBranches o r) (if y then (((x.pc : Int) + 4 * f.toInt) % 32768).toNat else x.pc + 4)) ∧
      (∀ d q, i = .jr o q ∨ i = .jalr o d q → (a.branches o = [] → waits) ∧ ∀ y r, a.branches o = .target y :: r →
        goes (a.setBranches o r) y) ∧
      (∀ d q, i = .j o q ∨ i = .jal o d q →
        (4 * q.toNat < c.codeLim → goes a (4 * q.toNat)) ∧ (c.codeLim ≤ 4 * q.toNat → step s = .next u)) ∧
      (i = .done o →
        ((a.str o).ended = false → step s = .next (u.setCore p { c with
          act := some ({ a with idle := 0 }.setStr st { x with ended := true, last := x.pc, hints := {}, wait := none }) })) ∧
        ((a.str o).ended = true → ∃ t, step s = .next t ∧ (t.core p).act = none ∧ (t.core p).life = .running)))) ∧
  ∀ (s : State) (p : Nat) (a : Act) (v w : IWord) (j k : IllegalCause),
    let c := s.core p
    s.turn = some (.both p) → c.life = .running → c.act = some a → a.a.ended = false → a.e.ended = false → a.a.hold = none →
    a.e.hold = none → a.a.pc < c.codeLim → a.e.pc < c.codeLim → c.bad = [] → c.pair = none →
    v = BitVec.ofNat 32 (c.code.load a.a.pc 4) → w = BitVec.ofNat 32 (c.code.load a.e.pc 4) → sBit v = .a → sBit w = .e →
    decode v = .error j → decode w = .error k →
    ∃ t n r, step s = .next t ∧ (t.core p).life = .frozen ∧ (t.core p).act = some a ∧
      Reported s t p (fun r => r.serial = n ∧ r.kind = 1 ∧ r.stream = 0 ∧ r.pc = a.a.pc) ∧
      (r, true) ∈ t.recWait ∧ r.serial = (n + 1) % 2 ^ 32 ∧ r.kind = 1 ∧ r.stream = 1 ∧ r.pc = a.e.pc ∧ r.frozen = true ∧ r.place = p

/-- Decoding and encoding agree: the word of a well-formed instruction decodes to that instruction, every word of the table has an
encoding, and no event has one (Tables 04.1 to 04.9). -/
def Obligations.DecodeEncode : Prop :=
  ∀ i : Instr, (∀ w, i.wellFormed = true → encode i = some w → decode w = .ok i) ∧
    ((encode i).isSome = true ↔ ((needs i).isSome = true ∨ (∃ st n, i = .hintImm st n) ∨ (∃ st n, i = .hintRnd st n) ∨
      (∃ st, i = .hintSat st) ∨ (∃ st n, i = .hintSched st n) ∨ ∃ st, i = .hintNt st))

/-- Memory stays canonical over every step that issues a word, performs an access or passes time, from every state in which
it is; and no word but `rpl` changes a byte of any memory as it issues: storage changes when a queue performs what a word has
asked for. Of the model's own choice: that an unlisted byte reads as 0 (log entry 2). -/
def Obligations.MemoryStaysCanonical : Prop :=
  (∀ (s t : State) (p n : Nat) (st : Stream), s.turn = some (.issue p st) ∨ s.turn = some (.lsu p n) ∨ s.turn = some .tick →
    s.memWf = true → step s = .next t → t.memWf = true) ∧
  ∀ (s t : State) (i : Instr) (n : Need), needs i = some n → i ≠ .rpl → exec i s = .next t → SameMemory s t
end

