-- ==== Sys2Proof/Laws/Mem.lean ====
section
/-! SUPPORT. Sparse maps and byte memories: a read after a write, and the canonical form, which every write keeps. -/

namespace Sys2Proof.Machine

open Sys2Proof

@[simp] theorem mget_mset_same {α : Type} (m : List (Nat × α)) (k : Nat) (v d : α) : mget (mset m k v) k d = v := by
  induction m with
  | nil => simp [mset, mget]
  | cons x r ih =>
    obtain ⟨j, w⟩ := x
    simp only [mset]
    split
    · simp [mget]
    · split <;> simp_all [mget]

@[simp] theorem mget_mset_ne {α : Type} (m : List (Nat × α)) (k l : Nat) (v d : α) (h : l ≠ k) :
    mget (mset m k v) l d = mget m l d := by
  induction m with
  | nil => simp [mset, mget, Ne.symm h]
  | cons x r ih =>
    obtain ⟨j, w⟩ := x
    simp only [mset]
    split
    · subst_vars; simp [mget, Ne.symm h]
    · split
      · simp [mget, Ne.symm h]
      · simp only [mget, ih]

theorem mget_append {α : Type} (m n : List (Nat × α)) (k : Nat) (d : α) (h : ∀ x ∈ m, x.1 ≠ k) :
    mget (m ++ n) k d = mget n k d := by
  induction m with
  | nil => rfl
  | cons x r ih =>
    have h1 : x.1 ≠ k := h x (by simp)
    simp only [List.cons_append, mget, h1, if_false]
    exact ih (fun y hy => h y (by simp [hy]))

theorem mget_append_right {α : Type} (m n : List (Nat × α)) (k : Nat) (d : α) (h : ∀ x ∈ n, x.1 ≠ k) :
    mget (m ++ n) k d = mget m k d := by
  induction m with
  | nil =>
    induction n with
    | nil => rfl
    | cons x r ih =>
      have h1 : x.1 ≠ k := h x (by simp)
      simpa [mget, h1] using ih (fun y hy => h y (by simp [hy]))
  | cons x r ih => simp only [List.cons_append, mget, ih]

theorem mget_filter {α : Type} (m : List (Nat × α)) (p : Nat → Bool) (k : Nat) (d : α) (h : p k = true) :
    mget (m.filter (fun c => p c.1)) k d = mget m k d := by
  induction m with
  | nil => rfl
  | cons x r ih =>
    obtain ⟨j, v⟩ := x
    by_cases hj : j = k
    · subst hj; simp [h, mget]
    · by_cases hp : p j = true
      · simp [hp, mget, hj, ih]
      · simp [hp, mget, hj, ih]

namespace Mem

theorem cells_keys (a : Nat) (bs : List Byte) : ∀ c ∈ cells a bs, a ≤ c.1 ∧ c.1 < a + bs.length ∧ c.2 ≠ 0 := by
  induction bs generalizing a with
  | nil => simp [cells]
  | cons b r ih =>
    intro c hc
    simp only [cells] at hc
    split at hc
    · have := ih (a + 1) c hc
      simp only [List.length_cons]; exact ⟨by omega, by omega, this.2.2⟩
    · rcases List.mem_cons.1 hc with rfl | h
      · rename_i hb; simp only [List.length_cons]; exact ⟨Nat.le_refl _, by omega, hb⟩
      · have := ih (a + 1) c h
        simp only [List.length_cons]; exact ⟨by omega, by omega, this.2.2⟩

theorem mget_cells (a : Nat) (bs : List Byte) (k : Nat) :
    mget (cells a bs) k 0 = if a ≤ k ∧ k < a + bs.length then bs.getD (k - a) 0 else 0 := by
  induction bs generalizing a with
  | nil => simp [cells, mget]
  | cons b r ih =>
    by_cases hk : a = k
    · subst hk
      simp only [cells]
      split
      · rename_i hb
        rw [ih]; simp [hb]; try omega
      · simp [mget]
    · have hd : a ≤ k ∧ k < a + (b :: r).length ↔ a + 1 ≤ k ∧ k < a + 1 + r.length := by
        simp only [List.length_cons]; omega
      simp only [cells]
      have hget : a + 1 ≤ k → (b :: r).getD (k - a) 0 = r.getD (k - (a + 1)) 0 := by
        intro h
        obtain ⟨n, rfl⟩ : ∃ n, k = a + 1 + n := ⟨k - (a + 1), by omega⟩
        have e1 : a + 1 + n - a = n + 1 := by omega
        have e2 : a + 1 + n - (a + 1) = n := by omega
        rw [e1, e2]; simp
      split
      · rw [ih]; simp only [hd]; split
        · rename_i h; rw [hget h.1]
        · rfl
      · simp only [mget, hk, if_false]; rw [ih]; simp only [hd]; split
        · rename_i h; rw [hget h.1]
        · rfl

/-- A read after a write: the byte written, and every other byte as before. -/
theorem read_write (m : Mem) (a : Nat) (bs : List Byte) (k : Nat) :
    (m.write a bs).read k = if a ≤ k ∧ k < a + bs.length then bs.getD (k - a) 0 else m.read k := by
  unfold read write
  by_cases h1 : k < a
  · rw [List.append_assoc, mget_append_right]
    · rw [mget_filter m (fun x => decide (x < a)) k 0 (by simpa using h1)]
      simp; omega
    · intro x hx
      rcases List.mem_append.1 hx with h | h
      · have := cells_keys a bs x h; omega
      · have := (List.mem_filter.1 h).2; simp at this; omega
  · rw [List.append_assoc, mget_append]
    · by_cases h2 : k < a + bs.length
      · rw [mget_append_right, mget_cells]
        · have : a ≤ k := by omega
          simp [this, h2]
        · intro x hx
          have := (List.mem_filter.1 hx).2; simp at this; omega
      · rw [mget_append]
        · rw [mget_filter m (fun x => decide (a + bs.length ≤ x)) k 0 (by simp; omega)]
          simp; omega
        · intro x hx
          have := cells_keys a bs x hx; omega
    · intro x hx
      have := (List.mem_filter.1 hx).2; simp at this; omega

/-- The canonical form: no listed zero, addresses rising. -/
theorem wf_iff (m : Mem) : m.wf = true ↔ (∀ c ∈ m, c.2 ≠ 0) ∧ m.Pairwise (fun x y => x.1 < y.1) := by
  induction m with
  | nil => simp [wf]
  | cons x r ih =>
    cases r with
    | nil => simp [wf]
    | cons y s =>
      simp only [wf, Bool.and_eq_true, bne_iff_ne, ne_eq, decide_eq_true_eq, ih, List.pairwise_cons, List.mem_cons]
      constructor
      · rintro ⟨⟨hx, hxy⟩, hz, hy, hs⟩
        refine ⟨?_, ?_, hy, hs⟩
        · rintro c (rfl | h)
          · exact hx
          · exact hz c h
        · rintro c (rfl | h)
          · exact hxy
          · exact Nat.lt_trans hxy (hy c h)
      · rintro ⟨hz, hx, hy, hs⟩
        exact ⟨⟨hz x (Or.inl rfl), hx y (Or.inl rfl)⟩, fun c h => hz c (Or.inr h), hy, hs⟩

theorem cells_pairwise (a : Nat) (bs : List Byte) : (cells a bs).Pairwise (fun x y => x.1 < y.1) := by
  induction bs generalizing a with
  | nil => simp [cells]
  | cons b r ih =>
    simp only [cells]
    split
    · exact ih _
    · rw [List.pairwise_cons]
      refine ⟨fun c hc => ?_, ih _⟩
      have := cells_keys _ _ c hc
      show a < c.1
      omega

/-- A write keeps the canonical form. -/
theorem wf_write (m : Mem) (a : Nat) (bs : List Byte) (h : m.wf = true) : (m.write a bs).wf = true := by
  rw [wf_iff] at h ⊢
  obtain ⟨hz, hp⟩ := h
  unfold write
  refine ⟨?_, ?_⟩
  · intro c hc
    rcases List.mem_append.1 hc with h | h
    · rcases List.mem_append.1 h with h | h
      · exact hz c (List.mem_filter.1 h).1
      · exact (cells_keys a bs c h).2.2
    · exact hz c (List.mem_filter.1 h).1
  · rw [List.pairwise_append, List.pairwise_append]
    refine ⟨⟨hp.filter _, cells_pairwise a bs, ?_⟩, hp.filter _, ?_⟩
    · intro x hx y hy
      have h1 := (List.mem_filter.1 hx).2
      have h2 := cells_keys a bs y hy
      simp at h1; omega
    · intro x hx y hy
      have h2 := (List.mem_filter.1 hy).2
      simp at h2
      rcases List.mem_append.1 hx with h | h
      · have h1 := (List.mem_filter.1 h).2
        simp at h1; omega
      · have h1 := cells_keys a bs x h
        omega

theorem wf_store (m : Mem) (a n v : Nat) (h : m.wf = true) : (m.store a n v).wf = true := wf_write m a _ h

theorem wf_filter (m : Mem) (p : Host.Cell → Bool) (h : m.wf = true) : wf (m.filter p) = true := by
  rw [wf_iff] at h ⊢
  exact ⟨fun c hc => h.1 c (List.mem_filter.1 hc).1, h.2.filter _⟩

/-- Clearing keeps the canonical form. -/
theorem wf_clear (m : Mem) (a n : Nat) (h : m.wf = true) : (m.clear a n).wf = true := by
  have h' := h
  rw [wf_iff] at h ⊢
  unfold clear
  refine ⟨fun c hc => ?_, ?_⟩
  · rcases List.mem_append.1 hc with g | g <;> exact h.1 c (List.mem_filter.1 g).1
  · rw [List.pairwise_append]
    refine ⟨h.2.filter _, h.2.filter _, fun x hx y hy => ?_⟩
    have h1 := (List.mem_filter.1 hx).2
    have h2 := (List.mem_filter.1 hy).2
    simp at h1 h2; omega

end Mem

end Sys2Proof.Machine
end

