-- ==== Sys2Proof/Laws/State.lean ====
section
/-! SUPPORT. What each update of the state leaves as it was: one lemma for each field and update. -/

namespace Sys2Proof.Machine

open Sys2Proof

/-! ### setCore -/

@[simp] theorem setCore_groups (s : State) (p : Nat) (c : Core) : (s.setCore p c).groups = s.groups := rfl
@[simp] theorem setCore_slices (s : State) (p : Nat) (c : Core) : (s.setCore p c).slices = s.slices := rfl
@[simp] theorem setCore_ctls (s : State) (p : Nat) (c : Core) : (s.setCore p c).ctls = s.ctls := rfl
@[simp] theorem setCore_scheds (s : State) (p : Nat) (c : Core) : (s.setCore p c).scheds = s.scheds := rfl
@[simp] theorem setCore_gangs (s : State) (p : Nat) (c : Core) : (s.setCore p c).gangs = s.gangs := rfl
@[simp] theorem setCore_gangNo (s : State) (p : Nat) (c : Core) : (s.setCore p c).gangNo = s.gangNo := rfl
@[simp] theorem setCore_forks (s : State) (p : Nat) (c : Core) : (s.setCore p c).forks = s.forks := rfl
@[simp] theorem setCore_hbm (s : State) (p : Nat) (c : Core) : (s.setCore p c).hbm = s.hbm := rfl
@[simp] theorem setCore_hbmKeys (s : State) (p : Nat) (c : Core) : (s.setCore p c).hbmKeys = s.hbmKeys := rfl
@[simp] theorem setCore_net (s : State) (p : Nat) (c : Core) : (s.setCore p c).net = s.net := rfl
@[simp] theorem setCore_pktNo (s : State) (p : Nat) (c : Core) : (s.setCore p c).pktNo = s.pktNo := rfl
@[simp] theorem setCore_arbs (s : State) (p : Nat) (c : Core) : (s.setCore p c).arbs = s.arbs := rfl
@[simp] theorem setCore_ports (s : State) (p : Nat) (c : Core) : (s.setCore p c).ports = s.ports := rfl
@[simp] theorem setCore_links (s : State) (p : Nat) (c : Core) : (s.setCore p c).links = s.links := rfl
@[simp] theorem setCore_routes (s : State) (p : Nat) (c : Core) : (s.setCore p c).routes = s.routes := rfl
@[simp] theorem setCore_banks (s : State) (p : Nat) (c : Core) : (s.setCore p c).banks = s.banks := rfl
@[simp] theorem setCore_serials (s : State) (p : Nat) (c : Core) : (s.setCore p c).serials = s.serials := rfl
@[simp] theorem setCore_recFly (s : State) (p : Nat) (c : Core) : (s.setCore p c).recFly = s.recFly := rfl
@[simp] theorem setCore_recWait (s : State) (p : Nat) (c : Core) : (s.setCore p c).recWait = s.recWait := rfl
@[simp] theorem setCore_chip (s : State) (p : Nat) (c : Core) : (s.setCore p c).chip = s.chip := rfl
@[simp] theorem setCore_flash (s : State) (p : Nat) (c : Core) : (s.setCore p c).flash = s.flash := rfl
@[simp] theorem setCore_meas (s : State) (p : Nat) (c : Core) : (s.setCore p c).meas = s.meas := rfl
@[simp] theorem setCore_released (s : State) (p : Nat) (c : Core) : (s.setCore p c).released = s.released := rfl
@[simp] theorem setCore_keyNo (s : State) (p : Nat) (c : Core) : (s.setCore p c).keyNo = s.keyNo := rfl
@[simp] theorem setCore_openAsids (s : State) (p : Nat) (c : Core) : (s.setCore p c).openAsids = s.openAsids := rfl
@[simp] theorem setCore_locked (s : State) (p : Nat) (c : Core) : (s.setCore p c).locked = s.locked := rfl
@[simp] theorem setCore_back (s : State) (p : Nat) (c : Core) : (s.setCore p c).back = s.back := rfl
@[simp] theorem setCore_cap (s : State) (p : Nat) (c : Core) : (s.setCore p c).cap = s.cap := rfl
@[simp] theorem setCore_restraint (s : State) (p : Nat) (c : Core) : (s.setCore p c).restraint = s.restraint := rfl
@[simp] theorem setCore_thermal (s : State) (p : Nat) (c : Core) : (s.setCore p c).thermal = s.thermal := rfl
@[simp] theorem setCore_tripped (s : State) (p : Nat) (c : Core) : (s.setCore p c).tripped = s.tripped := rfl
@[simp] theorem setCore_resetting (s : State) (p : Nat) (c : Core) : (s.setCore p c).resetting = s.resetting := rfl
@[simp] theorem setCore_rpls (s : State) (p : Nat) (c : Core) : (s.setCore p c).rpls = s.rpls := rfl
@[simp] theorem setCore_rpling (s : State) (p : Nat) (c : Core) : (s.setCore p c).rpling = s.rpling := rfl
@[simp] theorem setCore_control (s : State) (p : Nat) (c : Core) : (s.setCore p c).control = s.control := rfl
@[simp] theorem setCore_wrapped (s : State) (p : Nat) (c : Core) : (s.setCore p c).wrapped = s.wrapped := rfl
@[simp] theorem setCore_now (s : State) (p : Nat) (c : Core) : (s.setCore p c).now = s.now := rfl
@[simp] theorem setCore_timers (s : State) (p : Nat) (c : Core) : (s.setCore p c).timers = s.timers := rfl
@[simp] theorem setCore_agenda (s : State) (p : Nat) (c : Core) : (s.setCore p c).agenda = s.agenda := rfl
@[simp] theorem setCore_out (s : State) (p : Nat) (c : Core) : (s.setCore p c).out = s.out := rfl
@[simp] theorem setCore_images (s : State) (p : Nat) (c : Core) : (s.setCore p c).images = s.images := rfl
@[simp] theorem setCore_who (s : State) (p : Nat) (c : Core) : (s.setCore p c).who = s.who := rfl
@[simp] theorem setCore_turn (s : State) (p : Nat) (c : Core) : (s.setCore p c).turn = s.turn := rfl
@[simp] theorem setCore_tape (s : State) (p : Nat) (c : Core) : (s.setCore p c).tape = s.tape := rfl
@[simp] theorem setCore_fresh (s : State) (p : Nat) (c : Core) : (s.setCore p c).fresh = s.fresh := rfl

/-! ### setGroup -/

@[simp] theorem setGroup_cores (s : State) (g : Nat) (x : Group) : (s.setGroup g x).cores = s.cores := rfl
@[simp] theorem setGroup_slices (s : State) (g : Nat) (x : Group) : (s.setGroup g x).slices = s.slices := rfl
@[simp] theorem setGroup_ctls (s : State) (g : Nat) (x : Group) : (s.setGroup g x).ctls = s.ctls := rfl
@[simp] theorem setGroup_scheds (s : State) (g : Nat) (x : Group) : (s.setGroup g x).scheds = s.scheds := rfl
@[simp] theorem setGroup_gangs (s : State) (g : Nat) (x : Group) : (s.setGroup g x).gangs = s.gangs := rfl
@[simp] theorem setGroup_gangNo (s : State) (g : Nat) (x : Group) : (s.setGroup g x).gangNo = s.gangNo := rfl
@[simp] theorem setGroup_forks (s : State) (g : Nat) (x : Group) : (s.setGroup g x).forks = s.forks := rfl
@[simp] theorem setGroup_hbm (s : State) (g : Nat) (x : Group) : (s.setGroup g x).hbm = s.hbm := rfl
@[simp] theorem setGroup_hbmKeys (s : State) (g : Nat) (x : Group) : (s.setGroup g x).hbmKeys = s.hbmKeys := rfl
@[simp] theorem setGroup_net (s : State) (g : Nat) (x : Group) : (s.setGroup g x).net = s.net := rfl
@[simp] theorem setGroup_pktNo (s : State) (g : Nat) (x : Group) : (s.setGroup g x).pktNo = s.pktNo := rfl
@[simp] theorem setGroup_arbs (s : State) (g : Nat) (x : Group) : (s.setGroup g x).arbs = s.arbs := rfl
@[simp] theorem setGroup_ports (s : State) (g : Nat) (x : Group) : (s.setGroup g x).ports = s.ports := rfl
@[simp] theorem setGroup_links (s : State) (g : Nat) (x : Group) : (s.setGroup g x).links = s.links := rfl
@[simp] theorem setGroup_routes (s : State) (g : Nat) (x : Group) : (s.setGroup g x).routes = s.routes := rfl
@[simp] theorem setGroup_banks (s : State) (g : Nat) (x : Group) : (s.setGroup g x).banks = s.banks := rfl
@[simp] theorem setGroup_serials (s : State) (g : Nat) (x : Group) : (s.setGroup g x).serials = s.serials := rfl
@[simp] theorem setGroup_recFly (s : State) (g : Nat) (x : Group) : (s.setGroup g x).recFly = s.recFly := rfl
@[simp] theorem setGroup_recWait (s : State) (g : Nat) (x : Group) : (s.setGroup g x).recWait = s.recWait := rfl
@[simp] theorem setGroup_chip (s : State) (g : Nat) (x : Group) : (s.setGroup g x).chip = s.chip := rfl
@[simp] theorem setGroup_flash (s : State) (g : Nat) (x : Group) : (s.setGroup g x).flash = s.flash := rfl
@[simp] theorem setGroup_meas (s : State) (g : Nat) (x : Group) : (s.setGroup g x).meas = s.meas := rfl
@[simp] theorem setGroup_released (s : State) (g : Nat) (x : Group) : (s.setGroup g x).released = s.released := rfl
@[simp] theorem setGroup_keyNo (s : State) (g : Nat) (x : Group) : (s.setGroup g x).keyNo = s.keyNo := rfl
@[simp] theorem setGroup_openAsids (s : State) (g : Nat) (x : Group) : (s.setGroup g x).openAsids = s.openAsids := rfl
@[simp] theorem setGroup_locked (s : State) (g : Nat) (x : Group) : (s.setGroup g x).locked = s.locked := rfl
@[simp] theorem setGroup_back (s : State) (g : Nat) (x : Group) : (s.setGroup g x).back = s.back := rfl
@[simp] theorem setGroup_cap (s : State) (g : Nat) (x : Group) : (s.setGroup g x).cap = s.cap := rfl
@[simp] theorem setGroup_restraint (s : State) (g : Nat) (x : Group) : (s.setGroup g x).restraint = s.restraint := rfl
@[simp] theorem setGroup_thermal (s : State) (g : Nat) (x : Group) : (s.setGroup g x).thermal = s.thermal := rfl
@[simp] theorem setGroup_tripped (s : State) (g : Nat) (x : Group) : (s.setGroup g x).tripped = s.tripped := rfl
@[simp] theorem setGroup_resetting (s : State) (g : Nat) (x : Group) : (s.setGroup g x).resetting = s.resetting := rfl
@[simp] theorem setGroup_rpls (s : State) (g : Nat) (x : Group) : (s.setGroup g x).rpls = s.rpls := rfl
@[simp] theorem setGroup_rpling (s : State) (g : Nat) (x : Group) : (s.setGroup g x).rpling = s.rpling := rfl
@[simp] theorem setGroup_control (s : State) (g : Nat) (x : Group) : (s.setGroup g x).control = s.control := rfl
@[simp] theorem setGroup_wrapped (s : State) (g : Nat) (x : Group) : (s.setGroup g x).wrapped = s.wrapped := rfl
@[simp] theorem setGroup_now (s : State) (g : Nat) (x : Group) : (s.setGroup g x).now = s.now := rfl
@[simp] theorem setGroup_timers (s : State) (g : Nat) (x : Group) : (s.setGroup g x).timers = s.timers := rfl
@[simp] theorem setGroup_agenda (s : State) (g : Nat) (x : Group) : (s.setGroup g x).agenda = s.agenda := rfl
@[simp] theorem setGroup_out (s : State) (g : Nat) (x : Group) : (s.setGroup g x).out = s.out := rfl
@[simp] theorem setGroup_images (s : State) (g : Nat) (x : Group) : (s.setGroup g x).images = s.images := rfl
@[simp] theorem setGroup_who (s : State) (g : Nat) (x : Group) : (s.setGroup g x).who = s.who := rfl
@[simp] theorem setGroup_turn (s : State) (g : Nat) (x : Group) : (s.setGroup g x).turn = s.turn := rfl
@[simp] theorem setGroup_tape (s : State) (g : Nat) (x : Group) : (s.setGroup g x).tape = s.tape := rfl
@[simp] theorem setGroup_fresh (s : State) (g : Nat) (x : Group) : (s.setGroup g x).fresh = s.fresh := rfl

/-! ### setSlice -/

@[simp] theorem setSlice_cores (s : State) (h : Nat) (x : SliceSt) : (s.setSlice h x).cores = s.cores := rfl
@[simp] theorem setSlice_groups (s : State) (h : Nat) (x : SliceSt) : (s.setSlice h x).groups = s.groups := rfl
@[simp] theorem setSlice_ctls (s : State) (h : Nat) (x : SliceSt) : (s.setSlice h x).ctls = s.ctls := rfl
@[simp] theorem setSlice_scheds (s : State) (h : Nat) (x : SliceSt) : (s.setSlice h x).scheds = s.scheds := rfl
@[simp] theorem setSlice_gangs (s : State) (h : Nat) (x : SliceSt) : (s.setSlice h x).gangs = s.gangs := rfl
@[simp] theorem setSlice_gangNo (s : State) (h : Nat) (x : SliceSt) : (s.setSlice h x).gangNo = s.gangNo := rfl
@[simp] theorem setSlice_forks (s : State) (h : Nat) (x : SliceSt) : (s.setSlice h x).forks = s.forks := rfl
@[simp] theorem setSlice_hbm (s : State) (h : Nat) (x : SliceSt) : (s.setSlice h x).hbm = s.hbm := rfl
@[simp] theorem setSlice_hbmKeys (s : State) (h : Nat) (x : SliceSt) : (s.setSlice h x).hbmKeys = s.hbmKeys := rfl
@[simp] theorem setSlice_net (s : State) (h : Nat) (x : SliceSt) : (s.setSlice h x).net = s.net := rfl
@[simp] theorem setSlice_pktNo (s : State) (h : Nat) (x : SliceSt) : (s.setSlice h x).pktNo = s.pktNo := rfl
@[simp] theorem setSlice_arbs (s : State) (h : Nat) (x : SliceSt) : (s.setSlice h x).arbs = s.arbs := rfl
@[simp] theorem setSlice_ports (s : State) (h : Nat) (x : SliceSt) : (s.setSlice h x).ports = s.ports := rfl
@[simp] theorem setSlice_links (s : State) (h : Nat) (x : SliceSt) : (s.setSlice h x).links = s.links := rfl
@[simp] theorem setSlice_routes (s : State) (h : Nat) (x : SliceSt) : (s.setSlice h x).routes = s.routes := rfl
@[simp] theorem setSlice_banks (s : State) (h : Nat) (x : SliceSt) : (s.setSlice h x).banks = s.banks := rfl
@[simp] theorem setSlice_serials (s : State) (h : Nat) (x : SliceSt) : (s.setSlice h x).serials = s.serials := rfl
@[simp] theorem setSlice_recFly (s : State) (h : Nat) (x : SliceSt) : (s.setSlice h x).recFly = s.recFly := rfl
@[simp] theorem setSlice_recWait (s : State) (h : Nat) (x : SliceSt) : (s.setSlice h x).recWait = s.recWait := rfl
@[simp] theorem setSlice_chip (s : State) (h : Nat) (x : SliceSt) : (s.setSlice h x).chip = s.chip := rfl
@[simp] theorem setSlice_flash (s : State) (h : Nat) (x : SliceSt) : (s.setSlice h x).flash = s.flash := rfl
@[simp] theorem setSlice_meas (s : State) (h : Nat) (x : SliceSt) : (s.setSlice h x).meas = s.meas := rfl
@[simp] theorem setSlice_released (s : State) (h : Nat) (x : SliceSt) : (s.setSlice h x).released = s.released := rfl
@[simp] theorem setSlice_keyNo (s : State) (h : Nat) (x : SliceSt) : (s.setSlice h x).keyNo = s.keyNo := rfl
@[simp] theorem setSlice_openAsids (s : State) (h : Nat) (x : SliceSt) : (s.setSlice h x).openAsids = s.openAsids := rfl
@[simp] theorem setSlice_locked (s : State) (h : Nat) (x : SliceSt) : (s.setSlice h x).locked = s.locked := rfl
@[simp] theorem setSlice_back (s : State) (h : Nat) (x : SliceSt) : (s.setSlice h x).back = s.back := rfl
@[simp] theorem setSlice_cap (s : State) (h : Nat) (x : SliceSt) : (s.setSlice h x).cap = s.cap := rfl
@[simp] theorem setSlice_restraint (s : State) (h : Nat) (x : SliceSt) : (s.setSlice h x).restraint = s.restraint := rfl
@[simp] theorem setSlice_thermal (s : State) (h : Nat) (x : SliceSt) : (s.setSlice h x).thermal = s.thermal := rfl
@[simp] theorem setSlice_tripped (s : State) (h : Nat) (x : SliceSt) : (s.setSlice h x).tripped = s.tripped := rfl
@[simp] theorem setSlice_resetting (s : State) (h : Nat) (x : SliceSt) : (s.setSlice h x).resetting = s.resetting := rfl
@[simp] theorem setSlice_rpls (s : State) (h : Nat) (x : SliceSt) : (s.setSlice h x).rpls = s.rpls := rfl
@[simp] theorem setSlice_rpling (s : State) (h : Nat) (x : SliceSt) : (s.setSlice h x).rpling = s.rpling := rfl
@[simp] theorem setSlice_control (s : State) (h : Nat) (x : SliceSt) : (s.setSlice h x).control = s.control := rfl
@[simp] theorem setSlice_wrapped (s : State) (h : Nat) (x : SliceSt) : (s.setSlice h x).wrapped = s.wrapped := rfl
@[simp] theorem setSlice_now (s : State) (h : Nat) (x : SliceSt) : (s.setSlice h x).now = s.now := rfl
@[simp] theorem setSlice_timers (s : State) (h : Nat) (x : SliceSt) : (s.setSlice h x).timers = s.timers := rfl
@[simp] theorem setSlice_agenda (s : State) (h : Nat) (x : SliceSt) : (s.setSlice h x).agenda = s.agenda := rfl
@[simp] theorem setSlice_out (s : State) (h : Nat) (x : SliceSt) : (s.setSlice h x).out = s.out := rfl
@[simp] theorem setSlice_images (s : State) (h : Nat) (x : SliceSt) : (s.setSlice h x).images = s.images := rfl
@[simp] theorem setSlice_who (s : State) (h : Nat) (x : SliceSt) : (s.setSlice h x).who = s.who := rfl
@[simp] theorem setSlice_turn (s : State) (h : Nat) (x : SliceSt) : (s.setSlice h x).turn = s.turn := rfl
@[simp] theorem setSlice_tape (s : State) (h : Nat) (x : SliceSt) : (s.setSlice h x).tape = s.tape := rfl
@[simp] theorem setSlice_fresh (s : State) (h : Nat) (x : SliceSt) : (s.setSlice h x).fresh = s.fresh := rfl

/-! ### setCtl -/

@[simp] theorem setCtl_cores (s : State) (k : Nat) (x : Ctl) : (s.setCtl k x).cores = s.cores := rfl
@[simp] theorem setCtl_groups (s : State) (k : Nat) (x : Ctl) : (s.setCtl k x).groups = s.groups := rfl
@[simp] theorem setCtl_slices (s : State) (k : Nat) (x : Ctl) : (s.setCtl k x).slices = s.slices := rfl
@[simp] theorem setCtl_scheds (s : State) (k : Nat) (x : Ctl) : (s.setCtl k x).scheds = s.scheds := rfl
@[simp] theorem setCtl_gangs (s : State) (k : Nat) (x : Ctl) : (s.setCtl k x).gangs = s.gangs := rfl
@[simp] theorem setCtl_gangNo (s : State) (k : Nat) (x : Ctl) : (s.setCtl k x).gangNo = s.gangNo := rfl
@[simp] theorem setCtl_forks (s : State) (k : Nat) (x : Ctl) : (s.setCtl k x).forks = s.forks := rfl
@[simp] theorem setCtl_hbm (s : State) (k : Nat) (x : Ctl) : (s.setCtl k x).hbm = s.hbm := rfl
@[simp] theorem setCtl_hbmKeys (s : State) (k : Nat) (x : Ctl) : (s.setCtl k x).hbmKeys = s.hbmKeys := rfl
@[simp] theorem setCtl_net (s : State) (k : Nat) (x : Ctl) : (s.setCtl k x).net = s.net := rfl
@[simp] theorem setCtl_pktNo (s : State) (k : Nat) (x : Ctl) : (s.setCtl k x).pktNo = s.pktNo := rfl
@[simp] theorem setCtl_arbs (s : State) (k : Nat) (x : Ctl) : (s.setCtl k x).arbs = s.arbs := rfl
@[simp] theorem setCtl_ports (s : State) (k : Nat) (x : Ctl) : (s.setCtl k x).ports = s.ports := rfl
@[simp] theorem setCtl_links (s : State) (k : Nat) (x : Ctl) : (s.setCtl k x).links = s.links := rfl
@[simp] theorem setCtl_routes (s : State) (k : Nat) (x : Ctl) : (s.setCtl k x).routes = s.routes := rfl
@[simp] theorem setCtl_banks (s : State) (k : Nat) (x : Ctl) : (s.setCtl k x).banks = s.banks := rfl
@[simp] theorem setCtl_serials (s : State) (k : Nat) (x : Ctl) : (s.setCtl k x).serials = s.serials := rfl
@[simp] theorem setCtl_recFly (s : State) (k : Nat) (x : Ctl) : (s.setCtl k x).recFly = s.recFly := rfl
@[simp] theorem setCtl_recWait (s : State) (k : Nat) (x : Ctl) : (s.setCtl k x).recWait = s.recWait := rfl
@[simp] theorem setCtl_chip (s : State) (k : Nat) (x : Ctl) : (s.setCtl k x).chip = s.chip := rfl
@[simp] theorem setCtl_flash (s : State) (k : Nat) (x : Ctl) : (s.setCtl k x).flash = s.flash := rfl
@[simp] theorem setCtl_meas (s : State) (k : Nat) (x : Ctl) : (s.setCtl k x).meas = s.meas := rfl
@[simp] theorem setCtl_released (s : State) (k : Nat) (x : Ctl) : (s.setCtl k x).released = s.released := rfl
@[simp] theorem setCtl_keyNo (s : State) (k : Nat) (x : Ctl) : (s.setCtl k x).keyNo = s.keyNo := rfl
@[simp] theorem setCtl_openAsids (s : State) (k : Nat) (x : Ctl) : (s.setCtl k x).openAsids = s.openAsids := rfl
@[simp] theorem setCtl_locked (s : State) (k : Nat) (x : Ctl) : (s.setCtl k x).locked = s.locked := rfl
@[simp] theorem setCtl_back (s : State) (k : Nat) (x : Ctl) : (s.setCtl k x).back = s.back := rfl
@[simp] theorem setCtl_cap (s : State) (k : Nat) (x : Ctl) : (s.setCtl k x).cap = s.cap := rfl
@[simp] theorem setCtl_restraint (s : State) (k : Nat) (x : Ctl) : (s.setCtl k x).restraint = s.restraint := rfl
@[simp] theorem setCtl_thermal (s : State) (k : Nat) (x : Ctl) : (s.setCtl k x).thermal = s.thermal := rfl
@[simp] theorem setCtl_tripped (s : State) (k : Nat) (x : Ctl) : (s.setCtl k x).tripped = s.tripped := rfl
@[simp] theorem setCtl_resetting (s : State) (k : Nat) (x : Ctl) : (s.setCtl k x).resetting = s.resetting := rfl
@[simp] theorem setCtl_rpls (s : State) (k : Nat) (x : Ctl) : (s.setCtl k x).rpls = s.rpls := rfl
@[simp] theorem setCtl_rpling (s : State) (k : Nat) (x : Ctl) : (s.setCtl k x).rpling = s.rpling := rfl
@[simp] theorem setCtl_control (s : State) (k : Nat) (x : Ctl) : (s.setCtl k x).control = s.control := rfl
@[simp] theorem setCtl_wrapped (s : State) (k : Nat) (x : Ctl) : (s.setCtl k x).wrapped = s.wrapped := rfl
@[simp] theorem setCtl_now (s : State) (k : Nat) (x : Ctl) : (s.setCtl k x).now = s.now := rfl
@[simp] theorem setCtl_timers (s : State) (k : Nat) (x : Ctl) : (s.setCtl k x).timers = s.timers := rfl
@[simp] theorem setCtl_agenda (s : State) (k : Nat) (x : Ctl) : (s.setCtl k x).agenda = s.agenda := rfl
@[simp] theorem setCtl_out (s : State) (k : Nat) (x : Ctl) : (s.setCtl k x).out = s.out := rfl
@[simp] theorem setCtl_images (s : State) (k : Nat) (x : Ctl) : (s.setCtl k x).images = s.images := rfl
@[simp] theorem setCtl_who (s : State) (k : Nat) (x : Ctl) : (s.setCtl k x).who = s.who := rfl
@[simp] theorem setCtl_turn (s : State) (k : Nat) (x : Ctl) : (s.setCtl k x).turn = s.turn := rfl
@[simp] theorem setCtl_tape (s : State) (k : Nat) (x : Ctl) : (s.setCtl k x).tape = s.tape := rfl
@[simp] theorem setCtl_fresh (s : State) (k : Nat) (x : Ctl) : (s.setCtl k x).fresh = s.fresh := rfl

/-! ### setSched -/

@[simp] theorem setSched_cores (s : State) (d : Nat) (x : Sched) : (s.setSched d x).cores = s.cores := rfl
@[simp] theorem setSched_groups (s : State) (d : Nat) (x : Sched) : (s.setSched d x).groups = s.groups := rfl
@[simp] theorem setSched_slices (s : State) (d : Nat) (x : Sched) : (s.setSched d x).slices = s.slices := rfl
@[simp] theorem setSched_ctls (s : State) (d : Nat) (x : Sched) : (s.setSched d x).ctls = s.ctls := rfl
@[simp] theorem setSched_gangs (s : State) (d : Nat) (x : Sched) : (s.setSched d x).gangs = s.gangs := rfl
@[simp] theorem setSched_gangNo (s : State) (d : Nat) (x : Sched) : (s.setSched d x).gangNo = s.gangNo := rfl
@[simp] theorem setSched_forks (s : State) (d : Nat) (x : Sched) : (s.setSched d x).forks = s.forks := rfl
@[simp] theorem setSched_hbm (s : State) (d : Nat) (x : Sched) : (s.setSched d x).hbm = s.hbm := rfl
@[simp] theorem setSched_hbmKeys (s : State) (d : Nat) (x : Sched) : (s.setSched d x).hbmKeys = s.hbmKeys := rfl
@[simp] theorem setSched_net (s : State) (d : Nat) (x : Sched) : (s.setSched d x).net = s.net := rfl
@[simp] theorem setSched_pktNo (s : State) (d : Nat) (x : Sched) : (s.setSched d x).pktNo = s.pktNo := rfl
@[simp] theorem setSched_arbs (s : State) (d : Nat) (x : Sched) : (s.setSched d x).arbs = s.arbs := rfl
@[simp] theorem setSched_ports (s : State) (d : Nat) (x : Sched) : (s.setSched d x).ports = s.ports := rfl
@[simp] theorem setSched_links (s : State) (d : Nat) (x : Sched) : (s.setSched d x).links = s.links := rfl
@[simp] theorem setSched_routes (s : State) (d : Nat) (x : Sched) : (s.setSched d x).routes = s.routes := rfl
@[simp] theorem setSched_banks (s : State) (d : Nat) (x : Sched) : (s.setSched d x).banks = s.banks := rfl
@[simp] theorem setSched_serials (s : State) (d : Nat) (x : Sched) : (s.setSched d x).serials = s.serials := rfl
@[simp] theorem setSched_recFly (s : State) (d : Nat) (x : Sched) : (s.setSched d x).recFly = s.recFly := rfl
@[simp] theorem setSched_recWait (s : State) (d : Nat) (x : Sched) : (s.setSched d x).recWait = s.recWait := rfl
@[simp] theorem setSched_chip (s : State) (d : Nat) (x : Sched) : (s.setSched d x).chip = s.chip := rfl
@[simp] theorem setSched_flash (s : State) (d : Nat) (x : Sched) : (s.setSched d x).flash = s.flash := rfl
@[simp] theorem setSched_meas (s : State) (d : Nat) (x : Sched) : (s.setSched d x).meas = s.meas := rfl
@[simp] theorem setSched_released (s : State) (d : Nat) (x : Sched) : (s.setSched d x).released = s.released := rfl
@[simp] theorem setSched_keyNo (s : State) (d : Nat) (x : Sched) : (s.setSched d x).keyNo = s.keyNo := rfl
@[simp] theorem setSched_openAsids (s : State) (d : Nat) (x : Sched) : (s.setSched d x).openAsids = s.openAsids := rfl
@[simp] theorem setSched_locked (s : State) (d : Nat) (x : Sched) : (s.setSched d x).locked = s.locked := rfl
@[simp] theorem setSched_back (s : State) (d : Nat) (x : Sched) : (s.setSched d x).back = s.back := rfl
@[simp] theorem setSched_cap (s : State) (d : Nat) (x : Sched) : (s.setSched d x).cap = s.cap := rfl
@[simp] theorem setSched_restraint (s : State) (d : Nat) (x : Sched) : (s.setSched d x).restraint = s.restraint := rfl
@[simp] theorem setSched_thermal (s : State) (d : Nat) (x : Sched) : (s.setSched d x).thermal = s.thermal := rfl
@[simp] theorem setSched_tripped (s : State) (d : Nat) (x : Sched) : (s.setSched d x).tripped = s.tripped := rfl
@[simp] theorem setSched_resetting (s : State) (d : Nat) (x : Sched) : (s.setSched d x).resetting = s.resetting := rfl
@[simp] theorem setSched_rpls (s : State) (d : Nat) (x : Sched) : (s.setSched d x).rpls = s.rpls := rfl
@[simp] theorem setSched_rpling (s : State) (d : Nat) (x : Sched) : (s.setSched d x).rpling = s.rpling := rfl
@[simp] theorem setSched_control (s : State) (d : Nat) (x : Sched) : (s.setSched d x).control = s.control := rfl
@[simp] theorem setSched_wrapped (s : State) (d : Nat) (x : Sched) : (s.setSched d x).wrapped = s.wrapped := rfl
@[simp] theorem setSched_now (s : State) (d : Nat) (x : Sched) : (s.setSched d x).now = s.now := rfl
@[simp] theorem setSched_timers (s : State) (d : Nat) (x : Sched) : (s.setSched d x).timers = s.timers := rfl
@[simp] theorem setSched_agenda (s : State) (d : Nat) (x : Sched) : (s.setSched d x).agenda = s.agenda := rfl
@[simp] theorem setSched_out (s : State) (d : Nat) (x : Sched) : (s.setSched d x).out = s.out := rfl
@[simp] theorem setSched_images (s : State) (d : Nat) (x : Sched) : (s.setSched d x).images = s.images := rfl
@[simp] theorem setSched_who (s : State) (d : Nat) (x : Sched) : (s.setSched d x).who = s.who := rfl
@[simp] theorem setSched_turn (s : State) (d : Nat) (x : Sched) : (s.setSched d x).turn = s.turn := rfl
@[simp] theorem setSched_tape (s : State) (d : Nat) (x : Sched) : (s.setSched d x).tape = s.tape := rfl
@[simp] theorem setSched_fresh (s : State) (d : Nat) (x : Sched) : (s.setSched d x).fresh = s.fresh := rfl

/-! ### setFork -/

@[simp] theorem setFork_cores (s : State) (u : Nat) (x : ForkUnit) : (s.setFork u x).cores = s.cores := rfl
@[simp] theorem setFork_groups (s : State) (u : Nat) (x : ForkUnit) : (s.setFork u x).groups = s.groups := rfl
@[simp] theorem setFork_slices (s : State) (u : Nat) (x : ForkUnit) : (s.setFork u x).slices = s.slices := rfl
@[simp] theorem setFork_ctls (s : State) (u : Nat) (x : ForkUnit) : (s.setFork u x).ctls = s.ctls := rfl
@[simp] theorem setFork_scheds (s : State) (u : Nat) (x : ForkUnit) : (s.setFork u x).scheds = s.scheds := rfl
@[simp] theorem setFork_gangs (s : State) (u : Nat) (x : ForkUnit) : (s.setFork u x).gangs = s.gangs := rfl
@[simp] theorem setFork_gangNo (s : State) (u : Nat) (x : ForkUnit) : (s.setFork u x).gangNo = s.gangNo := rfl
@[simp] theorem setFork_hbm (s : State) (u : Nat) (x : ForkUnit) : (s.setFork u x).hbm = s.hbm := rfl
@[simp] theorem setFork_hbmKeys (s : State) (u : Nat) (x : ForkUnit) : (s.setFork u x).hbmKeys = s.hbmKeys := rfl
@[simp] theorem setFork_net (s : State) (u : Nat) (x : ForkUnit) : (s.setFork u x).net = s.net := rfl
@[simp] theorem setFork_pktNo (s : State) (u : Nat) (x : ForkUnit) : (s.setFork u x).pktNo = s.pktNo := rfl
@[simp] theorem setFork_arbs (s : State) (u : Nat) (x : ForkUnit) : (s.setFork u x).arbs = s.arbs := rfl
@[simp] theorem setFork_ports (s : State) (u : Nat) (x : ForkUnit) : (s.setFork u x).ports = s.ports := rfl
@[simp] theorem setFork_links (s : State) (u : Nat) (x : ForkUnit) : (s.setFork u x).links = s.links := rfl
@[simp] theorem setFork_routes (s : State) (u : Nat) (x : ForkUnit) : (s.setFork u x).routes = s.routes := rfl
@[simp] theorem setFork_banks (s : State) (u : Nat) (x : ForkUnit) : (s.setFork u x).banks = s.banks := rfl
@[simp] theorem setFork_serials (s : State) (u : Nat) (x : ForkUnit) : (s.setFork u x).serials = s.serials := rfl
@[simp] theorem setFork_recFly (s : State) (u : Nat) (x : ForkUnit) : (s.setFork u x).recFly = s.recFly := rfl
@[simp] theorem setFork_recWait (s : State) (u : Nat) (x : ForkUnit) : (s.setFork u x).recWait = s.recWait := rfl
@[simp] theorem setFork_chip (s : State) (u : Nat) (x : ForkUnit) : (s.setFork u x).chip = s.chip := rfl
@[simp] theorem setFork_flash (s : State) (u : Nat) (x : ForkUnit) : (s.setFork u x).flash = s.flash := rfl
@[simp] theorem setFork_meas (s : State) (u : Nat) (x : ForkUnit) : (s.setFork u x).meas = s.meas := rfl
@[simp] theorem setFork_released (s : State) (u : Nat) (x : ForkUnit) : (s.setFork u x).released = s.released := rfl
@[simp] theorem setFork_keyNo (s : State) (u : Nat) (x : ForkUnit) : (s.setFork u x).keyNo = s.keyNo := rfl
@[simp] theorem setFork_openAsids (s : State) (u : Nat) (x : ForkUnit) : (s.setFork u x).openAsids = s.openAsids := rfl
@[simp] theorem setFork_locked (s : State) (u : Nat) (x : ForkUnit) : (s.setFork u x).locked = s.locked := rfl
@[simp] theorem setFork_back (s : State) (u : Nat) (x : ForkUnit) : (s.setFork u x).back = s.back := rfl
@[simp] theorem setFork_cap (s : State) (u : Nat) (x : ForkUnit) : (s.setFork u x).cap = s.cap := rfl
@[simp] theorem setFork_restraint (s : State) (u : Nat) (x : ForkUnit) : (s.setFork u x).restraint = s.restraint := rfl
@[simp] theorem setFork_thermal (s : State) (u : Nat) (x : ForkUnit) : (s.setFork u x).thermal = s.thermal := rfl
@[simp] theorem setFork_tripped (s : State) (u : Nat) (x : ForkUnit) : (s.setFork u x).tripped = s.tripped := rfl
@[simp] theorem setFork_resetting (s : State) (u : Nat) (x : ForkUnit) : (s.setFork u x).resetting = s.resetting := rfl
@[simp] theorem setFork_rpls (s : State) (u : Nat) (x : ForkUnit) : (s.setFork u x).rpls = s.rpls := rfl
@[simp] theorem setFork_rpling (s : State) (u : Nat) (x : ForkUnit) : (s.setFork u x).rpling = s.rpling := rfl
@[simp] theorem setFork_control (s : State) (u : Nat) (x : ForkUnit) : (s.setFork u x).control = s.control := rfl
@[simp] theorem setFork_wrapped (s : State) (u : Nat) (x : ForkUnit) : (s.setFork u x).wrapped = s.wrapped := rfl
@[simp] theorem setFork_now (s : State) (u : Nat) (x : ForkUnit) : (s.setFork u x).now = s.now := rfl
@[simp] theorem setFork_timers (s : State) (u : Nat) (x : ForkUnit) : (s.setFork u x).timers = s.timers := rfl
@[simp] theorem setFork_agenda (s : State) (u : Nat) (x : ForkUnit) : (s.setFork u x).agenda = s.agenda := rfl
@[simp] theorem setFork_out (s : State) (u : Nat) (x : ForkUnit) : (s.setFork u x).out = s.out := rfl
@[simp] theorem setFork_images (s : State) (u : Nat) (x : ForkUnit) : (s.setFork u x).images = s.images := rfl
@[simp] theorem setFork_who (s : State) (u : Nat) (x : ForkUnit) : (s.setFork u x).who = s.who := rfl
@[simp] theorem setFork_turn (s : State) (u : Nat) (x : ForkUnit) : (s.setFork u x).turn = s.turn := rfl
@[simp] theorem setFork_tape (s : State) (u : Nat) (x : ForkUnit) : (s.setFork u x).tape = s.tape := rfl
@[simp] theorem setFork_fresh (s : State) (u : Nat) (x : ForkUnit) : (s.setFork u x).fresh = s.fresh := rfl

/-! ### setPort -/

@[simp] theorem setPort_cores (s : State) (n : Nat) (x : Port) : (s.setPort n x).cores = s.cores := rfl
@[simp] theorem setPort_groups (s : State) (n : Nat) (x : Port) : (s.setPort n x).groups = s.groups := rfl
@[simp] theorem setPort_slices (s : State) (n : Nat) (x : Port) : (s.setPort n x).slices = s.slices := rfl
@[simp] theorem setPort_ctls (s : State) (n : Nat) (x : Port) : (s.setPort n x).ctls = s.ctls := rfl
@[simp] theorem setPort_scheds (s : State) (n : Nat) (x : Port) : (s.setPort n x).scheds = s.scheds := rfl
@[simp] theorem setPort_gangs (s : State) (n : Nat) (x : Port) : (s.setPort n x).gangs = s.gangs := rfl
@[simp] theorem setPort_gangNo (s : State) (n : Nat) (x : Port) : (s.setPort n x).gangNo = s.gangNo := rfl
@[simp] theorem setPort_forks (s : State) (n : Nat) (x : Port) : (s.setPort n x).forks = s.forks := rfl
@[simp] theorem setPort_hbm (s : State) (n : Nat) (x : Port) : (s.setPort n x).hbm = s.hbm := rfl
@[simp] theorem setPort_hbmKeys (s : State) (n : Nat) (x : Port) : (s.setPort n x).hbmKeys = s.hbmKeys := rfl
@[simp] theorem setPort_net (s : State) (n : Nat) (x : Port) : (s.setPort n x).net = s.net := rfl
@[simp] theorem setPort_pktNo (s : State) (n : Nat) (x : Port) : (s.setPort n x).pktNo = s.pktNo := rfl
@[simp] theorem setPort_arbs (s : State) (n : Nat) (x : Port) : (s.setPort n x).arbs = s.arbs := rfl
@[simp] theorem setPort_links (s : State) (n : Nat) (x : Port) : (s.setPort n x).links = s.links := rfl
@[simp] theorem setPort_routes (s : State) (n : Nat) (x : Port) : (s.setPort n x).routes = s.routes := rfl
@[simp] theorem setPort_banks (s : State) (n : Nat) (x : Port) : (s.setPort n x).banks = s.banks := rfl
@[simp] theorem setPort_serials (s : State) (n : Nat) (x : Port) : (s.setPort n x).serials = s.serials := rfl
@[simp] theorem setPort_recFly (s : State) (n : Nat) (x : Port) : (s.setPort n x).recFly = s.recFly := rfl
@[simp] theorem setPort_recWait (s : State) (n : Nat) (x : Port) : (s.setPort n x).recWait = s.recWait := rfl
@[simp] theorem setPort_chip (s : State) (n : Nat) (x : Port) : (s.setPort n x).chip = s.chip := rfl
@[simp] theorem setPort_flash (s : State) (n : Nat) (x : Port) : (s.setPort n x).flash = s.flash := rfl
@[simp] theorem setPort_meas (s : State) (n : Nat) (x : Port) : (s.setPort n x).meas = s.meas := rfl
@[simp] theorem setPort_released (s : State) (n : Nat) (x : Port) : (s.setPort n x).released = s.released := rfl
@[simp] theorem setPort_keyNo (s : State) (n : Nat) (x : Port) : (s.setPort n x).keyNo = s.keyNo := rfl
@[simp] theorem setPort_openAsids (s : State) (n : Nat) (x : Port) : (s.setPort n x).openAsids = s.openAsids := rfl
@[simp] theorem setPort_locked (s : State) (n : Nat) (x : Port) : (s.setPort n x).locked = s.locked := rfl
@[simp] theorem setPort_back (s : State) (n : Nat) (x : Port) : (s.setPort n x).back = s.back := rfl
@[simp] theorem setPort_cap (s : State) (n : Nat) (x : Port) : (s.setPort n x).cap = s.cap := rfl
@[simp] theorem setPort_restraint (s : State) (n : Nat) (x : Port) : (s.setPort n x).restraint = s.restraint := rfl
@[simp] theorem setPort_thermal (s : State) (n : Nat) (x : Port) : (s.setPort n x).thermal = s.thermal := rfl
@[simp] theorem setPort_tripped (s : State) (n : Nat) (x : Port) : (s.setPort n x).tripped = s.tripped := rfl
@[simp] theorem setPort_resetting (s : State) (n : Nat) (x : Port) : (s.setPort n x).resetting = s.resetting := rfl
@[simp] theorem setPort_rpls (s : State) (n : Nat) (x : Port) : (s.setPort n x).rpls = s.rpls := rfl
@[simp] theorem setPort_rpling (s : State) (n : Nat) (x : Port) : (s.setPort n x).rpling = s.rpling := rfl
@[simp] theorem setPort_control (s : State) (n : Nat) (x : Port) : (s.setPort n x).control = s.control := rfl
@[simp] theorem setPort_wrapped (s : State) (n : Nat) (x : Port) : (s.setPort n x).wrapped = s.wrapped := rfl
@[simp] theorem setPort_now (s : State) (n : Nat) (x : Port) : (s.setPort n x).now = s.now := rfl
@[simp] theorem setPort_timers (s : State) (n : Nat) (x : Port) : (s.setPort n x).timers = s.timers := rfl
@[simp] theorem setPort_agenda (s : State) (n : Nat) (x : Port) : (s.setPort n x).agenda = s.agenda := rfl
@[simp] theorem setPort_out (s : State) (n : Nat) (x : Port) : (s.setPort n x).out = s.out := rfl
@[simp] theorem setPort_images (s : State) (n : Nat) (x : Port) : (s.setPort n x).images = s.images := rfl
@[simp] theorem setPort_who (s : State) (n : Nat) (x : Port) : (s.setPort n x).who = s.who := rfl
@[simp] theorem setPort_turn (s : State) (n : Nat) (x : Port) : (s.setPort n x).turn = s.turn := rfl
@[simp] theorem setPort_tape (s : State) (n : Nat) (x : Port) : (s.setPort n x).tape = s.tape := rfl
@[simp] theorem setPort_fresh (s : State) (n : Nat) (x : Port) : (s.setPort n x).fresh = s.fresh := rfl

/-! ### setLink -/

@[simp] theorem setLink_cores (s : State) (n : Nat) (x : Link) : (s.setLink n x).cores = s.cores := rfl
@[simp] theorem setLink_groups (s : State) (n : Nat) (x : Link) : (s.setLink n x).groups = s.groups := rfl
@[simp] theorem setLink_slices (s : State) (n : Nat) (x : Link) : (s.setLink n x).slices = s.slices := rfl
@[simp] theorem setLink_ctls (s : State) (n : Nat) (x : Link) : (s.setLink n x).ctls = s.ctls := rfl
@[simp] theorem setLink_scheds (s : State) (n : Nat) (x : Link) : (s.setLink n x).scheds = s.scheds := rfl
@[simp] theorem setLink_gangs (s : State) (n : Nat) (x : Link) : (s.setLink n x).gangs = s.gangs := rfl
@[simp] theorem setLink_gangNo (s : State) (n : Nat) (x : Link) : (s.setLink n x).gangNo = s.gangNo := rfl
@[simp] theorem setLink_forks (s : State) (n : Nat) (x : Link) : (s.setLink n x).forks = s.forks := rfl
@[simp] theorem setLink_hbm (s : State) (n : Nat) (x : Link) : (s.setLink n x).hbm = s.hbm := rfl
@[simp] theorem setLink_hbmKeys (s : State) (n : Nat) (x : Link) : (s.setLink n x).hbmKeys = s.hbmKeys := rfl
@[simp] theorem setLink_net (s : State) (n : Nat) (x : Link) : (s.setLink n x).net = s.net := rfl
@[simp] theorem setLink_pktNo (s : State) (n : Nat) (x : Link) : (s.setLink n x).pktNo = s.pktNo := rfl
@[simp] theorem setLink_arbs (s : State) (n : Nat) (x : Link) : (s.setLink n x).arbs = s.arbs := rfl
@[simp] theorem setLink_ports (s : State) (n : Nat) (x : Link) : (s.setLink n x).ports = s.ports := rfl
@[simp] theorem setLink_routes (s : State) (n : Nat) (x : Link) : (s.setLink n x).routes = s.routes := rfl
@[simp] theorem setLink_banks (s : State) (n : Nat) (x : Link) : (s.setLink n x).banks = s.banks := rfl
@[simp] theorem setLink_serials (s : State) (n : Nat) (x : Link) : (s.setLink n x).serials = s.serials := rfl
@[simp] theorem setLink_recFly (s : State) (n : Nat) (x : Link) : (s.setLink n x).recFly = s.recFly := rfl
@[simp] theorem setLink_recWait (s : State) (n : Nat) (x : Link) : (s.setLink n x).recWait = s.recWait := rfl
@[simp] theorem setLink_chip (s : State) (n : Nat) (x : Link) : (s.setLink n x).chip = s.chip := rfl
@[simp] theorem setLink_flash (s : State) (n : Nat) (x : Link) : (s.setLink n x).flash = s.flash := rfl
@[simp] theorem setLink_meas (s : State) (n : Nat) (x : Link) : (s.setLink n x).meas = s.meas := rfl
@[simp] theorem setLink_released (s : State) (n : Nat) (x : Link) : (s.setLink n x).released = s.released := rfl
@[simp] theorem setLink_keyNo (s : State) (n : Nat) (x : Link) : (s.setLink n x).keyNo = s.keyNo := rfl
@[simp] theorem setLink_openAsids (s : State) (n : Nat) (x : Link) : (s.setLink n x).openAsids = s.openAsids := rfl
@[simp] theorem setLink_locked (s : State) (n : Nat) (x : Link) : (s.setLink n x).locked = s.locked := rfl
@[simp] theorem setLink_back (s : State) (n : Nat) (x : Link) : (s.setLink n x).back = s.back := rfl
@[simp] theorem setLink_cap (s : State) (n : Nat) (x : Link) : (s.setLink n x).cap = s.cap := rfl
@[simp] theorem setLink_restraint (s : State) (n : Nat) (x : Link) : (s.setLink n x).restraint = s.restraint := rfl
@[simp] theorem setLink_thermal (s : State) (n : Nat) (x : Link) : (s.setLink n x).thermal = s.thermal := rfl
@[simp] theorem setLink_tripped (s : State) (n : Nat) (x : Link) : (s.setLink n x).tripped = s.tripped := rfl
@[simp] theorem setLink_resetting (s : State) (n : Nat) (x : Link) : (s.setLink n x).resetting = s.resetting := rfl
@[simp] theorem setLink_rpls (s : State) (n : Nat) (x : Link) : (s.setLink n x).rpls = s.rpls := rfl
@[simp] theorem setLink_rpling (s : State) (n : Nat) (x : Link) : (s.setLink n x).rpling = s.rpling := rfl
@[simp] theorem setLink_control (s : State) (n : Nat) (x : Link) : (s.setLink n x).control = s.control := rfl
@[simp] theorem setLink_wrapped (s : State) (n : Nat) (x : Link) : (s.setLink n x).wrapped = s.wrapped := rfl
@[simp] theorem setLink_now (s : State) (n : Nat) (x : Link) : (s.setLink n x).now = s.now := rfl
@[simp] theorem setLink_timers (s : State) (n : Nat) (x : Link) : (s.setLink n x).timers = s.timers := rfl
@[simp] theorem setLink_agenda (s : State) (n : Nat) (x : Link) : (s.setLink n x).agenda = s.agenda := rfl
@[simp] theorem setLink_out (s : State) (n : Nat) (x : Link) : (s.setLink n x).out = s.out := rfl
@[simp] theorem setLink_images (s : State) (n : Nat) (x : Link) : (s.setLink n x).images = s.images := rfl
@[simp] theorem setLink_who (s : State) (n : Nat) (x : Link) : (s.setLink n x).who = s.who := rfl
@[simp] theorem setLink_turn (s : State) (n : Nat) (x : Link) : (s.setLink n x).turn = s.turn := rfl
@[simp] theorem setLink_tape (s : State) (n : Nat) (x : Link) : (s.setLink n x).tape = s.tape := rfl
@[simp] theorem setLink_fresh (s : State) (n : Nat) (x : Link) : (s.setLink n x).fresh = s.fresh := rfl

/-! ### post -/

@[simp] theorem post_cores (s : State) (e : Event) : (s.post e).cores = s.cores := rfl
@[simp] theorem post_groups (s : State) (e : Event) : (s.post e).groups = s.groups := rfl
@[simp] theorem post_slices (s : State) (e : Event) : (s.post e).slices = s.slices := rfl
@[simp] theorem post_ctls (s : State) (e : Event) : (s.post e).ctls = s.ctls := rfl
@[simp] theorem post_scheds (s : State) (e : Event) : (s.post e).scheds = s.scheds := rfl
@[simp] theorem post_gangs (s : State) (e : Event) : (s.post e).gangs = s.gangs := rfl
@[simp] theorem post_gangNo (s : State) (e : Event) : (s.post e).gangNo = s.gangNo := rfl
@[simp] theorem post_forks (s : State) (e : Event) : (s.post e).forks = s.forks := rfl
@[simp] theorem post_hbm (s : State) (e : Event) : (s.post e).hbm = s.hbm := rfl
@[simp] theorem post_hbmKeys (s : State) (e : Event) : (s.post e).hbmKeys = s.hbmKeys := rfl
@[simp] theorem post_net (s : State) (e : Event) : (s.post e).net = s.net := rfl
@[simp] theorem post_pktNo (s : State) (e : Event) : (s.post e).pktNo = s.pktNo := rfl
@[simp] theorem post_arbs (s : State) (e : Event) : (s.post e).arbs = s.arbs := rfl
@[simp] theorem post_ports (s : State) (e : Event) : (s.post e).ports = s.ports := rfl
@[simp] theorem post_links (s : State) (e : Event) : (s.post e).links = s.links := rfl
@[simp] theorem post_routes (s : State) (e : Event) : (s.post e).routes = s.routes := rfl
@[simp] theorem post_banks (s : State) (e : Event) : (s.post e).banks = s.banks := rfl
@[simp] theorem post_serials (s : State) (e : Event) : (s.post e).serials = s.serials := rfl
@[simp] theorem post_recFly (s : State) (e : Event) : (s.post e).recFly = s.recFly := rfl
@[simp] theorem post_recWait (s : State) (e : Event) : (s.post e).recWait = s.recWait := rfl
@[simp] theorem post_chip (s : State) (e : Event) : (s.post e).chip = s.chip := rfl
@[simp] theorem post_flash (s : State) (e : Event) : (s.post e).flash = s.flash := rfl
@[simp] theorem post_meas (s : State) (e : Event) : (s.post e).meas = s.meas := rfl
@[simp] theorem post_released (s : State) (e : Event) : (s.post e).released = s.released := rfl
@[simp] theorem post_keyNo (s : State) (e : Event) : (s.post e).keyNo = s.keyNo := rfl
@[simp] theorem post_openAsids (s : State) (e : Event) : (s.post e).openAsids = s.openAsids := rfl
@[simp] theorem post_locked (s : State) (e : Event) : (s.post e).locked = s.locked := rfl
@[simp] theorem post_back (s : State) (e : Event) : (s.post e).back = s.back := rfl
@[simp] theorem post_cap (s : State) (e : Event) : (s.post e).cap = s.cap := rfl
@[simp] theorem post_restraint (s : State) (e : Event) : (s.post e).restraint = s.restraint := rfl
@[simp] theorem post_thermal (s : State) (e : Event) : (s.post e).thermal = s.thermal := rfl
@[simp] theorem post_tripped (s : State) (e : Event) : (s.post e).tripped = s.tripped := rfl
@[simp] theorem post_resetting (s : State) (e : Event) : (s.post e).resetting = s.resetting := rfl
@[simp] theorem post_rpls (s : State) (e : Event) : (s.post e).rpls = s.rpls := rfl
@[simp] theorem post_rpling (s : State) (e : Event) : (s.post e).rpling = s.rpling := rfl
@[simp] theorem post_control (s : State) (e : Event) : (s.post e).control = s.control := rfl
@[simp] theorem post_wrapped (s : State) (e : Event) : (s.post e).wrapped = s.wrapped := rfl
@[simp] theorem post_now (s : State) (e : Event) : (s.post e).now = s.now := rfl
@[simp] theorem post_timers (s : State) (e : Event) : (s.post e).timers = s.timers := rfl
@[simp] theorem post_out (s : State) (e : Event) : (s.post e).out = s.out := rfl
@[simp] theorem post_images (s : State) (e : Event) : (s.post e).images = s.images := rfl
@[simp] theorem post_who (s : State) (e : Event) : (s.post e).who = s.who := rfl
@[simp] theorem post_turn (s : State) (e : Event) : (s.post e).turn = s.turn := rfl
@[simp] theorem post_tape (s : State) (e : Event) : (s.post e).tape = s.tape := rfl
@[simp] theorem post_fresh (s : State) (e : Event) : (s.post e).fresh = s.fresh := rfl

/-! ### emit -/

@[simp] theorem emit_cores (s : State) (m : OutMsg) : (s.emit m).cores = s.cores := rfl
@[simp] theorem emit_groups (s : State) (m : OutMsg) : (s.emit m).groups = s.groups := rfl
@[simp] theorem emit_slices (s : State) (m : OutMsg) : (s.emit m).slices = s.slices := rfl
@[simp] theorem emit_ctls (s : State) (m : OutMsg) : (s.emit m).ctls = s.ctls := rfl
@[simp] theorem emit_scheds (s : State) (m : OutMsg) : (s.emit m).scheds = s.scheds := rfl
@[simp] theorem emit_gangs (s : State) (m : OutMsg) : (s.emit m).gangs = s.gangs := rfl
@[simp] theorem emit_gangNo (s : State) (m : OutMsg) : (s.emit m).gangNo = s.gangNo := rfl
@[simp] theorem emit_forks (s : State) (m : OutMsg) : (s.emit m).forks = s.forks := rfl
@[simp] theorem emit_hbm (s : State) (m : OutMsg) : (s.emit m).hbm = s.hbm := rfl
@[simp] theorem emit_hbmKeys (s : State) (m : OutMsg) : (s.emit m).hbmKeys = s.hbmKeys := rfl
@[simp] theorem emit_net (s : State) (m : OutMsg) : (s.emit m).net = s.net := rfl
@[simp] theorem emit_pktNo (s : State) (m : OutMsg) : (s.emit m).pktNo = s.pktNo := rfl
@[simp] theorem emit_arbs (s : State) (m : OutMsg) : (s.emit m).arbs = s.arbs := rfl
@[simp] theorem emit_ports (s : State) (m : OutMsg) : (s.emit m).ports = s.ports := rfl
@[simp] theorem emit_links (s : State) (m : OutMsg) : (s.emit m).links = s.links := rfl
@[simp] theorem emit_routes (s : State) (m : OutMsg) : (s.emit m).routes = s.routes := rfl
@[simp] theorem emit_banks (s : State) (m : OutMsg) : (s.emit m).banks = s.banks := rfl
@[simp] theorem emit_serials (s : State) (m : OutMsg) : (s.emit m).serials = s.serials := rfl
@[simp] theorem emit_recFly (s : State) (m : OutMsg) : (s.emit m).recFly = s.recFly := rfl
@[simp] theorem emit_recWait (s : State) (m : OutMsg) : (s.emit m).recWait = s.recWait := rfl
@[simp] theorem emit_chip (s : State) (m : OutMsg) : (s.emit m).chip = s.chip := rfl
@[simp] theorem emit_flash (s : State) (m : OutMsg) : (s.emit m).flash = s.flash := rfl
@[simp] theorem emit_meas (s : State) (m : OutMsg) : (s.emit m).meas = s.meas := rfl
@[simp] theorem emit_released (s : State) (m : OutMsg) : (s.emit m).released = s.released := rfl
@[simp] theorem emit_keyNo (s : State) (m : OutMsg) : (s.emit m).keyNo = s.keyNo := rfl
@[simp] theorem emit_openAsids (s : State) (m : OutMsg) : (s.emit m).openAsids = s.openAsids := rfl
@[simp] theorem emit_locked (s : State) (m : OutMsg) : (s.emit m).locked = s.locked := rfl
@[simp] theorem emit_back (s : State) (m : OutMsg) : (s.emit m).back = s.back := rfl
@[simp] theorem emit_cap (s : State) (m : OutMsg) : (s.emit m).cap = s.cap := rfl
@[simp] theorem emit_restraint (s : State) (m : OutMsg) : (s.emit m).restraint = s.restraint := rfl
@[simp] theorem emit_thermal (s : State) (m : OutMsg) : (s.emit m).thermal = s.thermal := rfl
@[simp] theorem emit_tripped (s : State) (m : OutMsg) : (s.emit m).tripped = s.tripped := rfl
@[simp] theorem emit_resetting (s : State) (m : OutMsg) : (s.emit m).resetting = s.resetting := rfl
@[simp] theorem emit_rpls (s : State) (m : OutMsg) : (s.emit m).rpls = s.rpls := rfl
@[simp] theorem emit_rpling (s : State) (m : OutMsg) : (s.emit m).rpling = s.rpling := rfl
@[simp] theorem emit_control (s : State) (m : OutMsg) : (s.emit m).control = s.control := rfl
@[simp] theorem emit_wrapped (s : State) (m : OutMsg) : (s.emit m).wrapped = s.wrapped := rfl
@[simp] theorem emit_now (s : State) (m : OutMsg) : (s.emit m).now = s.now := rfl
@[simp] theorem emit_timers (s : State) (m : OutMsg) : (s.emit m).timers = s.timers := rfl
@[simp] theorem emit_agenda (s : State) (m : OutMsg) : (s.emit m).agenda = s.agenda := rfl
@[simp] theorem emit_images (s : State) (m : OutMsg) : (s.emit m).images = s.images := rfl
@[simp] theorem emit_who (s : State) (m : OutMsg) : (s.emit m).who = s.who := rfl
@[simp] theorem emit_turn (s : State) (m : OutMsg) : (s.emit m).turn = s.turn := rfl
@[simp] theorem emit_tape (s : State) (m : OutMsg) : (s.emit m).tape = s.tape := rfl
@[simp] theorem emit_fresh (s : State) (m : OutMsg) : (s.emit m).fresh = s.fresh := rfl

/-! ### after -/

@[simp] theorem after_cores (s : State) (d : Nat) (e : Event) : (s.after d e).cores = s.cores := rfl
@[simp] theorem after_groups (s : State) (d : Nat) (e : Event) : (s.after d e).groups = s.groups := rfl
@[simp] theorem after_slices (s : State) (d : Nat) (e : Event) : (s.after d e).slices = s.slices := rfl
@[simp] theorem after_ctls (s : State) (d : Nat) (e : Event) : (s.after d e).ctls = s.ctls := rfl
@[simp] theorem after_scheds (s : State) (d : Nat) (e : Event) : (s.after d e).scheds = s.scheds := rfl
@[simp] theorem after_gangs (s : State) (d : Nat) (e : Event) : (s.after d e).gangs = s.gangs := rfl
@[simp] theorem after_gangNo (s : State) (d : Nat) (e : Event) : (s.after d e).gangNo = s.gangNo := rfl
@[simp] theorem after_forks (s : State) (d : Nat) (e : Event) : (s.after d e).forks = s.forks := rfl
@[simp] theorem after_hbm (s : State) (d : Nat) (e : Event) : (s.after d e).hbm = s.hbm := rfl
@[simp] theorem after_hbmKeys (s : State) (d : Nat) (e : Event) : (s.after d e).hbmKeys = s.hbmKeys := rfl
@[simp] theorem after_net (s : State) (d : Nat) (e : Event) : (s.after d e).net = s.net := rfl
@[simp] theorem after_pktNo (s : State) (d : Nat) (e : Event) : (s.after d e).pktNo = s.pktNo := rfl
@[simp] theorem after_arbs (s : State) (d : Nat) (e : Event) : (s.after d e).arbs = s.arbs := rfl
@[simp] theorem after_ports (s : State) (d : Nat) (e : Event) : (s.after d e).ports = s.ports := rfl
@[simp] theorem after_links (s : State) (d : Nat) (e : Event) : (s.after d e).links = s.links := rfl
@[simp] theorem after_routes (s : State) (d : Nat) (e : Event) : (s.after d e).routes = s.routes := rfl
@[simp] theorem after_banks (s : State) (d : Nat) (e : Event) : (s.after d e).banks = s.banks := rfl
@[simp] theorem after_serials (s : State) (d : Nat) (e : Event) : (s.after d e).serials = s.serials := rfl
@[simp] theorem after_recFly (s : State) (d : Nat) (e : Event) : (s.after d e).recFly = s.recFly := rfl
@[simp] theorem after_recWait (s : State) (d : Nat) (e : Event) : (s.after d e).recWait = s.recWait := rfl
@[simp] theorem after_chip (s : State) (d : Nat) (e : Event) : (s.after d e).chip = s.chip := rfl
@[simp] theorem after_flash (s : State) (d : Nat) (e : Event) : (s.after d e).flash = s.flash := rfl
@[simp] theorem after_meas (s : State) (d : Nat) (e : Event) : (s.after d e).meas = s.meas := rfl
@[simp] theorem after_released (s : State) (d : Nat) (e : Event) : (s.after d e).released = s.released := rfl
@[simp] theorem after_keyNo (s : State) (d : Nat) (e : Event) : (s.after d e).keyNo = s.keyNo := rfl
@[simp] theorem after_openAsids (s : State) (d : Nat) (e : Event) : (s.after d e).openAsids = s.openAsids := rfl
@[simp] theorem after_locked (s : State) (d : Nat) (e : Event) : (s.after d e).locked = s.locked := rfl
@[simp] theorem after_back (s : State) (d : Nat) (e : Event) : (s.after d e).back = s.back := rfl
@[simp] theorem after_cap (s : State) (d : Nat) (e : Event) : (s.after d e).cap = s.cap := rfl
@[simp] theorem after_restraint (s : State) (d : Nat) (e : Event) : (s.after d e).restraint = s.restraint := rfl
@[simp] theorem after_thermal (s : State) (d : Nat) (e : Event) : (s.after d e).thermal = s.thermal := rfl
@[simp] theorem after_tripped (s : State) (d : Nat) (e : Event) : (s.after d e).tripped = s.tripped := rfl
@[simp] theorem after_resetting (s : State) (d : Nat) (e : Event) : (s.after d e).resetting = s.resetting := rfl
@[simp] theorem after_rpls (s : State) (d : Nat) (e : Event) : (s.after d e).rpls = s.rpls := rfl
@[simp] theorem after_rpling (s : State) (d : Nat) (e : Event) : (s.after d e).rpling = s.rpling := rfl
@[simp] theorem after_control (s : State) (d : Nat) (e : Event) : (s.after d e).control = s.control := rfl
@[simp] theorem after_wrapped (s : State) (d : Nat) (e : Event) : (s.after d e).wrapped = s.wrapped := rfl
@[simp] theorem after_now (s : State) (d : Nat) (e : Event) : (s.after d e).now = s.now := rfl
@[simp] theorem after_agenda (s : State) (d : Nat) (e : Event) : (s.after d e).agenda = s.agenda := rfl
@[simp] theorem after_out (s : State) (d : Nat) (e : Event) : (s.after d e).out = s.out := rfl
@[simp] theorem after_images (s : State) (d : Nat) (e : Event) : (s.after d e).images = s.images := rfl
@[simp] theorem after_who (s : State) (d : Nat) (e : Event) : (s.after d e).who = s.who := rfl
@[simp] theorem after_turn (s : State) (d : Nat) (e : Event) : (s.after d e).turn = s.turn := rfl
@[simp] theorem after_tape (s : State) (d : Nat) (e : Event) : (s.after d e).tape = s.tape := rfl
@[simp] theorem after_fresh (s : State) (d : Nat) (e : Event) : (s.after d e).fresh = s.fresh := rfl

/-! ### inject -/

@[simp] theorem inject_cores (s : State) (k : Pkt) : (s.inject k).cores = s.cores := rfl
@[simp] theorem inject_groups (s : State) (k : Pkt) : (s.inject k).groups = s.groups := rfl
@[simp] theorem inject_slices (s : State) (k : Pkt) : (s.inject k).slices = s.slices := rfl
@[simp] theorem inject_ctls (s : State) (k : Pkt) : (s.inject k).ctls = s.ctls := rfl
@[simp] theorem inject_scheds (s : State) (k : Pkt) : (s.inject k).scheds = s.scheds := rfl
@[simp] theorem inject_gangs (s : State) (k : Pkt) : (s.inject k).gangs = s.gangs := rfl
@[simp] theorem inject_gangNo (s : State) (k : Pkt) : (s.inject k).gangNo = s.gangNo := rfl
@[simp] theorem inject_forks (s : State) (k : Pkt) : (s.inject k).forks = s.forks := rfl
@[simp] theorem inject_hbm (s : State) (k : Pkt) : (s.inject k).hbm = s.hbm := rfl
@[simp] theorem inject_hbmKeys (s : State) (k : Pkt) : (s.inject k).hbmKeys = s.hbmKeys := rfl
@[simp] theorem inject_pktNo (s : State) (k : Pkt) : (s.inject k).pktNo = s.pktNo := rfl
@[simp] theorem inject_arbs (s : State) (k : Pkt) : (s.inject k).arbs = s.arbs := rfl
@[simp] theorem inject_ports (s : State) (k : Pkt) : (s.inject k).ports = s.ports := rfl
@[simp] theorem inject_links (s : State) (k : Pkt) : (s.inject k).links = s.links := rfl
@[simp] theorem inject_routes (s : State) (k : Pkt) : (s.inject k).routes = s.routes := rfl
@[simp] theorem inject_banks (s : State) (k : Pkt) : (s.inject k).banks = s.banks := rfl
@[simp] theorem inject_serials (s : State) (k : Pkt) : (s.inject k).serials = s.serials := rfl
@[simp] theorem inject_recFly (s : State) (k : Pkt) : (s.inject k).recFly = s.recFly := rfl
@[simp] theorem inject_recWait (s : State) (k : Pkt) : (s.inject k).recWait = s.recWait := rfl
@[simp] theorem inject_chip (s : State) (k : Pkt) : (s.inject k).chip = s.chip := rfl
@[simp] theorem inject_flash (s : State) (k : Pkt) : (s.inject k).flash = s.flash := rfl
@[simp] theorem inject_meas (s : State) (k : Pkt) : (s.inject k).meas = s.meas := rfl
@[simp] theorem inject_released (s : State) (k : Pkt) : (s.inject k).released = s.released := rfl
@[simp] theorem inject_keyNo (s : State) (k : Pkt) : (s.inject k).keyNo = s.keyNo := rfl
@[simp] theorem inject_openAsids (s : State) (k : Pkt) : (s.inject k).openAsids = s.openAsids := rfl
@[simp] theorem inject_locked (s : State) (k : Pkt) : (s.inject k).locked = s.locked := rfl
@[simp] theorem inject_back (s : State) (k : Pkt) : (s.inject k).back = s.back := rfl
@[simp] theorem inject_cap (s : State) (k : Pkt) : (s.inject k).cap = s.cap := rfl
@[simp] theorem inject_restraint (s : State) (k : Pkt) : (s.inject k).restraint = s.restraint := rfl
@[simp] theorem inject_thermal (s : State) (k : Pkt) : (s.inject k).thermal = s.thermal := rfl
@[simp] theorem inject_tripped (s : State) (k : Pkt) : (s.inject k).tripped = s.tripped := rfl
@[simp] theorem inject_resetting (s : State) (k : Pkt) : (s.inject k).resetting = s.resetting := rfl
@[simp] theorem inject_rpls (s : State) (k : Pkt) : (s.inject k).rpls = s.rpls := rfl
@[simp] theorem inject_rpling (s : State) (k : Pkt) : (s.inject k).rpling = s.rpling := rfl
@[simp] theorem inject_control (s : State) (k : Pkt) : (s.inject k).control = s.control := rfl
@[simp] theorem inject_wrapped (s : State) (k : Pkt) : (s.inject k).wrapped = s.wrapped := rfl
@[simp] theorem inject_now (s : State) (k : Pkt) : (s.inject k).now = s.now := rfl
@[simp] theorem inject_timers (s : State) (k : Pkt) : (s.inject k).timers = s.timers := rfl
@[simp] theorem inject_agenda (s : State) (k : Pkt) : (s.inject k).agenda = s.agenda := rfl
@[simp] theorem inject_out (s : State) (k : Pkt) : (s.inject k).out = s.out := rfl
@[simp] theorem inject_images (s : State) (k : Pkt) : (s.inject k).images = s.images := rfl
@[simp] theorem inject_who (s : State) (k : Pkt) : (s.inject k).who = s.who := rfl
@[simp] theorem inject_turn (s : State) (k : Pkt) : (s.inject k).turn = s.turn := rfl
@[simp] theorem inject_tape (s : State) (k : Pkt) : (s.inject k).tape = s.tape := rfl
@[simp] theorem inject_fresh (s : State) (k : Pkt) : (s.inject k).fresh = s.fresh := rfl

end Sys2Proof.Machine
end

