-- ==== Sys2Proof/Laws/Ops.lean ====
section
/-! SUPPORT. What the shared operations over the state do: units reached after an update, sending, marking and freezing. -/

namespace Sys2Proof.Machine

open Sys2Proof

@[simp] theorem core_setCore_same (s : State) (p : Nat) (c : Core) : (s.setCore p c).core p = c := by
  simp [State.core, State.setCore]

@[simp] theorem core_setCore_ne (s : State) (p q : Nat) (c : Core) (h : q ≠ p) : (s.setCore p c).core q = s.core q := by
  simp [State.core, State.setCore, h]

theorem core_setCore (s : State) (p q : Nat) (c : Core) : (s.setCore p c).core q = if q = p then c else s.core q := by
  by_cases h : q = p
  · subst h; simp
  · simp [h]

@[simp] theorem core_modCore_same (s : State) (p : Nat) (f : Core → Core) : (s.modCore p f).core p = f (s.core p) := by
  simp [State.modCore]

@[simp] theorem core_modCore_ne (s : State) (p q : Nat) (f : Core → Core) (h : q ≠ p) : (s.modCore p f).core q = s.core q := by
  simp [State.modCore, h]

@[simp] theorem group_setGroup_same (s : State) (g : Nat) (x : Group) : (s.setGroup g x).group g = x := by
  simp [State.group, State.setGroup]

@[simp] theorem group_setGroup_ne (s : State) (g k : Nat) (x : Group) (h : k ≠ g) : (s.setGroup g x).group k = s.group k := by
  simp [State.group, State.setGroup, h]

@[simp] theorem group_setCore (s : State) (p g : Nat) (c : Core) : (s.setCore p c).group g = s.group g := rfl

@[simp] theorem slice_setSlice_same (s : State) (h : Nat) (x : SliceSt) : (s.setSlice h x).slice h = x := by
  simp [State.slice, State.setSlice]

@[simp] theorem ctl_setCtl_same (s : State) (k : Nat) (x : Ctl) : (s.setCtl k x).ctl k = x := by
  simp [State.ctl, State.setCtl]

@[simp] theorem sched_setSched_same (s : State) (d : Nat) (x : Sched) : (s.setSched d x).sched d = x := by
  simp [State.sched, State.setSched]

@[simp] theorem fork_setFork_same (s : State) (u : Nat) (x : ForkUnit) : (s.setFork u x).fork u = x := by
  simp [State.fork, State.setFork]

@[simp] theorem port_setPort_same (s : State) (n : Nat) (x : Port) : (s.setPort n x).port n = x := by
  simp [State.port, State.setPort]

@[simp] theorem link_setLink_same (s : State) (n : Nat) (x : Link) : (s.setLink n x).link n = x := by
  simp [State.link, State.setLink]

/-- A change of one core leaves the others and everything else. -/
theorem setCore_only (s : State) (p : Nat) (c : Core) :
    (∀ q, q ≠ p → (s.setCore p c).core q = s.core q) ∧ { s.setCore p c with cores := s.cores } = s :=
  ⟨fun _ h => by simp [h], rfl⟩

/-- Every write to a core's storage keeps its memories canonical. -/
theorem put_wf (c : Core) (l : Ls) (a : Nat) (bs : List Byte) (x : Ls) (h : ((c.mem x).wf) = true) :
    (((c.put l a bs).mem x).wf) = true := by
  cases l <;> cases x <;> simp_all [Core.put, Core.setMem, Core.mem, Mem.wf_write]

/-- A read of a core's storage after a write. -/
theorem put_read (c : Core) (l : Ls) (a : Nat) (bs : List Byte) (hl : l ≠ .wb) (k : Nat) :
    (((c.put l a bs).mem l).read k) = if a ≤ k ∧ k < a + bs.length then bs.getD (k - a) 0 else (c.mem l).read k := by
  cases l <;> simp_all [Core.put, Core.setMem, Core.mem, Mem.read_write]

end Sys2Proof.Machine
end

