-- ==== Sys2Proof/Laws/Send.lean ====
section
/-! SUPPORT. Sending: what a message that is sent leaves, and when it goes into the fabric at once (R25, R449). -/

namespace Sys2Proof.Machine

open Sys2Proof

/-- A message whose source is no core of a pair, or that a pair does not compare, goes into the fabric. -/
theorem send_plain (s : State) (a b c d e : Nat) (m : Msg)
    (h : comparedEngine a m = none ∨ b ≠ 0 ∨ (s.core a).pair = none) :
    s.send a b c d e m = ({ s with pktNo := s.pktNo + 1 } : State).inject
      { id := s.pktNo, dst := c, dkind := d, src := a, skind := b, len := msgFlits m, vnet := vnetOf (msgCls m)
        cls := msgCls m, asid := e, msg := m } := by
  unfold State.send
  dsimp only
  rcases h with h | h | h
  · rw [h]; split <;> simp_all
  · simp [h]
  · rw [show (({ s with pktNo := s.pktNo + 1 } : State).core a) = s.core a from rfl, h]; simp

theorem sent_of_send (s : State) (a b c d e : Nat) (m : Msg)
    (h : comparedEngine a m = none ∨ b ≠ 0 ∨ (s.core a).pair = none) : Sent s (s.send a b c d e m) c d m := by
  rw [send_plain s a b c d e m h]
  exact ⟨_, rfl, rfl, rfl, rfl, rfl⟩

/-- What no message that is sent changes. -/
theorem send_frame (s : State) (a b c d e : Nat) (m : Msg) :
    (s.send a b c d e m).hbm = s.hbm ∧ (s.send a b c d e m).slices = s.slices ∧ (s.send a b c d e m).groups = s.groups ∧
      (s.send a b c d e m).ctls = s.ctls ∧ (s.send a b c d e m).scheds = s.scheds ∧ (s.send a b c d e m).out = s.out ∧
      (s.send a b c d e m).banks = s.banks ∧ (s.send a b c d e m).ports = s.ports := by
  unfold State.send
  dsimp only
  split
  · unfold State.pairSend
    dsimp only
    split
    · split <;> exact ⟨rfl, rfl, rfl, rfl, rfl, rfl, rfl, rfl⟩
    · exact ⟨rfl, rfl, rfl, rfl, rfl, rfl, rfl, rfl⟩
  · exact ⟨rfl, rfl, rfl, rfl, rfl, rfl, rfl, rfl⟩

/-- What it leaves of every core. -/
theorem send_core (s : State) (a b c d e : Nat) (m : Msg) (p : Nat) :
    { (s.send a b c d e m).core p with pair := (s.core p).pair } = s.core p := by
  unfold State.send
  dsimp only
  split
  · unfold State.pairSend
    dsimp only
    split
    · split
      · unfold State.post; simp only [State.core, State.setCore]; by_cases h : p = a <;> simp [h]
      · unfold State.after; simp only [State.core, State.setCore]; by_cases h : p = a <;> simp [h]
    · simp only [State.core, State.setCore, State.inject]; by_cases h : p = a <;> simp [h]
  · rfl

end Sys2Proof.Machine
end

