-- ==== Sys2Proof/Laws/Freeze.lean ====
section
/-! SUPPORT. Freezing (R37, R194): what a record that is sent, the slots that are held and a freeze leave of a core, and what the stream
that stops beside a faulting word may change of its activation. -/

namespace Sys2Proof.Machine

open Sys2Proof

/-- A core has changed in nothing but what records, a pair's packets and landed capsules change. -/
def Core.Settled (c d : Core) : Prop :=
  { d with recs := c.recs, serial := c.serial, pair := c.pair, slots := c.slots, egress := c.egress } = c

theorem Core.Settled.refl (c : Core) : c.Settled c := rfl

theorem Core.Settled.trans {c d e : Core} (h : c.Settled d) (k : d.Settled e) : c.Settled e := by
  cases c; cases d; cases e
  simp_all [Core.Settled]

theorem send_settled (s : State) (a b c d e : Nat) (m : Msg) (p : Nat) : (s.core p).Settled ((s.send a b c d e m).core p) := by
  have h := send_core s a b c d e m p
  revert h
  generalize (s.send a b c d e m).core p = y
  generalize s.core p = x
  intro h
  cases x; cases y
  simp_all [Core.Settled]

theorem nextSerial_settled (s : State) (k n p : Nat) : (s.core p).Settled ((s.nextSerial k n).2.core p) := by
  unfold State.nextSerial
  split
  · by_cases h : p = n
    · subst h; simp [Core.Settled]
    · simp [h, Core.Settled]
  · rfl

theorem emitRecord_settled (s : State) (r : FaultRec) (n : Bool) (p : Nat) : (s.core p).Settled ((s.emitRecord r n).core p) := by
  unfold State.emitRecord State.emitNotice
  dsimp only
  split
  · exact (send_settled ..).trans (send_settled ..)
  · exact send_settled ..

/-- A record that is raised changes no more of a core. -/
theorem sendRecord_settled (s : State) (r : FaultRec) (n : Bool) (p : Nat) : (s.core p).Settled ((s.sendRecord r n).core p) := by
  have key (u : State) (q : Nat) (f : FaultRec) : (u.core p).Settled
      ((u.modCore q (fun c => { c with recs := c.recs ++ [(f.engine, f.serial)] })).core p) := by
    by_cases h : p = q
    · subst h; simp [Core.Settled]
    · simp [h, Core.Settled]
  unfold State.sendRecord
  dsimp only
  refine (nextSerial_settled s (if r.engine = 10 then 4 else r.skind) r.place p).trans ?_
  generalize s.nextSerial (if r.engine = 10 then 4 else r.skind) r.place = x
  split
  · split
    · exact key x.2 r.place { r with serial := x.1 }
    · exact Core.Settled.refl _
  · split
    · exact (key x.2 r.place { r with serial := x.1 }).trans (emitRecord_settled ..)
    · exact Core.Settled.trans (Core.Settled.refl _) (emitRecord_settled ..)

/-- An error that goes to a bank changes no core. -/
theorem applyError_core (s : State) (e : ErrorEv) (q : Nat) : (s.applyError e).core q = s.core q := by
  unfold State.applyError
  dsimp only
  repeat' split
  all_goals rfl

theorem foundError_core (s : State) (e : ErrorEv) (q : Nat) : (s.foundError e).core q = s.core q := by
  unfold State.foundError
  dsimp only
  rw [applyError_core]
  rfl

theorem payloadErrors_core (s : State) (p k len : Nat) (f : Finder) (q : Nat) : (s.payloadErrors p k len f).core q = s.core q := by
  unfold State.payloadErrors
  generalize List.range _ = l
  induction l generalizing s with
  | nil => rfl
  | cons u l ih =>
    rw [List.foldl_cons, ih]
    dsimp only
    split
    · exact foundError_core ..
    · rfl

/-- The slots of a core that stops are held, and no more of any core changes. -/
theorem holdSlots_settled (s : State) (p : Nat) (lost : Bool) (q : Nat) : (s.core q).Settled ((s.holdSlots p lost).core q) := by
  have key (u : State) (c : Core) (h : (u.core p).Settled c) : (u.core q).Settled ((u.setCore p c).core q) := by
    by_cases e : q = p
    · subst e; simpa using h
    · simp [e, Core.Settled]
  unfold State.holdSlots
  generalize List.finRange 2 = l
  induction l generalizing s with
  | nil => exact Core.Settled.refl _
  | cons k l ih =>
    rw [List.foldl_cons]
    refine Core.Settled.trans ?_ (ih _)
    dsimp only
    split
    all_goals first
      | exact key s _ rfl
      | refine Core.Settled.trans ?_ (sendRecord_settled ..)
        split
        · exact key s _ rfl
        · rw [payloadErrors_core]; exact key s _ rfl

theorem dropRecords_core (l : List Nat) (s : State) (d q : Nat) : (l.foldl (fun s rid => s.dropRecord d rid) s).core q = s.core q := by
  induction l generalizing s with
  | nil => rfl
  | cons x l ih => rw [List.foldl_cons, ih]; rfl

/-- A freeze leaves of its core everything but that it is frozen, its records, its pair and its slots with what they send. -/
theorem freezeCore_core (s : State) (p : Nat) (r : FaultRec) (h : (s.core p).life ≠ .sealed) (k : (s.core p).life ≠ .vacant) :
    ({ s.core p with life := .frozen } : Core).Settled ((s.freezeCore p r).core p) := by
  unfold State.freezeCore
  dsimp only
  rw [if_neg (by simp [h, k])]
  have start : ({ s.core p with life := .frozen } : Core).Settled ((s.setCore p { s.core p with life := .frozen }).core p) := by
    simp [Core.Settled]
  refine start.trans ((holdSlots_settled _ p false p).trans ((sendRecord_settled _ { r with frozen := true } true p).trans ?_))
  generalize ((s.setCore p { s.core p with life := .frozen }).holdSlots p false).sendRecord { r with frozen := true } true = u
  split
  · rw [dropRecords_core]; rfl
  · rename_i x _
    have m (v : State) (e : v.core p = u.core p) :
        (u.core p).Settled ((v.modCore p (fun c => { c with pair := some { x with frozen := some (r.kind, r.pc) } })).core p) := by
      simp [Core.Settled, e]
    split
    · split <;> exact m _ rfl
    · exact m _ rfl

/-- A stream that acts on a word that the other decides takes its outcome, and changes nothing else but where it stands. -/
theorem follow_frame (c : Core) (st : Stream) (w : IWord) (a b : Act) (h : c.follow a st w = some b) :
    b.str (otherStream st) = a.str (otherStream st) ∧ (b.str st).regs = (a.str st).regs ∧
      { b with a := a.a, e := a.e, bqa := a.bqa, bqe := a.bqe, idle := a.idle } = a := by
  revert h
  unfold Core.follow
  dsimp only
  intro h
  repeat' split at h
  all_goals cases h
  all_goals cases st <;> exact ⟨rfl, rfl, rfl⟩

/-- A stream that runs on beside a faulting word writes no register, and leaves the other stream and the rest of the activation but the
outcomes that it takes. -/
theorem runOn_frame (c : Core) (st : Stream) (n : Nat) (a : Act) :
    let b := c.runOn st n a
    b.str (otherStream st) = a.str (otherStream st) ∧ (b.str st).regs = (a.str st).regs ∧
      { b with a := a.a, e := a.e, bqa := a.bqa, bqe := a.bqe, idle := a.idle } = a := by
  induction n generalizing a with
  | zero => exact ⟨rfl, rfl, rfl⟩
  | succ n ih =>
    have step (b : Act) (h : b.str (otherStream st) = a.str (otherStream st) ∧ (b.str st).regs = (a.str st).regs ∧
        { b with a := a.a, e := a.e, bqa := a.bqa, bqe := a.bqe, idle := a.idle } = a) :
        (c.runOn st n b).str (otherStream st) = a.str (otherStream st) ∧ ((c.runOn st n b).str st).regs = (a.str st).regs ∧
          { c.runOn st n b with a := a.a, e := a.e, bqa := a.bqa, bqe := a.bqe, idle := a.idle } = a := by
      obtain ⟨h1, h2, h3⟩ := h
      obtain ⟨i1, i2, i3⟩ := ih b
      refine ⟨i1.trans h1, i2.trans h2, ?_⟩
      revert i3 h3
      generalize c.runOn st n b = y
      intro i3 h3
      cases a; cases b; cases y
      simp_all
    simp only [Core.runOn]
    split
    · exact ⟨rfl, rfl, rfl⟩
    · split
      · cases st <;> exact ⟨rfl, rfl, rfl⟩
      · split
        · split
          · rename_i b hb
            exact step b (follow_frame c st _ a b hb)
          · exact ⟨rfl, rfl, rfl⟩
        · exact step _ (by cases st <;> exact ⟨rfl, rfl, rfl⟩)

/-- A fault of the handler core at a word of a stream leaves its core stopped at that word (R194). -/
theorem handlerFault_stops (s : State) (st : Stream) (r : FaultRec) (a : Act) (ha : (s.core s.who).act = some a) (hr : r.place = s.who)
    (h : (s.core s.who).life ≠ .sealed) (k : (s.core s.who).life ≠ .vacant) : StoppedAt s (s.handlerFault s.who st r) a st := by
  have f := freezeCore_core (s.modCore s.who (fun c => { c with act := c.act.map (c.runOn (otherStream st) 8192) })) s.who r
    (by simpa using h) (by simpa using k)
  have g := runOn_frame (s.core s.who) (otherStream st) 8192 a
  unfold StoppedAt State.handlerFault State.freeze State.stopStreams
  rw [hr, List.foldl_cons, List.foldl_nil]
  revert f
  generalize (State.freezeCore _ s.who r).core s.who = d
  intro f
  simp only [core_modCore_same, ha, Option.map_some, Core.Settled] at f
  have l : d.life = .frozen := by have := congrArg Core.life f; simpa using this
  have e : d.act = some ((s.core s.who).runOn (otherStream st) 8192 a) := by have := congrArg Core.act f; simpa using this
  refine ⟨l, _, e, ?_, g.2.1, g.2.2⟩
  have o : otherStream (otherStream st) = st := by cases st <;> rfl
  have g1 := g.1
  rw [o] at g1
  exact g1

end Sys2Proof.Machine
end

