-- ==== Sys2Proof/Laws/Issue.lean ====
section
/-! SUPPORT. Issue (R156): when an instruction issues, and everything else that a word which does not issue can do. -/

namespace Sys2Proof.Machine

open Sys2Proof

theorem issue_next {s : State} {n : Need} {a : Act} {vals : List Word} {b : Act} (h : CanIssue s n a vals b)
    (k : Issued → State) : issue s n k = .next (k (a.issued n (s.core s.who) vals b)) := by
  obtain ⟨h1, h2, h3, h4, h5, h6, h7, h8⟩ := h
  simp only [issue, h2, h1, h3, h4, h6, h7, h8, Option.isSome_none]
  by_cases hp : n.priv = true
  · simp [h5 hp]
  · simp [hp]

/-- Issue never stops the machine where core `who` has an activation. -/
theorem issue_answers (s : State) (n : Need) (k : Issued → State) (h : (s.core s.who).act.isSome) :
    ∃ t, issue s n k = .next t := by
  obtain ⟨a, ha⟩ := Option.isSome_iff_exists.1 h
  simp only [issue, ha]
  repeat' split
  all_goals exact ⟨_, rfl⟩

theorem withAct_core (s : State) (c : Core) (a : Act) : (s.withAct c a).core s.who = { c with act := some a } := by
  simp [State.withAct]

end Sys2Proof.Machine
end

