-- ==== Sys2Proof/Laws/PerInstr.lean ====
section
/-! SUPPORT. One lemma per constructor of `Instr`: which instructions have an encoding. -/

namespace Sys2Proof.Laws.Encodes

open Sys2Proof Sys2Proof.Machine

/-- The hints, which are words and read no source. -/
def isHint : Instr → Bool
  | .hintImm .. | .hintRnd .. | .hintSat _ | .hintSched .. | .hintNt _ => true
  | _ => false

/-- An instruction has an encoding when it is a word: one that asks for something at issue, or a hint. Events have none. -/
def Statement (i : Instr) : Prop := (encode i).isSome = ((needs i).isSome || isHint i)

theorem hintImm (x0 : Stream) (x1 : BitVec 20) : Statement (.hintImm x0 x1) := rfl
theorem hintRnd (x0 : Stream) (x1 : BitVec 1) : Statement (.hintRnd x0 x1) := rfl
theorem hintSat (x0 : Stream) : Statement (.hintSat x0) := rfl
theorem hintSched (x0 : Stream) (x1 : BitVec 2) : Statement (.hintSched x0 x1) := rfl
theorem hintNt (x0 : Stream) : Statement (.hintNt x0) := rfl
theorem add (x0 : Stream) (x1 : Reg) (x2 : Reg) (x3 : Reg) : Statement (.add x0 x1 x2 x3) := rfl
theorem sub (x0 : Stream) (x1 : Reg) (x2 : Reg) (x3 : Reg) : Statement (.sub x0 x1 x2 x3) := rfl
theorem and (x0 : Stream) (x1 : Reg) (x2 : Reg) (x3 : Reg) : Statement (.and x0 x1 x2 x3) := rfl
theorem or (x0 : Stream) (x1 : Reg) (x2 : Reg) (x3 : Reg) : Statement (.or x0 x1 x2 x3) := rfl
theorem xor (x0 : Stream) (x1 : Reg) (x2 : Reg) (x3 : Reg) : Statement (.xor x0 x1 x2 x3) := rfl
theorem andn (x0 : Stream) (x1 : Reg) (x2 : Reg) (x3 : Reg) : Statement (.andn x0 x1 x2 x3) := rfl
theorem orn (x0 : Stream) (x1 : Reg) (x2 : Reg) (x3 : Reg) : Statement (.orn x0 x1 x2 x3) := rfl
theorem sll (x0 : Stream) (x1 : Reg) (x2 : Reg) (x3 : Reg) : Statement (.sll x0 x1 x2 x3) := rfl
theorem srl (x0 : Stream) (x1 : Reg) (x2 : Reg) (x3 : Reg) : Statement (.srl x0 x1 x2 x3) := rfl
theorem sra (x0 : Stream) (x1 : Reg) (x2 : Reg) (x3 : Reg) : Statement (.sra x0 x1 x2 x3) := rfl
theorem rol (x0 : Stream) (x1 : Reg) (x2 : Reg) (x3 : Reg) : Statement (.rol x0 x1 x2 x3) := rfl
theorem slt (x0 : Stream) (x1 : Reg) (x2 : Reg) (x3 : Reg) : Statement (.slt x0 x1 x2 x3) := rfl
theorem sltu (x0 : Stream) (x1 : Reg) (x2 : Reg) (x3 : Reg) : Statement (.sltu x0 x1 x2 x3) := rfl
theorem seq (x0 : Stream) (x1 : Reg) (x2 : Reg) (x3 : Reg) : Statement (.seq x0 x1 x2 x3) := rfl
theorem sne (x0 : Stream) (x1 : Reg) (x2 : Reg) (x3 : Reg) : Statement (.sne x0 x1 x2 x3) := rfl
theorem min (x0 : Stream) (x1 : Reg) (x2 : Reg) (x3 : Reg) : Statement (.min x0 x1 x2 x3) := rfl
theorem max (x0 : Stream) (x1 : Reg) (x2 : Reg) (x3 : Reg) : Statement (.max x0 x1 x2 x3) := rfl
theorem minu (x0 : Stream) (x1 : Reg) (x2 : Reg) (x3 : Reg) : Statement (.minu x0 x1 x2 x3) := rfl
theorem maxu (x0 : Stream) (x1 : Reg) (x2 : Reg) (x3 : Reg) : Statement (.maxu x0 x1 x2 x3) := rfl
theorem sel (x0 : Stream) (x1 : Reg) (x2 : Reg) (x3 : Reg) (x4 : Reg) : Statement (.sel x0 x1 x2 x3 x4) := rfl
theorem mul (x0 : Stream) (x1 : Reg) (x2 : Reg) (x3 : Reg) : Statement (.mul x0 x1 x2 x3) := rfl
theorem mulh (x0 : Stream) (x1 : Reg) (x2 : Reg) (x3 : Reg) : Statement (.mulh x0 x1 x2 x3) := rfl
theorem mulhu (x0 : Stream) (x1 : Reg) (x2 : Reg) (x3 : Reg) : Statement (.mulhu x0 x1 x2 x3) := rfl
theorem div (x0 : Stream) (x1 : Reg) (x2 : Reg) (x3 : Reg) : Statement (.div x0 x1 x2 x3) := rfl
theorem divu (x0 : Stream) (x1 : Reg) (x2 : Reg) (x3 : Reg) : Statement (.divu x0 x1 x2 x3) := rfl
theorem rem (x0 : Stream) (x1 : Reg) (x2 : Reg) (x3 : Reg) : Statement (.rem x0 x1 x2 x3) := rfl
theorem remu (x0 : Stream) (x1 : Reg) (x2 : Reg) (x3 : Reg) : Statement (.remu x0 x1 x2 x3) := rfl
theorem clz (x0 : Stream) (x1 : Reg) (x2 : Reg) : Statement (.clz x0 x1 x2) := rfl
theorem ctz (x0 : Stream) (x1 : Reg) (x2 : Reg) : Statement (.ctz x0 x1 x2) := rfl
theorem popc (x0 : Stream) (x1 : Reg) (x2 : Reg) : Statement (.popc x0 x1 x2) := rfl
theorem bswap (x0 : Stream) (x1 : Reg) (x2 : Reg) : Statement (.bswap x0 x1 x2) := rfl
theorem addi (x0 : Stream) (x1 : Reg) (x2 : Reg) (x3 : BitVec 12) : Statement (.addi x0 x1 x2 x3) := rfl
theorem andi (x0 : Stream) (x1 : Reg) (x2 : Reg) (x3 : BitVec 12) : Statement (.andi x0 x1 x2 x3) := rfl
theorem ori (x0 : Stream) (x1 : Reg) (x2 : Reg) (x3 : BitVec 12) : Statement (.ori x0 x1 x2 x3) := rfl
theorem xori (x0 : Stream) (x1 : Reg) (x2 : Reg) (x3 : BitVec 12) : Statement (.xori x0 x1 x2 x3) := rfl
theorem slti (x0 : Stream) (x1 : Reg) (x2 : Reg) (x3 : BitVec 12) : Statement (.slti x0 x1 x2 x3) := rfl
theorem sltiu (x0 : Stream) (x1 : Reg) (x2 : Reg) (x3 : BitVec 12) : Statement (.sltiu x0 x1 x2 x3) := rfl
theorem slli (x0 : Stream) (x1 : Reg) (x2 : Reg) (x3 : BitVec 6) : Statement (.slli x0 x1 x2 x3) := rfl
theorem srli (x0 : Stream) (x1 : Reg) (x2 : Reg) (x3 : BitVec 6) : Statement (.srli x0 x1 x2 x3) := rfl
theorem srai (x0 : Stream) (x1 : Reg) (x2 : Reg) (x3 : BitVec 6) : Statement (.srai x0 x1 x2 x3) := rfl
theorem lim (x0 : Stream) (x1 : Reg) (x2 : BitVec 20) : Statement (.lim x0 x1 x2) := rfl
theorem bfx (x0 : Stream) (x1 : Reg) (x2 : Reg) (x3 : BitVec 6) (x4 : BitVec 6) : Statement (.bfx x0 x1 x2 x3 x4) := rfl
theorem bfxu (x0 : Stream) (x1 : Reg) (x2 : Reg) (x3 : BitVec 6) (x4 : BitVec 6) : Statement (.bfxu x0 x1 x2 x3 x4) := rfl
theorem bfi (x0 : Stream) (x1 : Reg) (x2 : Reg) (x3 : BitVec 6) (x4 : BitVec 6) : Statement (.bfi x0 x1 x2 x3 x4) := rfl
theorem beq (x0 : Stream) (x1 : Fh) (x2 : Reg) (x3 : Reg) (x4 : BitVec 10) : Statement (.beq x0 x1 x2 x3 x4) := rfl
theorem bne (x0 : Stream) (x1 : Fh) (x2 : Reg) (x3 : Reg) (x4 : BitVec 10) : Statement (.bne x0 x1 x2 x3 x4) := rfl
theorem blt (x0 : Stream) (x1 : Fh) (x2 : Reg) (x3 : Reg) (x4 : BitVec 10) : Statement (.blt x0 x1 x2 x3 x4) := rfl
theorem bge (x0 : Stream) (x1 : Fh) (x2 : Reg) (x3 : Reg) (x4 : BitVec 10) : Statement (.bge x0 x1 x2 x3 x4) := rfl
theorem bltu (x0 : Stream) (x1 : Fh) (x2 : Reg) (x3 : Reg) (x4 : BitVec 10) : Statement (.bltu x0 x1 x2 x3 x4) := rfl
theorem bgeu (x0 : Stream) (x1 : Fh) (x2 : Reg) (x3 : Reg) (x4 : BitVec 10) : Statement (.bgeu x0 x1 x2 x3 x4) := rfl
theorem j (x0 : Stream) (x1 : BitVec 13) : Statement (.j x0 x1) := rfl
theorem jal (x0 : Stream) (x1 : Reg) (x2 : BitVec 13) : Statement (.jal x0 x1 x2) := rfl
theorem jr (x0 : Stream) (x1 : Reg) : Statement (.jr x0 x1) := rfl
theorem jalr (x0 : Stream) (x1 : Reg) (x2 : Reg) : Statement (.jalr x0 x1 x2) := rfl
theorem done (x0 : Stream) : Statement (.done x0) := rfl
theorem csrr (x0 : Stream) (x1 : Reg) (x2 : BitVec 12) : Statement (.csrr x0 x1 x2) := rfl
theorem csrw (x0 : Stream) (x1 : Reg) (x2 : BitVec 12) : Statement (.csrw x0 x1 x2) := rfl
theorem csrs (x0 : Stream) (x1 : Reg) (x2 : BitVec 12) : Statement (.csrs x0 x1 x2) := rfl
theorem csrc (x0 : Stream) (x1 : Reg) (x2 : BitVec 12) : Statement (.csrc x0 x1 x2) := rfl
theorem nop (x0 : Stream) : Statement (.nop x0) := rfl
theorem wfld (x0 : Stream) (x1 : Reg) (x2 : BitVec 4) : Statement (.wfld x0 x1 x2) := rfl
theorem qcnt (x0 : Stream) (x1 : Reg) (x2 : BitVec 4) : Statement (.qcnt x0 x1 x2) := rfl
theorem lds (x0 : Reg) (x1 : Reg) (x2 : LdSize) (x3 : BitVec 12) : Statement (.lds x0 x1 x2 x3) := rfl
theorem sts (x0 : Reg) (x1 : Reg) (x2 : StSize) (x3 : BitVec 12) : Statement (.sts x0 x1 x2 x3) := rfl
theorem ldg (x0 : Reg) (x1 : Reg) (x2 : LdSize) (x3 : BitVec 12) : Statement (.ldg x0 x1 x2 x3) := rfl
theorem stg (x0 : Reg) (x1 : Reg) (x2 : StSize) (x3 : BitVec 12) : Statement (.stg x0 x1 x2 x3) := rfl
theorem amoAddSp (x0 : Reg) (x1 : Reg) (x2 : Reg) (x3 : AmSize) : Statement (.amoAddSp x0 x1 x2 x3) := rfl
theorem amoAndSp (x0 : Reg) (x1 : Reg) (x2 : Reg) (x3 : AmSize) : Statement (.amoAndSp x0 x1 x2 x3) := rfl
theorem amoOrSp (x0 : Reg) (x1 : Reg) (x2 : Reg) (x3 : AmSize) : Statement (.amoOrSp x0 x1 x2 x3) := rfl
theorem amoXorSp (x0 : Reg) (x1 : Reg) (x2 : Reg) (x3 : AmSize) : Statement (.amoXorSp x0 x1 x2 x3) := rfl
theorem amoMinSp (x0 : Reg) (x1 : Reg) (x2 : Reg) (x3 : AmSize) : Statement (.amoMinSp x0 x1 x2 x3) := rfl
theorem amoMaxSp (x0 : Reg) (x1 : Reg) (x2 : Reg) (x3 : AmSize) : Statement (.amoMaxSp x0 x1 x2 x3) := rfl
theorem amoMinuSp (x0 : Reg) (x1 : Reg) (x2 : Reg) (x3 : AmSize) : Statement (.amoMinuSp x0 x1 x2 x3) := rfl
theorem amoMaxuSp (x0 : Reg) (x1 : Reg) (x2 : Reg) (x3 : AmSize) : Statement (.amoMaxuSp x0 x1 x2 x3) := rfl
theorem amoSwapSp (x0 : Reg) (x1 : Reg) (x2 : Reg) (x3 : AmSize) : Statement (.amoSwapSp x0 x1 x2 x3) := rfl
theorem casSp (x0 : Reg) (x1 : Reg) (x2 : Reg) (x3 : Reg) (x4 : AmSize) : Statement (.casSp x0 x1 x2 x3 x4) := rfl
theorem amoAddGlobal (x0 : Reg) (x1 : Reg) (x2 : Reg) (x3 : AmSize) : Statement (.amoAddGlobal x0 x1 x2 x3) := rfl
theorem amoAndGlobal (x0 : Reg) (x1 : Reg) (x2 : Reg) (x3 : AmSize) : Statement (.amoAndGlobal x0 x1 x2 x3) := rfl
theorem amoOrGlobal (x0 : Reg) (x1 : Reg) (x2 : Reg) (x3 : AmSize) : Statement (.amoOrGlobal x0 x1 x2 x3) := rfl
theorem amoXorGlobal (x0 : Reg) (x1 : Reg) (x2 : Reg) (x3 : AmSize) : Statement (.amoXorGlobal x0 x1 x2 x3) := rfl
theorem amoMinGlobal (x0 : Reg) (x1 : Reg) (x2 : Reg) (x3 : AmSize) : Statement (.amoMinGlobal x0 x1 x2 x3) := rfl
theorem amoMaxGlobal (x0 : Reg) (x1 : Reg) (x2 : Reg) (x3 : AmSize) : Statement (.amoMaxGlobal x0 x1 x2 x3) := rfl
theorem amoMinuGlobal (x0 : Reg) (x1 : Reg) (x2 : Reg) (x3 : AmSize) : Statement (.amoMinuGlobal x0 x1 x2 x3) := rfl
theorem amoMaxuGlobal (x0 : Reg) (x1 : Reg) (x2 : Reg) (x3 : AmSize) : Statement (.amoMaxuGlobal x0 x1 x2 x3) := rfl
theorem amoSwapGlobal (x0 : Reg) (x1 : Reg) (x2 : Reg) (x3 : AmSize) : Statement (.amoSwapGlobal x0 x1 x2 x3) := rfl
theorem casGlobal (x0 : Reg) (x1 : Reg) (x2 : Reg) (x3 : Reg) (x4 : AmSize) : Statement (.casGlobal x0 x1 x2 x3 x4) := rfl
theorem fence (x0 : Scope) : Statement (.fence x0) := rfl
theorem fenceQ (x0 : BitVec 6) : Statement (.fenceQ x0) := rfl
theorem xprobe (x0 : Reg) (x1 : Reg) (x2 : BitVec 12) : Statement (.xprobe x0 x1 x2) := rfl
theorem pf (x0 : Reg) (x1 : BitVec 12) : Statement (.pf x0 x1) := rfl
theorem send (x0 : Fin 16) (x1 : Reg) (x2 : Reg) (x3 : BitVec 6) : Statement (.send x0 x1 x2 x3) := rfl
theorem recv (x0 : Fin 16) (x1 : Reg) (x2 : Reg) (x3 : BitVec 6) : Statement (.recv x0 x1 x2 x3) := rfl
theorem offer (x0 : Fin 16) (x1 : Reg) : Statement (.offer x0 x1) := rfl
theorem select (x0 : Fin 16) (x1 : BitVec 4) : Statement (.select x0 x1) := rfl
theorem close (x0 : Fin 16) (x1 : BitVec 4) : Statement (.close x0 x1) := rfl
theorem deleg (x0 : Fin 16) (x1 : Fin 16) : Statement (.deleg x0 x1) := rfl
theorem adopt (x0 : Fin 16) (x1 : Fin 16) : Statement (.adopt x0 x1) := rfl
theorem epBind (x0 : Fin 16) (x1 : Reg) : Statement (.epBind x0 x1) := rfl
theorem epConn (x0 : Fin 16) (x1 : Reg) (x2 : Reg) (x3 : Reg) : Statement (.epConn x0 x1 x2 x3) := rfl
theorem epAcc (x0 : Fin 16) (x1 : Reg) (x2 : Reg) : Statement (.epAcc x0 x1 x2) := rfl
theorem epSt (x0 : Fin 16) (x1 : Reg) : Statement (.epSt x0 x1) := rfl
theorem atLoad (x0 : Fin 16) (x1 : Reg) (x2 : Reg) : Statement (.atLoad x0 x1 x2) := rfl
theorem epShr (x0 : Fin 16) (x1 : Reg) (x2 : Reg) : Statement (.epShr x0 x1 x2) := rfl
theorem post (x0 : Reg) (x1 : Reg) (x2 : Reg) : Statement (.post x0 x1 x2) := rfl
theorem cpGet (x0 : Reg) (x1 : Reg) (x2 : Reg) (x3 : Ls) : Statement (.cpGet x0 x1 x2 x3) := rfl
theorem cpPut (x0 : Reg) (x1 : Reg) (x2 : Reg) (x3 : Ls) : Statement (.cpPut x0 x1 x2 x3) := rfl
theorem cpGath (x0 : Reg) (x1 : Reg) (x2 : Reg) (x3 : Ls) : Statement (.cpGath x0 x1 x2 x3) := rfl
theorem cpScat (x0 : Reg) (x1 : Reg) (x2 : Reg) (x3 : Ls) : Statement (.cpScat x0 x1 x2 x3) := rfl
theorem cpUnpk (x0 : Reg) (x1 : Reg) (x2 : Reg) (x3 : Ls) : Statement (.cpUnpk x0 x1 x2 x3) := rfl
theorem cpPack (x0 : Reg) (x1 : Reg) (x2 : Reg) (x3 : Ls) : Statement (.cpPack x0 x1 x2 x3) := rfl
theorem cpFill (x0 : Reg) (x1 : Reg) (x2 : Reg) (x3 : Ls) : Statement (.cpFill x0 x1 x2 x3) := rfl
theorem cpSeal (x0 : Reg) : Statement (.cpSeal x0) := rfl
theorem cpWait (x0 : Reg) : Statement (.cpWait x0) := rfl
theorem cpSt (x0 : Reg) (x1 : Reg) : Statement (.cpSt x0 x1) := rfl
theorem fwSet (x0 : Reg) (x1 : Reg) (x2 : Reg) : Statement (.fwSet x0 x1 x2) := rfl
theorem fwClr (x0 : Reg) : Statement (.fwClr x0) := rfl
theorem swInit (x0 : Reg) (x1 : Reg) : Statement (.swInit x0 x1) := rfl
theorem swWait (x0 : Reg) (x1 : Reg) : Statement (.swWait x0 x1) := rfl
theorem swRd (x0 : Reg) (x1 : Reg) : Statement (.swRd x0 x1) := rfl
theorem rgArm (x0 : Reg) (x1 : Reg) (x2 : Reg) : Statement (.rgArm x0 x1 x2) := rfl
theorem rgDisarm (x0 : Reg) : Statement (.rgDisarm x0) := rfl
theorem rgAdd (x0 : Reg) (x1 : Reg) : Statement (.rgAdd x0 x1) := rfl
theorem rgRd (x0 : Reg) (x1 : Reg) : Statement (.rgRd x0 x1) := rfl
theorem rgBind (x0 : Reg) (x1 : Reg) : Statement (.rgBind x0 x1) := rfl
theorem wnReg (x0 : Reg) (x1 : Reg) (x2 : Reg) (x3 : Fin 8) : Statement (.wnReg x0 x1 x2 x3) := rfl
theorem wnUnreg (x0 : Reg) : Statement (.wnUnreg x0) := rfl
theorem wnCc (x0 : Reg) (x1 : Fin 8) : Statement (.wnCc x0 x1) := rfl
theorem wnWait (x0 : Reg) (x1 : Fin 8) : Statement (.wnWait x0 x1) := rfl
theorem capNew (x0 : Reg) (x1 : Reg) (x2 : Fin 2) : Statement (.capNew x0 x1 x2) := rfl
theorem capFwd (x0 : Fin 2) : Statement (.capFwd x0) := rfl
theorem capIns (x0 : Reg) (x1 : Fin 12) (x2 : Fin 2) : Statement (.capIns x0 x1 x2) := rfl
theorem capDel (x0 : Fin 12) (x1 : Fin 2) : Statement (.capDel x0 x1) := rfl
theorem capRep (x0 : Reg) (x1 : Fin 12) (x2 : Fin 2) : Statement (.capRep x0 x1 x2) := rfl
theorem capRd (x0 : Reg) (x1 : Fin 12) (x2 : Fin 2) : Statement (.capRd x0 x1 x2) := rfl
theorem capDiv (x0 : Reg) (x1 : Fin 2) : Statement (.capDiv x0 x1) := rfl
theorem capRet (x0 : Fin 2) : Statement (.capRet x0) := rfl
theorem capKill (x0 : Fin 2) : Statement (.capKill x0) := rfl
theorem capHdr (x0 : Reg) (x1 : Reg) (x2 : Fin 2) : Statement (.capHdr x0 x1 x2) := rfl
theorem vadd (x0 : Fin 8) (x1 : Fin 8) (x2 : Fin 8) (x3 : Slice) : Statement (.vadd x0 x1 x2 x3) := rfl
theorem vsub (x0 : Fin 8) (x1 : Fin 8) (x2 : Fin 8) (x3 : Slice) : Statement (.vsub x0 x1 x2 x3) := rfl
theorem vmul (x0 : Fin 8) (x1 : Fin 8) (x2 : Fin 8) (x3 : Slice) : Statement (.vmul x0 x1 x2 x3) := rfl
theorem vfma (x0 : Fin 8) (x1 : Fin 8) (x2 : Fin 8) (x3 : Slice) : Statement (.vfma x0 x1 x2 x3) := rfl
theorem vfms (x0 : Fin 8) (x1 : Fin 8) (x2 : Fin 8) (x3 : Slice) : Statement (.vfms x0 x1 x2 x3) := rfl
theorem vmax (x0 : Fin 8) (x1 : Fin 8) (x2 : Fin 8) (x3 : Slice) : Statement (.vmax x0 x1 x2 x3) := rfl
theorem vmin (x0 : Fin 8) (x1 : Fin 8) (x2 : Fin 8) (x3 : Slice) : Statement (.vmin x0 x1 x2 x3) := rfl
theorem vabs (x0 : Fin 8) (x1 : Fin 8) (x2 : Slice) : Statement (.vabs x0 x1 x2) := rfl
theorem vneg (x0 : Fin 8) (x1 : Fin 8) (x2 : Slice) : Statement (.vneg x0 x1 x2) := rfl
theorem vcmpEq (x0 : Fin 8) (x1 : Fin 8) (x2 : Fin 8) (x3 : Slice) : Statement (.vcmpEq x0 x1 x2 x3) := rfl
theorem vcmpNe (x0 : Fin 8) (x1 : Fin 8) (x2 : Fin 8) (x3 : Slice) : Statement (.vcmpNe x0 x1 x2 x3) := rfl
theorem vcmpLt (x0 : Fin 8) (x1 : Fin 8) (x2 : Fin 8) (x3 : Slice) : Statement (.vcmpLt x0 x1 x2 x3) := rfl
theorem vcmpLe (x0 : Fin 8) (x1 : Fin 8) (x2 : Fin 8) (x3 : Slice) : Statement (.vcmpLe x0 x1 x2 x3) := rfl
theorem vrsum (x0 : Fin 8) (x1 : Fin 8) (x2 : Slice) : Statement (.vrsum x0 x1 x2) := rfl
theorem vrmax (x0 : Fin 8) (x1 : Fin 8) (x2 : Slice) : Statement (.vrmax x0 x1 x2) := rfl
theorem vexp2 (x0 : Fin 8) (x1 : Fin 8) (x2 : Slice) : Statement (.vexp2 x0 x1 x2) := rfl
theorem vlog2 (x0 : Fin 8) (x1 : Fin 8) (x2 : Slice) : Statement (.vlog2 x0 x1 x2) := rfl
theorem vrcp (x0 : Fin 8) (x1 : Fin 8) (x2 : Slice) : Statement (.vrcp x0 x1 x2) := rfl
theorem vrsqrt (x0 : Fin 8) (x1 : Fin 8) (x2 : Slice) : Statement (.vrsqrt x0 x1 x2) := rfl
theorem vaddI (x0 : Fin 8) (x1 : Fin 8) (x2 : Fin 8) (x3 : Slice) : Statement (.vaddI x0 x1 x2 x3) := rfl
theorem vsubI (x0 : Fin 8) (x1 : Fin 8) (x2 : Fin 8) (x3 : Slice) : Statement (.vsubI x0 x1 x2 x3) := rfl
theorem vmli (x0 : Fin 8) (x1 : Fin 8) (x2 : Fin 8) (x3 : Slice) : Statement (.vmli x0 x1 x2 x3) := rfl
theorem vmaxI (x0 : Fin 8) (x1 : Fin 8) (x2 : Fin 8) (x3 : Slice) : Statement (.vmaxI x0 x1 x2 x3) := rfl
theorem vminI (x0 : Fin 8) (x1 : Fin 8) (x2 : Fin 8) (x3 : Slice) : Statement (.vminI x0 x1 x2 x3) := rfl
theorem vabsI (x0 : Fin 8) (x1 : Fin 8) (x2 : Slice) : Statement (.vabsI x0 x1 x2) := rfl
theorem vnegI (x0 : Fin 8) (x1 : Fin 8) (x2 : Slice) : Statement (.vnegI x0 x1 x2) := rfl
theorem vand (x0 : Fin 8) (x1 : Fin 8) (x2 : Fin 8) (x3 : Slice) : Statement (.vand x0 x1 x2 x3) := rfl
theorem vor (x0 : Fin 8) (x1 : Fin 8) (x2 : Fin 8) (x3 : Slice) : Statement (.vor x0 x1 x2 x3) := rfl
theorem vxor (x0 : Fin 8) (x1 : Fin 8) (x2 : Fin 8) (x3 : Slice) : Statement (.vxor x0 x1 x2 x3) := rfl
theorem vshl (x0 : Fin 8) (x1 : Fin 8) (x2 : Fin 8) (x3 : Slice) : Statement (.vshl x0 x1 x2 x3) := rfl
theorem vshr (x0 : Fin 8) (x1 : Fin 8) (x2 : Fin 8) (x3 : Slice) : Statement (.vshr x0 x1 x2 x3) := rfl
theorem vsra (x0 : Fin 8) (x1 : Fin 8) (x2 : Fin 8) (x3 : Slice) : Statement (.vsra x0 x1 x2 x3) := rfl
theorem vcmpEqI (x0 : Fin 8) (x1 : Fin 8) (x2 : Fin 8) (x3 : Slice) : Statement (.vcmpEqI x0 x1 x2 x3) := rfl
theorem vcmpNeI (x0 : Fin 8) (x1 : Fin 8) (x2 : Fin 8) (x3 : Slice) : Statement (.vcmpNeI x0 x1 x2 x3) := rfl
theorem vcmpLtI (x0 : Fin 8) (x1 : Fin 8) (x2 : Fin 8) (x3 : Slice) : Statement (.vcmpLtI x0 x1 x2 x3) := rfl
theorem vcmpLeI (x0 : Fin 8) (x1 : Fin 8) (x2 : Fin 8) (x3 : Slice) : Statement (.vcmpLeI x0 x1 x2 x3) := rfl
theorem vcmpLtu (x0 : Fin 8) (x1 : Fin 8) (x2 : Fin 8) (x3 : Slice) : Statement (.vcmpLtu x0 x1 x2 x3) := rfl
theorem vrsumI (x0 : Fin 8) (x1 : Fin 8) (x2 : Slice) : Statement (.vrsumI x0 x1 x2) := rfl
theorem vrmaxI (x0 : Fin 8) (x1 : Fin 8) (x2 : Slice) : Statement (.vrmaxI x0 x1 x2) := rfl
theorem vclmul (x0 : Fin 8) (x1 : Fin 8) (x2 : Fin 8) (x3 : Slice) : Statement (.vclmul x0 x1 x2 x3) := rfl
theorem vclmulh (x0 : Fin 8) (x1 : Fin 8) (x2 : Fin 8) (x3 : Slice) : Statement (.vclmulh x0 x1 x2 x3) := rfl
theorem vmov (x0 : Fin 8) (x1 : Fin 8) (x2 : Slice) : Statement (.vmov x0 x1 x2) := rfl
theorem vsel (x0 : Fin 8) (x1 : Fin 8) (x2 : Fin 8) (x3 : Slice) : Statement (.vsel x0 x1 x2 x3) := rfl
theorem vtr (x0 : Fin 8) (x1 : Fin 8) : Statement (.vtr x0 x1) := rfl
theorem vperm (x0 : Fin 8) (x1 : Fin 8) (x2 : Fin 8) (x3 : Slice) : Statement (.vperm x0 x1 x2 x3) := rfl
theorem vrot (x0 : Fin 8) (x1 : Fin 8) (x2 : Fin 8) (x3 : Slice) : Statement (.vrot x0 x1 x2 x3) := rfl
theorem vcvtFb (x0 : Fin 8) (x1 : Fin 8) (x2 : Slice) : Statement (.vcvtFb x0 x1 x2) := rfl
theorem vcvtBf (x0 : Fin 8) (x1 : Fin 8) (x2 : Slice) : Statement (.vcvtBf x0 x1 x2) := rfl
theorem vcvtFi (x0 : Fin 8) (x1 : Fin 8) (x2 : Slice) : Statement (.vcvtFi x0 x1 x2) := rfl
theorem vcvtIf (x0 : Fin 8) (x1 : Fin 8) (x2 : Slice) : Statement (.vcvtIf x0 x1 x2) := rfl
theorem vcvtI8 (x0 : Fin 8) (x1 : Fin 8) (x2 : Slice) : Statement (.vcvtI8 x0 x1 x2) := rfl
theorem vbcast (x0 : Fin 8) (x1 : Reg) (x2 : Slice) : Statement (.vbcast x0 x1 x2) := rfl
theorem vins (x0 : Fin 8) (x1 : Reg) (x2 : Reg) (x3 : BitVec 4) : Statement (.vins x0 x1 x2 x3) := rfl
theorem vext (x0 : Fin 8) (x1 : Reg) (x2 : Reg) (x3 : BitVec 4) : Statement (.vext x0 x1 x2 x3) := rfl
theorem ltab (x0 : Fin 8) (x1 : Fin 4) (x2 : Reg) (x3 : BitVec 4) : Statement (.ltab x0 x1 x2 x3) := rfl
theorem vld (x0 : Fin 8) (x1 : Reg) (x2 : Spc) (x3 : Slice) : Statement (.vld x0 x1 x2 x3) := rfl
theorem vst (x0 : Fin 8) (x1 : Reg) (x2 : Spc) (x3 : Slice) : Statement (.vst x0 x1 x2 x3) := rfl
theorem vunpkF (x0 : Fin 8) (x1 : Reg) (x2 : Spc) (x3 : Slice) : Statement (.vunpkF x0 x1 x2 x3) := rfl
theorem vunpkBf (x0 : Fin 8) (x1 : Reg) (x2 : Spc) (x3 : Slice) : Statement (.vunpkBf x0 x1 x2 x3) := rfl
theorem vpkE2m1 (x0 : Fin 8) (x1 : Reg) (x2 : Spc) (x3 : Slice) : Statement (.vpkE2m1 x0 x1 x2 x3) := rfl
theorem vpkLut4 (x0 : Fin 8) (x1 : Reg) (x2 : Spc) (x3 : Slice) : Statement (.vpkLut4 x0 x1 x2 x3) := rfl
theorem vpkE4m3 (x0 : Fin 8) (x1 : Reg) (x2 : Spc) (x3 : Slice) : Statement (.vpkE4m3 x0 x1 x2 x3) := rfl
theorem vpkE5m2 (x0 : Fin 8) (x1 : Reg) (x2 : Spc) (x3 : Slice) : Statement (.vpkE5m2 x0 x1 x2 x3) := rfl
theorem vpkInt8 (x0 : Fin 8) (x1 : Reg) (x2 : Spc) (x3 : Slice) : Statement (.vpkInt8 x0 x1 x2 x3) := rfl
theorem mma (x0 : Reg) (x1 : Reg) (x2 : Reg) (x3 : Fin 2) : Statement (.mma x0 x1 x2 x3) := rfl
theorem mmaBf16 (x0 : Reg) (x1 : Reg) (x2 : Reg) (x3 : Fin 2) : Statement (.mmaBf16 x0 x1 x2 x3) := rfl
theorem mmZero (x0 : Fin 2) : Statement (.mmZero x0) := rfl
theorem mmSt (x0 : Reg) : Statement (.mmSt x0) := rfl
theorem mmFence : Statement (.mmFence) := rfl
theorem mmCfg (x0 : Reg) : Statement (.mmCfg x0) := rfl
theorem spawn (x0 : Reg) (x1 : Reg) : Statement (.spawn x0 x1) := rfl
theorem gang (x0 : Reg) (x1 : Reg) (x2 : Reg) : Statement (.gang x0 x1 x2) := rfl
theorem fork (x0 : Reg) (x1 : Reg) (x2 : Reg) : Statement (.fork x0 x1 x2) := rfl
theorem join (x0 : Reg) (x1 : Reg) : Statement (.join x0 x1) := rfl
theorem hpri (x0 : Reg) (x1 : Fin 20) : Statement (.hpri x0 x1) := rfl
theorem hmsk (x0 : Fin 20) : Statement (.hmsk x0) := rfl
theorem humsk (x0 : Fin 20) : Statement (.humsk x0) := rfl
theorem rpl : Statement (.rpl) := rfl
theorem sealCore (x0 : Reg) : Statement (.sealCore x0) := rfl
theorem thaw (x0 : Reg) : Statement (.thaw x0) := rfl
theorem evict (x0 : Reg) (x1 : Reg) : Statement (.evict x0 x1) := rfl
theorem rstr (x0 : Reg) (x1 : Reg) : Statement (.rstr x0 x1) := rfl
theorem hdLoWrite (x0 : Stream) (x1 : Word) : Statement (.hdLoWrite x0 x1) := rfl
theorem hdHiWrite (x0 : Stream) (x1 : Word) : Statement (.hdHiWrite x0 x1) := rfl
theorem codeLimWrite (x0 : Stream) (x1 : Word) : Statement (.codeLimWrite x0 x1) := rfl
theorem sysregWrite (x0 : Stream) (x1 : BitVec 12) (x2 : Word) : Statement (.sysregWrite x0 x1 x2) := rfl
theorem illegalEncoding (x0 : Stream) (x1 : IWord) (x2 : Nat) : Statement (.illegalEncoding x0 x1 x2) := rfl
theorem illegalHintSequence (x0 : Stream) (x1 : IWord) (x2 : IWord) : Statement (.illegalHintSequence x0 x1 x2) := rfl
theorem entryMark (x0 : Nat) (x1 : MarkWord) : Statement (.entryMark x0 x1) := rfl
theorem serviceMessageArrival (x0 : SvcMsg) : Statement (.serviceMessageArrival x0) := rfl
theorem serviceMessageResend (x0 : SvcMsg) : Statement (.serviceMessageResend x0) := rfl
theorem dispatch (x0 : Nat) : Statement (.dispatch x0) := rfl
theorem park (x0 : Nat) : Statement (.park x0) := rfl
theorem resumable (x0 : Nat) (x1 : Nat) : Statement (.resumable x0 x1) := rfl
theorem watchdogExpiry (x0 : Nat) : Statement (.watchdogExpiry x0) := rfl
theorem routerArbitration (x0 : Nat) (x1 : Nat) : Statement (.routerArbitration x0 x1) := rfl
theorem ageTick (x0 : Nat) : Statement (.ageTick x0) := rfl
theorem packetReceive (x0 : Nat) : Statement (.packetReceive x0) := rfl
theorem coreRouterAnswer (x0 : Pkt) : Statement (.coreRouterAnswer x0) := rfl
theorem sliceAccess (x0 : Nat) (x1 : GReq) : Statement (.sliceAccess x0 x1) := rfl
theorem globalReply (x0 : GReply) : Statement (.globalReply x0) := rfl
theorem storeAck (x0 : GReply) : Statement (.storeAck x0) := rfl
theorem pageFaultReply (x0 : GReply) : Statement (.pageFaultReply x0) := rfl
theorem connectionRequestArrival (x0 : ChanMsg) : Statement (.connectionRequestArrival x0) := rfl
theorem connectionAnswerArrival (x0 : ChanMsg) : Statement (.connectionAnswerArrival x0) := rfl
theorem channelMessageArrival (x0 : ChanMsg) : Statement (.channelMessageArrival x0) := rfl
theorem closeNoticeArrival (x0 : ChanMsg) : Statement (.closeNoticeArrival x0) := rfl
theorem errorNoticeArrival (x0 : ChanMsg) : Statement (.errorNoticeArrival x0) := rfl
theorem endpointMessageArrival (x0 : ChanMsg) : Statement (.endpointMessageArrival x0) := rfl
theorem adopterNameArrival (x0 : ChanMsg) : Statement (.adopterNameArrival x0) := rfl
theorem redirectArrival (x0 : ChanMsg) : Statement (.redirectArrival x0) := rfl
theorem redirectAckArrival (x0 : ChanMsg) : Statement (.redirectAckArrival x0) := rfl
theorem forwardedMessageArrival (x0 : ChanMsg) : Statement (.forwardedMessageArrival x0) := rfl
theorem stubEndArrival (x0 : ChanMsg) : Statement (.stubEndArrival x0) := rfl
theorem channelRetryResend (x0 : ChanMsg) : Statement (.channelRetryResend x0) := rfl
theorem postArrival (x0 : PostMsg) : Statement (.postArrival x0) := rfl
theorem postAnswerArrival (x0 : Nat) (x1 : Nat) (x2 : Nat) (x3 : Nat) (x4 : Nat) : Statement (.postAnswerArrival x0 x1 x2 x3 x4) := rfl
theorem controllerConversation (x0 : Nat) (x1 : ChanMsg) : Statement (.controllerConversation x0 x1) := rfl
theorem transferTake (x0 : Nat) : Statement (.transferTake x0) := rfl
theorem copySegmentTranslation (x0 : XlReply) : Statement (.copySegmentTranslation x0) := rfl
theorem copyUnitArrival (x0 : CopyUnit) : Statement (.copyUnitArrival x0) := rfl
theorem copyGetRequestArrival (x0 : GetReq) : Statement (.copyGetRequestArrival x0) := rfl
theorem copyGetDataArrival (x0 : GetData) : Statement (.copyGetDataArrival x0) := rfl
theorem copyRetryResend (x0 : CopyMsg) : Statement (.copyRetryResend x0) := rfl
theorem copyRefusalArrival (x0 : CopyRefusal) : Statement (.copyRefusalArrival x0) := rfl
theorem fillTouch (x0 : Nat) (x1 : Nat) (x2 : Nat) : Statement (.fillTouch x0 x1 x2) := rfl
theorem fillComplete (x0 : Nat) (x1 : Nat) (x2 : Nat) : Statement (.fillComplete x0 x1 x2) := rfl
theorem syncWordRaise (x0 : Nat) (x1 : Nat) (x2 : Nat) : Statement (.syncWordRaise x0 x1 x2) := rfl
theorem putAckArrival (x0 : Nat) (x1 : Nat) (x2 : Nat) : Statement (.putAckArrival x0 x1 x2) := rfl
theorem windowPutCheck (x0 : CopyUnit) : Statement (.windowPutCheck x0) := rfl
theorem echoRaise (x0 : Nat) (x1 : Nat) (x2 : Nat) : Statement (.echoRaise x0 x1 x2) := rfl
theorem windowCounterRetry (x0 : Nat) (x1 : Nat) (x2 : Nat) (x3 : Nat) : Statement (.windowCounterRetry x0 x1 x2 x3) := rfl
theorem countReport (x0 : Nat) (x1 : Nat) (x2 : Counted) : Statement (.countReport x0 x1 x2) := rfl
theorem arrivalReport (x0 : Nat) (x1 : Nat) (x2 : Reported) : Statement (.arrivalReport x0 x1 x2) := rfl
theorem aggregateTimer (x0 : Nat) (x1 : Nat) (x2 : Nat) : Statement (.aggregateTimer x0 x1 x2) := rfl
theorem actionAttemptAnswer (x0 : Nat) (x1 : Nat) (x2 : ActAns) : Statement (.actionAttemptAnswer x0 x1 x2) := rfl
theorem actionRetry (x0 : Nat) (x1 : Nat) : Statement (.actionRetry x0 x1) := rfl
theorem generationAdvance (x0 : Nat) (x1 : Nat) (x2 : Nat) (x3 : Nat) : Statement (.generationAdvance x0 x1 x2 x3) := rfl
theorem taskLaunchHandoff (x0 : Nat) (x1 : TaskRec) (x2 : LaunchFrom) : Statement (.taskLaunchHandoff x0 x1 x2) := rfl
theorem matrixTileGrant (x0 : Nat) : Statement (.matrixTileGrant x0) := rfl
theorem capsuleArrival (x0 : Nat) (x1 : Capsule) : Statement (.capsuleArrival x0 x1) := rfl
theorem capsuleRetryReply (x0 : Capsule) : Statement (.capsuleRetryReply x0) := rfl
theorem capsuleRetryResend (x0 : Capsule) : Statement (.capsuleRetryResend x0) := rfl
theorem capsuleEgressSend (x0 : Nat) : Statement (.capsuleEgressSend x0) := rfl
theorem dispatchOffer (x0 : Nat) : Statement (.dispatchOffer x0) := rfl
theorem dispatchArrival (x0 : Nat) (x1 : Nat) (x2 : TaskRec) : Statement (.dispatchArrival x0 x1 x2) := rfl
theorem dispatchAnswerArrival (x0 : Nat) (x1 : Nat) (x2 : Bool) : Statement (.dispatchAnswerArrival x0 x1 x2) := rfl
theorem taskFinishedArrival (x0 : Nat) (x1 : Nat) : Statement (.taskFinishedArrival x0 x1) := rfl
theorem codeImageLoad (x0 : Nat) (x1 : Nat) (x2 : Nat) : Statement (.codeImageLoad x0 x1 x2) := rfl
theorem codeImageLoadDone (x0 : Nat) (x1 : Nat) (x2 : Nat) (x3 : Nat) (x4 : Nat) : Statement (.codeImageLoadDone x0 x1 x2 x3 x4) := rfl
theorem schedulerRestart (x0 : Nat) : Statement (.schedulerRestart x0) := rfl
theorem taskTableQuery (x0 : Nat) (x1 : Nat) (x2 : Nat) : Statement (.taskTableQuery x0 x1 x2) := rfl
theorem stealRequest (x0 : Nat) : Statement (.stealRequest x0) := rfl
theorem stolenRecordArrival (x0 : Nat) (x1 : Nat) (x2 : TaskRec) : Statement (.stolenRecordArrival x0 x1 x2) := rfl
theorem stealAckArrival (x0 : Nat) (x1 : Nat) (x2 : Nat) : Statement (.stealAckArrival x0 x1 x2) := rfl
theorem lendTimerExpiry (x0 : Nat) (x1 : Nat) : Statement (.lendTimerExpiry x0 x1) := rfl
theorem confirmationArrival (x0 : Nat) (x1 : Nat) (x2 : Nat) : Statement (.confirmationArrival x0 x1 x2) := rfl
theorem revocationArrival (x0 : Nat) (x1 : Nat) (x2 : Nat) : Statement (.revocationArrival x0 x1 x2) := rfl
theorem takenArrival (x0 : Nat) (x1 : Nat) (x2 : Nat) : Statement (.takenArrival x0 x1 x2) := rfl
theorem lentQueryArrival (x0 : Nat) (x1 : Nat) (x2 : Nat) : Statement (.lentQueryArrival x0 x1 x2) := rfl
theorem heldAnswerArrival (x0 : Nat) (x1 : Nat) (x2 : Nat) : Statement (.heldAnswerArrival x0 x1 x2) := rfl
theorem unknownAnswerArrival (x0 : Nat) (x1 : Nat) (x2 : Nat) : Statement (.unknownAnswerArrival x0 x1 x2) := rfl
theorem heldQueryArrival (x0 : Nat) (x1 : Nat) (x2 : Nat) : Statement (.heldQueryArrival x0 x1 x2) := rfl
theorem gangReserve (x0 : Nat) (x1 : Nat) : Statement (.gangReserve x0 x1) := rfl
theorem gangHoldExpiry (x0 : Nat) (x1 : Nat) (x2 : Nat) : Statement (.gangHoldExpiry x0 x1 x2) := rfl
theorem forkChunkDispatch (x0 : Nat) (x1 : Nat) : Statement (.forkChunkDispatch x0 x1) := rfl
theorem childDoneCount (x0 : Nat) (x1 : Nat) (x2 : Nat) (x3 : Nat) (x4 : Nat) : Statement (.childDoneCount x0 x1 x2 x3 x4) := rfl
theorem continuationResend (x0 : Nat) (x1 : ChildWord) : Statement (.continuationResend x0 x1) := rfl
theorem childFailure (x0 : Nat) (x1 : Nat) (x2 : Nat) (x3 : Nat) (x4 : Nat) (x5 : Bool) : Statement (.childFailure x0 x1 x2 x3 x4 x5) := rfl
theorem pairedHashArrival (x0 : Nat) (x1 : Nat) (x2 : Nat) (x3 : BitVec 64) : Statement (.pairedHashArrival x0 x1 x2 x3) := rfl
theorem pairedInputCopy (x0 : Nat) (x1 : Pkt) : Statement (.pairedInputCopy x0 x1) := rfl
theorem pairedHashTimeout (x0 : Nat) (x1 : Nat) (x2 : Nat) : Statement (.pairedHashTimeout x0 x1 x2) := rfl
theorem pairedFreezeTimeout (x0 : Nat) : Statement (.pairedFreezeTimeout x0) := rfl
theorem evictionStream (x0 : Nat) : Statement (.evictionStream x0) := rfl
theorem ethernetFrameReceive (x0 : Nat) (x1 : Nat) (x2 : Bool) (x3 : Bool) (x4 : Nat) (x5 : Option (Nat × HostOp)) :
    Statement (.ethernetFrameReceive x0 x1 x2 x3 x4 x5) := rfl
theorem portLinkTraining (x0 : Nat) : Statement (.portLinkTraining x0) := rfl
theorem cmConnection (x0 : Nat) (x1 : Nat) (x2 : Nat) : Statement (.cmConnection x0 x1 x2) := rfl
theorem rdmaWrite (x0 : HostOp) (x1 : List Byte) : Statement (.rdmaWrite x0 x1) := rfl
theorem rdmaWriteWithImmediate (x0 : HostOp) (x1 : List Byte) (x2 : BitVec 32) : Statement (.rdmaWriteWithImmediate x0 x1 x2) := rfl
theorem rdmaRead (x0 : HostOp) (x1 : Nat) : Statement (.rdmaRead x0 x1) := rfl
theorem controlSend (x0 : Nat) (x1 : Nat) (x2 : List Byte) : Statement (.controlSend x0 x1 x2) := rfl
theorem ecnMarkedPacket (x0 : Nat) (x1 : Nat) : Statement (.ecnMarkedPacket x0 x1) := rfl
theorem cnpReceive (x0 : Nat) (x1 : Nat) : Statement (.cnpReceive x0 x1) := rfl
theorem rateRestore (x0 : Nat) (x1 : Nat) : Statement (.rateRestore x0 x1) := rfl
theorem launch (x0 : CtlFrom) (x1 : Nat) (x2 : Nat) : Statement (.launch x0 x1 x2) := rfl
theorem topen (x0 : CtlFrom) (x1 : Nat) (x2 : BitVec 64) : Statement (.topen x0 x1 x2) := rfl
theorem tclose (x0 : CtlFrom) (x1 : Nat) : Statement (.tclose x0 x1) := rfl
theorem tset (x0 : CtlFrom) (x1 : Nat) (x2 : Nat) (x3 : Nat) (x4 : Nat) (x5 : Nat) : Statement (.tset x0 x1 x2 x3 x4 x5) := rfl
theorem qres (x0 : CtlFrom) (x1 : Nat) (x2 : Nat) : Statement (.qres x0 x1 x2) := rfl
theorem supv (x0 : CtlFrom) (x1 : Nat) (x2 : List Byte) : Statement (.supv x0 x1 x2) := rfl
theorem svcClusterReset (x0 : CtlFrom) (x1 : Nat) : Statement (.svcClusterReset x0 x1) := rfl
theorem clusterResetTimeout (x0 : Nat) : Statement (.clusterResetTimeout x0) := rfl
theorem svcLinkRetrain (x0 : CtlFrom) (x1 : Nat) : Statement (.svcLinkRetrain x0 x1) := rfl
theorem svcPortRetrain (x0 : CtlFrom) (x1 : Nat) : Statement (.svcPortRetrain x0 x1) := rfl
theorem retrainComplete (x0 : Bool) (x1 : Nat) : Statement (.retrainComplete x0 x1) := rfl
theorem retrainTimeout (x0 : Bool) (x1 : Nat) : Statement (.retrainTimeout x0 x1) := rfl
theorem ebank (x0 : CtlFrom) (x1 : Nat) (x2 : Nat) (x3 : Bool) : Statement (.ebank x0 x1 x2 x3) := rfl
theorem ckpt (x0 : CtlFrom) (x1 : Nat) (x2 : Nat) (x3 : Nat) (x4 : Nat) (x5 : Nat) (x6 : Nat) : Statement (.ckpt x0 x1 x2 x3 x4 x5 x6) := rfl
theorem ckptComplete (x0 : Bool) : Statement (.ckptComplete x0) := rfl
theorem crest (x0 : CtlFrom) (x1 : Nat) (x2 : Nat) (x3 : Nat) (x4 : Nat) (x5 : Nat) (x6 : Nat) : Statement (.crest x0 x1 x2 x3 x4 x5 x6) := rfl
theorem lock (x0 : CtlFrom) (x1 : Bool) : Statement (.lock x0 x1) := rfl
theorem linkFrameReceive (x0 : Nat) (x1 : LinkFrame) : Statement (.linkFrameReceive x0 x1) := rfl
theorem replayRequestReceive (x0 : Nat) (x1 : Nat) : Statement (.replayRequestReceive x0 x1) := rfl
theorem routeTableWrite (x0 : Nat) (x1 : Option Nat) : Statement (.routeTableWrite x0 x1) := rfl
theorem getVersion : Statement (.getVersion) := rfl
theorem getCapabilities : Statement (.getCapabilities) := rfl
theorem negotiateAlgorithms : Statement (.negotiateAlgorithms) := rfl
theorem getDigests : Statement (.getDigests) := rfl
theorem getCertificate (x0 : Nat) (x1 : Nat) (x2 : Nat) : Statement (.getCertificate x0 x1 x2) := rfl
theorem challenge (x0 : Nat) (x1 : List Byte) : Statement (.challenge x0 x1) := rfl
theorem getMeasurements (x0 : Nat) (x1 : Bool) (x2 : List Byte) : Statement (.getMeasurements x0 x1 x2) := rfl
theorem spdmError (x0 : Nat) : Statement (.spdmError x0) := rfl
theorem pldmSensorRead (x0 : Nat) : Statement (.pldmSensorRead x0) := rfl
theorem powerCapSet (x0 : Nat) : Statement (.powerCapSet x0) := rfl
theorem pldmReadAndClear (x0 : Nat) : Statement (.pldmReadAndClear x0) := rfl
theorem errorArrival (x0 : ErrorEv) : Statement (.errorArrival x0) := rfl
theorem powerOn : Statement (.powerOn) := rfl
theorem munteReset : Statement (.munteReset) := rfl
theorem powerCapRestraint (x0 : Nat) : Statement (.powerCapRestraint x0) := rfl
theorem thermalRestraint (x0 : Nat) (x1 : Nat) : Statement (.thermalRestraint x0 x1) := rfl
theorem thermalTrip (x0 : Nat) : Statement (.thermalTrip x0) := rfl
theorem schedulerResetOrPowerGating (x0 : Nat) : Statement (.schedulerResetOrPowerGating x0) := rfl
theorem schedulerMessageResend (x0 : Pkt) (x1 : Nat) : Statement (.schedulerMessageResend x0 x1) := rfl
theorem egressQueueAcceptanceReport (x0 : Nat) (x1 : Nat) (x2 : Nat) (x3 : Nat) : Statement (.egressQueueAcceptanceReport x0 x1 x2 x3) := rfl
theorem regionCommandAcknowledgement (x0 : Nat) (x1 : Nat) (x2 : Nat) (x3 : Option Nat) : Statement (.regionCommandAcknowledgement x0 x1 x2 x3) := rfl
theorem matrixTileDrain (x0 : Nat) (x1 : List (Nat × Nat)) : Statement (.matrixTileDrain x0 x1) := rfl
theorem stealRequestArrival (x0 : Nat) (x1 : Nat) (x2 : List (Nat × Nat)) : Statement (.stealRequestArrival x0 x1 x2) := rfl
theorem crestComplete (x0 : Bool) (x1 : List (Nat × Byte)) : Statement (.crestComplete x0 x1) := rfl

end Sys2Proof.Laws.Encodes
end

