-- ==== Sys2Proof/Tests/Slice0.lean ====
section
/-! SUPPORT. The model's own tests. Words of every family, written out from the spec's encoding table, decode to their
instruction; ill-formed instructions are refused; single steps on small states; and, for every statement with hypotheses, a state
and operands that meet them. -/

namespace Sys2Proof.Tests

open Sys2Proof Sys2Proof.Machine

set_option Elab.async false

/-! ## Decoding (spec/opcode_table.json: each word is its row's fixed bits with a value in every field) -/

theorem test_words_hints :
    [0x000B672D, 0x80400001, 0x00800000, 0x80C00002, 0x01000000].map (decodeTableWord 32) =
      [some (.hintImm .a 747309), some (.hintRnd .e 1), some (.hintSat .a), some (.hintSched .e 2), some (.hintNt .a)] := by rfl

theorem test_words_register_forms :
    [0x82C70200, 0x02D78601, 0x82E00A02, 0x02F08E03, 0x82011204, 0x02119605, 0x82221A06, 0x02329E07, 0x82432208,
     0x0253A609, 0x82642A0A, 0x0274AE0B, 0x8285320C, 0x0295B60D, 0x82A63A0E, 0x02B6BE0F, 0x82C70210, 0x02D78611,
     0x82E00A12, 0x02F08CB3, 0x84011200, 0x04119601, 0x84221A02, 0x04329E03, 0x84432204, 0x0453A605, 0x84642A06,
     0x0674C200, 0x86854201, 0x0695C202, 0x86A64203].map (decodeTableWord 32) =
      [some (.add .e (.r 12) (.r 14) (.r 0)), some (.sub .a (.r 13) (.r 15) (.r 1)), some (.and .e (.r 14) (.r 0) (.r 2)),
       some (.or .a (.r 15) (.r 1) (.r 3)), some (.xor .e (.r 0) (.r 2) (.r 4)), some (.andn .a (.r 1) (.r 3) (.r 5)),
       some (.orn .e (.r 2) (.r 4) (.r 6)), some (.sll .a (.r 3) (.r 5) (.r 7)), some (.srl .e (.r 4) (.r 6) (.r 8)),
       some (.sra .a (.r 5) (.r 7) (.r 9)), some (.rol .e (.r 6) (.r 8) (.r 10)), some (.slt .a (.r 7) (.r 9) (.r
       11)), some (.sltu .e (.r 8) (.r 10) (.r 12)), some (.seq .a (.r 9) (.r 11) (.r 13)), some (.sne .e (.r 10) (.r
       12) (.r 14)), some (.min .a (.r 11) (.r 13) (.r 15)), some (.max .e (.r 12) (.r 14) (.r 0)), some (.minu .a (.r
       13) (.r 15) (.r 1)), some (.maxu .e (.r 14) (.r 0) (.r 2)), some (.sel .a (.r 15) (.r 1) (.r 3) (.r 5)), some
       (.mul .e (.r 0) (.r 2) (.r 4)), some (.mulh .a (.r 1) (.r 3) (.r 5)), some (.mulhu .e (.r 2) (.r 4) (.r 6)),
       some (.div .a (.r 3) (.r 5) (.r 7)), some (.divu .e (.r 4) (.r 6) (.r 8)), some (.rem .a (.r 5) (.r 7) (.r 9)),
       some (.remu .e (.r 6) (.r 8) (.r 10)), some (.clz .a (.r 7) (.r 9)), some (.ctz .e (.r 8) (.r 10)), some (.popc
       .a (.r 9) (.r 11)), some (.bswap .e (.r 10) (.r 12))] := by rfl

theorem test_words_immediate_forms :
    [0x10B68B67, 0x90C71B67, 0x10D7AB67, 0x90E03B67, 0x10F0CB67, 0x90015B67, 0x1211802D, 0x9222102D, 0x1232A02D,
     0x944B672D, 0x1653856A, 0x9664156A, 0x1674A56A].map (decodeTableWord 32) =
      [some (.addi .a (.r 11) (.r 13) 2919), some (.andi .e (.r 12) (.r 14) 2919), some (.ori .a (.r 13) (.r 15) 2919), some
       (.xori .e (.r 14) (.r 0) 2919), some (.slti .a (.r 15) (.r 1) 2919), some (.sltiu .e (.r 0) (.r 2) 2919), some
       (.slli .a (.r 1) (.r 3) 45), some (.srli .e (.r 2) (.r 4) 45), some (.srai .a (.r 3) (.r 5) 45), some (.lim .e
       (.r 4) 747309), some (.bfx .a (.r 5) (.r 7) 21 42), some (.bfxu .e (.r 6) (.r 8) 21 42), some (.bfi .a (.r 7)
       (.r 9) 21 42)] := by rfl

theorem test_words_control :
    [0xA02532D9, 0x2055B6D9, 0xA0A63AD9, 0x20D6BED9, 0xA12702D9, 0x215786D9, 0xA30016CE, 0x22F816CE, 0xA5000000,
     0x2411C000, 0xA6000000, 0x28380011, 0xA9021021, 0x2902A021, 0xA9033021, 0x2A000000, 0xAA881004, 0x2A982004].map (decodeTableWord 32) =
      [some (.beq .e .hold (.r 10) (.r 12) 729), some (.bne .a .target (.r 11) (.r 13) 729), some (.blt .e .hold (.r 12) (.r
       14) 729), some (.bge .a .target (.r 13) (.r 15) 729), some (.bltu .e .hold (.r 14) (.r 0) 729), some (.bgeu .a
       .target (.r 15) (.r 1) 729), some (.j .e 5838), some (.jal .a (.r 15) 5838), some (.jr .e (.r 0)), some (.jalr
       .a (.r 1) (.r 3)), some (.done .e), some (.csrr .a (.r 3) 17), some (.csrw .e (.r 4) 33), some (.csrs .a (.r 5)
       33), some (.csrc .e (.r 6) 33), some (.nop .a), some (.wfld .e (.r 8) 4), some (.qcnt .a (.r 9) 4)] := by rfl

theorem test_words_load_store :
    [0x30C74B67, 0x32D7AB67, 0x34E04B67, 0x36F0AB67, 0x38011201, 0x38119602, 0x38221A05, 0x38329E06, 0x38432209,
     0x3853A60A, 0x38642A0D, 0x3874AE0E, 0x38853211, 0x3895B5F2, 0x3AA63A01, 0x3AB6BE02, 0x3AC70205, 0x3AD78606,
     0x3AE00A09, 0x3AF08E0A, 0x3A01120D, 0x3A11960E, 0x3A221A11, 0x3A329D32, 0x3D080004, 0x3D08102D, 0x3C642B67,
     0x3D03BB67].map (decodeTableWord 32) =
      [some (.lds (.r 12) (.r 14) .w 2919), some (.sts (.r 13) (.r 15) .h 2919), some (.ldg (.r 14) (.r 0) .w 2919), some
       (.stg (.r 15) (.r 1) .h 2919), some (.amoAddSp (.r 0) (.r 2) (.r 4) .d), some (.amoAndSp (.r 1) (.r 3) (.r 5)
       .w), some (.amoOrSp (.r 2) (.r 4) (.r 6) .d), some (.amoXorSp (.r 3) (.r 5) (.r 7) .w), some (.amoMinSp (.r 4)
       (.r 6) (.r 8) .d), some (.amoMaxSp (.r 5) (.r 7) (.r 9) .w), some (.amoMinuSp (.r 6) (.r 8) (.r 10) .d), some
       (.amoMaxuSp (.r 7) (.r 9) (.r 11) .w), some (.amoSwapSp (.r 8) (.r 10) (.r 12) .d), some (.casSp (.r 9) (.r 11)
       (.r 13) (.r 15) .w), some (.amoAddGlobal (.r 10) (.r 12) (.r 14) .d), some (.amoAndGlobal (.r 11) (.r 13) (.r
       15) .w), some (.amoOrGlobal (.r 12) (.r 14) (.r 0) .d), some (.amoXorGlobal (.r 13) (.r 15) (.r 1) .w), some
       (.amoMinGlobal (.r 14) (.r 0) (.r 2) .d), some (.amoMaxGlobal (.r 15) (.r 1) (.r 3) .w), some (.amoMinuGlobal
       (.r 0) (.r 2) (.r 4) .d), some (.amoMaxuGlobal (.r 1) (.r 3) (.r 5) .w), some (.amoSwapGlobal (.r 2) (.r 4) (.r
       6) .d), some (.casGlobal (.r 3) (.r 5) (.r 7) (.r 9) .w), some (.fence .pkg), some (.fenceQ 45), some (.xprobe
       (.r 6) (.r 8) 2919), some (.pf (.r 7) 2919)] := by rfl

theorem test_words_channels :
    [0x4090532D, 0x42AB6C2D, 0x44CC8400, 0x44F0842B, 0x4710840B, 0x4730841C, 0x4750842D, 0x49700C00, 0x49822188,
     0x49A32C10, 0x49C48418, 0x49E53C20, 0x48064428, 0x48053A70].map (decodeTableWord 32) =
      [some (.send 4 (.r 10) (.r 12) 45), some (.recv 5 (.r 11) (.r 13) 45), some (.offer 6 (.r 12)), some (.select 7 11),
       some (.close 8 11), some (.deleg 9 12), some (.adopt 10 13), some (.epBind 11 (.r 1)), some (.epConn 12 (.r 2)
       (.r 4) (.r 6)), some (.epAcc 13 (.r 3) (.r 5)), some (.epSt 14 (.r 4)), some (.atLoad 15 (.r 5) (.r 7)), some
       (.epShr 0 (.r 6) (.r 8)), some (.post (.r 5) (.r 7) (.r 9))] := by rfl

theorem test_words_copies :
    [0x4D032144, 0x4D03A56A, 0x4D042991, 0x4D04ADBA, 0x4F0531C3, 0x4F05B5EA, 0x4F063810, 0x50D84200, 0x51074204,
     0x50F0C208, 0x5100088C, 0x5100C210, 0x53011200, 0x53019604, 0x52434208].map (decodeTableWord 32) =
      [some (.cpGet (.r 6) (.r 8) (.r 10) .code), some (.cpPut (.r 7) (.r 9) (.r 11) .cb), some (.cpGath (.r 8) (.r 10) (.r
       12) .ab), some (.cpScat (.r 9) (.r 11) (.r 13) .cb), some (.cpUnpk (.r 10) (.r 12) (.r 14) .wb), some (.cpPack
       (.r 11) (.r 13) (.r 15) .cb), some (.cpFill (.r 12) (.r 14) (.r 0) .sp), some (.cpSeal (.r 13)), some (.cpWait
       (.r 14)), some (.cpSt (.r 15) (.r 1)), some (.fwSet (.r 0) (.r 2) (.r 4)), some (.fwClr (.r 1)), some (.swInit
       (.r 2) (.r 4)), some (.swWait (.r 3) (.r 5)), some (.swRd (.r 4) (.r 6))] := by rfl

theorem test_words_regions :
    [0x55029D20, 0x55034204, 0x5503A608, 0x5485420C, 0x5504AE10, 0x56A63870, 0x5705C004, 0x56C84038, 0x5706C04C].map (decodeTableWord 32) =
      [some (.rgArm (.r 5) (.r 7) (.r 9)), some (.rgDisarm (.r 6)), some (.rgAdd (.r 7) (.r 9)), some (.rgRd (.r 8) (.r 10)),
       some (.rgBind (.r 9) (.r 11)), some (.wnReg (.r 10) (.r 12) (.r 14) 7), some (.wnUnreg (.r 11)), some (.wnCc
       (.r 12) 3), some (.wnWait (.r 13) 4)] := by rfl

theorem test_words_capsules :
    [0x58E04000, 0x59084022, 0x590042C4, 0x59084246, 0x59014048, 0x583840AA, 0x5902402C, 0x5908402E, 0x59084010, 0x5874C032].map (decodeTableWord 32) =
      [some (.capNew (.r 14) (.r 0) 0), some (.capFwd 1), some (.capIns (.r 0) 11 0), some (.capDel 9 0), some (.capRep (.r
       2) 1 0), some (.capRd (.r 3) 2 1), some (.capDiv (.r 4) 1), some (.capRet 1), some (.capKill 0), some (.capHdr
       (.r 7) (.r 9) 1)] := by rfl

theorem test_words_vector_lanes :
    [0xE13A8720, 0xE1434721, 0xE18C8722, 0xE1D54723, 0xE01E8724, 0xE0674725, 0xE0A88726, 0xE0F04727, 0xE1388728,
     0xE1434729, 0xE18C872A, 0xE1D5472B, 0xE01E872C, 0xE060472D, 0xE0A8872E, 0xE0F0472F, 0xE1388730, 0xE1404731,
     0xE1888732].map (decodeTableWord 32) =
      [some (.vadd 4 7 2 ⟨.col, .r 3, 9⟩), some (.vsub 5 0 3 ⟨.row, .r 3, 9⟩), some (.vmul 6 1 4 ⟨.col, .r 3, 9⟩), some
       (.vfma 7 2 5 ⟨.row, .r 3, 9⟩), some (.vfms 0 3 6 ⟨.col, .r 3, 9⟩), some (.vmax 1 4 7 ⟨.row, .r 3, 9⟩), some
       (.vmin 2 5 0 ⟨.col, .r 3, 9⟩), some (.vabs 3 6 ⟨.row, .r 3, 9⟩), some (.vneg 4 7 ⟨.col, .r 3, 9⟩), some
       (.vcmpEq 5 0 3 ⟨.row, .r 3, 9⟩), some (.vcmpNe 6 1 4 ⟨.col, .r 3, 9⟩), some (.vcmpLt 7 2 5 ⟨.row, .r 3, 9⟩),
       some (.vcmpLe 0 3 6 ⟨.col, .r 3, 9⟩), some (.vrsum 1 4 ⟨.row, .r 3, 9⟩), some (.vrmax 2 5 ⟨.col, .r 3, 9⟩),
       some (.vexp2 3 6 ⟨.row, .r 3, 9⟩), some (.vlog2 4 7 ⟨.col, .r 3, 9⟩), some (.vrcp 5 0 ⟨.row, .r 3, 9⟩), some
       (.vrsqrt 6 1 ⟨.col, .r 3, 9⟩)] := by rfl

theorem test_words_vector_integers :
    [0xE3D54720, 0xE21E8721, 0xE2674722, 0xE2A88723, 0xE2F14724, 0xE3388725, 0xE3404726, 0xE38C8727, 0xE3D54728,
     0xE21E8729, 0xE267472A, 0xE2A8872B, 0xE2F1472C, 0xE33A872D, 0xE343472E, 0xE38C872F, 0xE3D54730, 0xE21E8731,
     0xE2604732, 0xE2A88733, 0xE2F14734, 0xE33A8735].map (decodeTableWord 32) =
      [some (.vaddI 7 2 5 ⟨.row, .r 3, 9⟩), some (.vsubI 0 3 6 ⟨.col, .r 3, 9⟩), some (.vmli 1 4 7 ⟨.row, .r 3, 9⟩), some
       (.vmaxI 2 5 0 ⟨.col, .r 3, 9⟩), some (.vminI 3 6 1 ⟨.row, .r 3, 9⟩), some (.vabsI 4 7 ⟨.col, .r 3, 9⟩), some
       (.vnegI 5 0 ⟨.row, .r 3, 9⟩), some (.vand 6 1 4 ⟨.col, .r 3, 9⟩), some (.vor 7 2 5 ⟨.row, .r 3, 9⟩), some
       (.vxor 0 3 6 ⟨.col, .r 3, 9⟩), some (.vshl 1 4 7 ⟨.row, .r 3, 9⟩), some (.vshr 2 5 0 ⟨.col, .r 3, 9⟩), some
       (.vsra 3 6 1 ⟨.row, .r 3, 9⟩), some (.vcmpEqI 4 7 2 ⟨.col, .r 3, 9⟩), some (.vcmpNeI 5 0 3 ⟨.row, .r 3, 9⟩),
       some (.vcmpLtI 6 1 4 ⟨.col, .r 3, 9⟩), some (.vcmpLeI 7 2 5 ⟨.row, .r 3, 9⟩), some (.vcmpLtu 0 3 6 ⟨.col, .r 3,
       9⟩), some (.vrsumI 1 4 ⟨.row, .r 3, 9⟩), some (.vrmaxI 2 5 ⟨.col, .r 3, 9⟩), some (.vclmul 3 6 1 ⟨.row, .r 3,
       9⟩), some (.vclmulh 4 7 2 ⟨.col, .r 3, 9⟩)] := by rfl

theorem test_words_vector_moves :
    [0xE5404720, 0xE58C8721, 0xE5D02002, 0xE41E8723, 0xE4674724, 0xE4A84725, 0xE4F04726, 0xE5388727, 0xE5404728,
     0xE5888729, 0xE7DA8E40, 0xE61C1E84, 0xE65E1E88, 0xE6829E8C, 0xE8C28E50, 0xE9050E68, 0xEB468E50, 0xEB890E61,
     0xEBCA8E59, 0xEA0D0E6A, 0xEA4E8E5B, 0xEA910E6C, 0xEAD28E5D].map (decodeTableWord 32) =
      [some (.vmov 5 0 ⟨.row, .r 3, 9⟩), some (.vsel 6 1 4 ⟨.col, .r 3, 9⟩), some (.vtr 7 2), some (.vperm 0 3 6 ⟨.col, .r 3,
       9⟩), some (.vrot 1 4 7 ⟨.row, .r 3, 9⟩), some (.vcvtFb 2 5 ⟨.row, .r 3, 9⟩), some (.vcvtBf 3 6 ⟨.row, .r 3,
       9⟩), some (.vcvtFi 4 7 ⟨.col, .r 3, 9⟩), some (.vcvtIf 5 0 ⟨.row, .r 3, 9⟩), some (.vcvtI8 6 1 ⟨.col, .r 3,
       9⟩), some (.vbcast 7 (.r 13) ⟨.row, .r 3, 9⟩), some (.vins 0 (.r 14) (.r 7) 10), some (.vext 1 (.r 15) (.r 7)
       10), some (.ltab 2 1 (.r 7) 10), some (.vld 3 (.r 1) .ab ⟨.row, .r 3, 9⟩), some (.vst 4 (.r 2) .cb ⟨.col, .r 3,
       9⟩), some (.vunpkF 5 (.r 3) .ab ⟨.row, .r 3, 9⟩), some (.vunpkBf 6 (.r 4) .cb ⟨.col, .r 3, 9⟩), some (.vpkE2m1
       7 (.r 5) .ab ⟨.row, .r 3, 9⟩), some (.vpkLut4 0 (.r 6) .cb ⟨.col, .r 3, 9⟩), some (.vpkE4m3 1 (.r 7) .ab ⟨.row,
       .r 3, 9⟩), some (.vpkE5m2 2 (.r 8) .cb ⟨.col, .r 3, 9⟩), some (.vpkInt8 3 (.r 9) .ab ⟨.row, .r 3, 9⟩)] := by rfl

theorem test_words_matrix :
    [0xF0853200, 0xF095B404, 0xF1084008, 0xF0B8400C, 0xF1084010, 0xF0D84014].map (decodeTableWord 32) =
      [some (.mma (.r 8) (.r 10) (.r 12) 1), some (.mmaBf16 (.r 9) (.r 11) (.r 13) 0), some (.mmZero 0), some (.mmSt (.r
       11)), some .mmFence, some (.mmCfg (.r 13))] := by rfl

theorem test_words_scheduler :
    [0x78E04000, 0x78F08C04, 0x78011008, 0x7811C00C, 0x790140B0, 0x79084074, 0x79084098, 0x7B084000, 0x7B034004,
     0x7B03C008, 0x7A85400C, 0x7A95C010].map (decodeTableWord 32) =
      [some (.spawn (.r 14) (.r 0)), some (.gang (.r 15) (.r 1) (.r 3)), some (.fork (.r 0) (.r 2) (.r 4)), some (.join (.r
       1) (.r 3)), some (.hpri (.r 2) 5), some (.hmsk 3), some (.humsk 4), some .rpl, some (.sealCore (.r 6)), some
       (.thaw (.r 7)), some (.evict (.r 8) (.r 10)), some (.rstr (.r 9) (.r 11))] := by rfl

/-! ## Instructions that have no encoding, one for each check of WellFormed (R109 to R118) -/

theorem test_wf_accepts : (Instr.add .a .fq (.r 1) .rq).wellFormed = true := by decide
theorem test_wf_source : (Instr.add .a (.r 0) .lq (.r 0)).wellFormed = false := by decide
theorem test_wf_source_of_execute : (Instr.add .e (.r 0) .rq (.r 0)).wellFormed = false := by decide
theorem test_wf_destination : (Instr.add .a .sq (.r 0) (.r 0)).wellFormed = false := by decide
theorem test_wf_destination_of_load : (Instr.lds .rq (.r 0) .b 0).wellFormed = false := by decide
theorem test_wf_data : (Instr.sts .fq (.r 0) .b 0).wellFormed = false := by decide
theorem test_wf_both : (Instr.bfi .a .z (.r 0) 0 0).wellFormed = false := by decide
theorem test_wf_bit_field : (Instr.bfx .a (.r 0) (.r 0) 1 63).wellFormed = false := by decide
theorem test_wf_system_register : (Instr.csrr .a (.r 0) 0x00B).wellFormed = false := by decide
theorem test_wf_read_only_register : (Instr.csrw .a (.r 0) 0x018).wellFormed = false := by decide
theorem test_wf_field_number : (Instr.wfld .a (.r 0) 6).wellFormed = false := by decide
theorem test_wf_queue_number : (Instr.qcnt .a (.r 0) 12).wellFormed = false := by decide
theorem test_wf_storage : (Instr.cpPut (.r 0) (.r 0) (.r 0) .code).wellFormed = false := by decide
theorem test_wf_storage_of_unpack : (Instr.cpUnpk (.r 0) (.r 0) (.r 0) .sp).wellFormed = false := by decide
theorem test_wf_storage_of_pack : (Instr.cpPack (.r 0) (.r 0) (.r 0) .wb).wellFormed = false := by decide
theorem test_wf_storage_of_fill : (Instr.cpFill (.r 0) (.r 0) (.r 0) .ab).wellFormed = false := by decide
theorem test_wf_index : (Instr.vmov 0 0 ⟨.row, .lq, 0⟩).wellFormed = false := by decide
theorem test_wf_whole_tile : (Instr.vmov 0 0 ⟨.whole, .z, 1⟩).wellFormed = false := by decide
theorem test_wf_column : (Instr.vcvtFb 0 0 ⟨.col, .r 0, 0⟩).wellFormed = false := by decide

/-! ## Functions that the spec names by a standard -/

/-- FIPS 202's example for the message "abc", its digest as a little-endian number. -/
theorem test_sha3 : sha3 [0x61, 0x62, 0x63] = 0x3215431145e2bf465b529d3e6e085f85bd90d36b2d175c04b225e24fa75d983a := by decide +kernel

/-- The check value of this CRC-24 for the digits 1 to 9. -/
theorem test_crc24 : crc24 [0x31, 0x32, 0x33, 0x34, 0x35, 0x36, 0x37, 0x38, 0x39] = 0x21CF02 := by decide +kernel

/-! ## Small states -/

/-- An activation of core 0 of service privilege, with values in `a1` to `a3` and `e1` to `e3`. -/
def thread (x y z : Word := 0) : Act :=
  let regs : Vector RegCell 16 := #v[{}, { val := x }, { val := y }, { val := z }, {}, {}, {}, {}, {}, {}, {}, {}, {}, {}, {}, {}]
  { id := 1, priv := true, a := { regs := regs }, e := { regs := regs } }

/-- A core that runs an activation. -/
def runs (a : Act) : Core := { life := .running, act := some a, codeLim := 32768 }

/-- A machine of which only core 0 is listed. -/
def box (c : Core) : State := { cores := [(0, c)] }

/-- The word would issue on that core, with those values read. -/
def Ready (c : Core) (i : Instr) (vals : List Word) : Prop := ∃ n a b, needs i = some n ∧ CanIssue (box c) n a vals b

theorem ready {c : Core} {i : Instr} {vals : List Word} (n : Need) (a b : Act) (h0 : needs i = some n)
    (h1 : c.life = .running) (h2 : c.act = some a) (h3 : (a.str n.st).ended = false) (h4 : (a.str n.st).hold = none)
    (h5 : a.priv = true) (h6 : (a.str n.st).hints.broken n.imm n.st = none) (h7 : c.obstacle a n = none)
    (h8 : a.readAll a n.st n.srcs = .ok (vals, b)) : Ready c i vals :=
  ⟨n, a, b, h0, h1, h2, h3, h4, fun _ => h5, h6, h7, h8⟩

/-! ## States that meet the hypotheses of the statements -/

theorem witness_HintsBecomePendingOrFreeze :
    (∃ a, (box (runs thread)).core 0 = runs a ∧ (runs a).act = some a ∧ a.a.hints.imm = none ∧ a.a.hold = none) ∧
    (∃ a : Act, a.a.hints = { imm := some 5 } ∧ ((box (runs a)).core 0).act = some a ∧ a.a.ended = false) ∧
    (∃ a : Act, a.a.hints = { imm := some 5, second := some 6 } ∧ ((box (runs a)).core 0).act = some a ∧
      needs (.lim .a (.r 1) 0) = some { st := .a, imm := true, dst := .now (.r 1) }) ∧
    ∃ a : Act, a.a.hints.imm.isSome ∧ ((box (runs a)).core 0).act = some a ∧ needs (.nop .a) = some { st := .a } :=
  ⟨⟨thread, rfl, rfl, rfl, rfl⟩, ⟨{ thread with a := { hints := { imm := some 5 } } }, rfl, rfl, rfl⟩,
    ⟨{ thread with a := { hints := { imm := some 5, second := some 6 } } }, rfl, rfl, rfl⟩,
    ⟨{ thread with a := { hints := { imm := some 5 } } }, rfl, rfl, rfl⟩⟩

theorem witness_WordsThatMayNotRunFreezeOrStall :
    (∃ a n, needs .rpl = some n ∧ n.priv = true ∧ (runs a).act = some a ∧ a.priv = false ∧ a.a.hold = none) ∧
    (∃ a n, needs (.vmov 0 1 ⟨.whole, .z, 0⟩) = some n ∧
      ({ runs a with vq := List.replicate 64 { op := .rpl } } : Core).obstacle a n = some (.engine .vector)) ∧
    ∃ a n, needs (.addi .e (.r 1) .lq 0) = some n ∧ (runs a).obstacle a n = none ∧
      a.readAll a n.st n.srcs = .error (.pop .lq 0) :=
  ⟨⟨{ thread with priv := false }, _, rfl, rfl, rfl, rfl, rfl⟩, ⟨thread, _, rfl, rfl⟩, ⟨thread, _, rfl, rfl, rfl⟩⟩

theorem witness_SourcesAndDestinations :
    (∃ b, thread.readAll thread .a [.r 1, .z] = .ok ([0, 0], b)) ∧
    ∃ a b : Act, a.lq = [{ val := some 7 }, { val := some 8 }] ∧ a.readAll a .e [.lq, .z, .lq] = .ok ([7, 0, 8], b) ∧ b.lq = [] :=
  ⟨⟨_, rfl⟩, ⟨{ thread with lq := [{ val := some 7 }, { val := some 8 }] }, _, rfl, rfl, rfl⟩⟩

theorem witness_ArithmeticForms :
    (Ready (runs (thread 0x8000000000000000 (-1))) (.div .a (.r 4) (.r 1) (.r 2)) [0x8000000000000000, -1] ∧
      regResult (.div .a (.r 4) (.r 1) (.r 2)) [0x8000000000000000, -1] = some 0x8000000000000000) ∧
    Ready (runs (thread 5)) (.slti .e (.r 4) (.r 1) 0xFFF) [5] ∧
      immResult {} (.slti .e (.r 4) (.r 1) 0xFFF) [5] = some 0 :=
  ⟨⟨ready _ _ _ rfl rfl rfl rfl rfl rfl rfl rfl rfl, by decide⟩, ready _ _ _ rfl rfl rfl rfl rfl rfl rfl rfl rfl, by decide⟩

theorem witness_BranchesAndJumps :
    Ready (runs (thread 5 5)) (.beq .a .fall (.r 1) (.r 2) 511) [5, 5] ∧ 4 * 511 < 32768 ∧
    Ready (runs (thread 5 6)) (.beq .a .fall (.r 1) (.r 2) 511) [5, 6] ∧
    Ready { runs (thread 5 5) with codeLim := 8 } (.beq .a .fall (.r 1) (.r 2) 2) [5, 5] ∧
    Ready (runs thread) (.j .a 8191) [] ∧ 4 * (8191#13).toNat < 32768 ∧ Ready (runs thread) (.jal .e (.r 1) 0) [] ∧
    Ready { runs thread with codeLim := 8 } (.j .a 2) [] ∧
    Ready (runs (thread 32764)) (.jalr .a (.r 2) (.r 1)) [32764] ∧ Ready (runs (thread 2)) (.jr .e (.r 1)) [2] ∧
    Ready (runs (thread 32768)) (.jr .e (.r 1)) [32768] := by
  refine ⟨?_, by decide, ?_, ?_, ?_, by decide, ?_, ?_, ?_, ?_, ?_⟩ <;>
    exact ready _ _ _ rfl rfl rfl rfl rfl rfl rfl rfl rfl

theorem witness_SystemRegisters :
    Ready (runs thread) (.csrr .a (.r 4) 0x012) [] ∧ (0x012, 4194304) ∈ sysregs (box (runs thread)) thread ∧
    Ready (runs thread) (.csrr .a (.r 4) 0x021) [] ∧
      (0x021, 19 + 2 ^ 14 + 2 ^ 15 + 2 * 2 ^ 16) ∈ sysregs (box { runs thread with
        hdSel := 19, hdl := ({} : Core).hdl.set 19 { valid := true, enable := true, src := 2 } }) thread ∧
    Ready (runs thread) (.csrr .e (.r 4) 0x047) [] ∧ (0x047, 9) ∈ sysregs (box (runs thread)) { thread with svc := [0, 0, 0, 0, 0, 0, 0, 9] } ∧
    Ready (runs (thread 7)) (.csrw .a (.r 1) 0x013) [7] ∧ csrForm (.csrw .a (.r 1) 0x013) = some (0x013, fun _ x => x) ∧
    ∃ k z, sysregWritten (runs thread) thread 0x013 7 = some (k, z) ∧ k.codeLim = 4 :=
  ⟨ready _ _ _ rfl rfl rfl rfl rfl rfl rfl rfl rfl, by decide, ready _ _ _ rfl rfl rfl rfl rfl rfl rfl rfl rfl, by decide +kernel,
    ready _ _ _ rfl rfl rfl rfl rfl rfl rfl rfl rfl, by decide +kernel, ready _ _ _ rfl rfl rfl rfl rfl rfl rfl rfl rfl, rfl, _, _, rfl, rfl⟩

theorem witness_DoneNopFieldsAndCounts :
    Ready (runs thread) (.done .a) [] ∧ thread.e.ended = false ∧ (∃ a : Act, a.e.ended = true ∧ Ready (runs a) (.done .a) []) ∧
    Ready (runs thread) (.nop .e) [] ∧ Ready (runs thread) (.wfld .a (.r 1) 5) [] ∧ Ready (runs thread) (.qcnt .a (.r 1) 11) [] := by
  refine ⟨?_, rfl, ⟨{ thread with e := { ended := true } }, rfl, ?_⟩, ?_, ?_, ?_⟩ <;> exact ready _ _ _ rfl rfl rfl rfl rfl rfl rfl rfl rfl

theorem witness_AccessesEnter :
    (Ready (runs (thread 0x17FFC)) (.lds (.r 4) (.r 1) .w 0) [0x17FFC] ∧
      accessOf (.lds (.r 4) (.r 1) .w 0) = some ⟨false, 4, true, 0, false⟩ ∧ (runs thread).isBad .sp 0x17FFC 4 = false) ∧
    Ready (runs (thread 0x17FFD)) (.lds (.r 4) (.r 1) .w 0) [0x17FFD] ∧
    Ready (runs (thread (2 ^ 52 - 1))) (.ldg (.r 4) (.r 1) .b 0) [2 ^ 52 - 1] ∧
    Ready (runs (thread (2 ^ 52))) (.stg (.r 2) (.r 1) .b 0) [0, 2 ^ 52] ∧
    (Ready (runs (thread 0x17FF8 1)) (.amoAddSp (.r 4) (.r 1) (.r 2) .d) [0x17FF8, 1] ∧
      atomicOf (.amoAddSp (.r 4) (.r 1) (.r 2) .d) = some (.amo .add, false, .d)) ∧
    Ready (runs (thread 0x18000 1)) (.amoAddSp (.r 4) (.r 1) (.r 2) .d) [0x18000, 1] ∧
    Ready (runs (thread 4 1)) (.casGlobal (.r 4) (.r 1) (.r 2) (.r 3) .d) [4, 1, 0] ∧
    Ready (runs (thread (2 ^ 52 - 8) 1)) (.casGlobal (.r 4) (.r 1) (.r 2) (.r 3) .d) [2 ^ 52 - 8, 1, 0] ∧
    Ready (runs (thread (2 ^ 52) 1)) (.casGlobal (.r 4) (.r 1) (.r 2) (.r 3) .d) [2 ^ 52, 1, 0] := by
  refine ⟨⟨?_, rfl, rfl⟩, ?_, ?_, ?_, ⟨?_, rfl⟩, ?_, ?_, ?_, ?_⟩ <;> exact ready _ _ _ rfl rfl rfl rfl rfl rfl rfl rfl rfl

theorem witness_FencesProbesAndRegionWordsEnter :
    Ready (runs thread) (.fence .pkg) [] ∧ Ready (runs thread) (.fenceQ 63) [] ∧
    Ready (runs (thread (2 ^ 52 - 1))) (.xprobe (.r 4) (.r 1) 0) [2 ^ 52 - 1] ∧ Ready (runs thread) (.pf (.r 1) 0) [0] ∧
    Ready (runs thread) (.rgArm (.r 1) (.r 2) (.r 3)) [0, 0, 0] ∧
    regionOf (box (runs thread)) [0, 0, 0] (.rgArm (.r 1) (.r 2) (.r 3)) = some (false, 0, 0, 0) ∧
    Ready (runs thread) (.wnReg (.r 4) (.r 1) (.r 2) 7) [0, 0] ∧ Ready (runs thread) (.wnCc (.r 4) 7) [] ∧
    Ready (runs thread) (.wnWait (.r 1) 7) [0] := by
  refine ⟨?_, ?_, ?_, ?_, ?_, rfl, ?_, ?_, ?_⟩ <;> exact ready _ _ _ rfl rfl rfl rfl rfl rfl rfl rfl rfl

/-- A transition (Table 07.2). -/
def edge (src to_ : Nat) (recv : Bool) (kind ty szc label : Nat) : Nat :=
  src * 2 ^ 28 + to_ * 2 ^ 24 + (if recv then 2 ^ 23 else 0) + kind * 2 ^ 21 + ty * 2 ^ 15 + szc * 2 ^ 11 + label * 2 ^ 7

/-- An endpoint that is connected, with one transition. -/
def joined (w : Nat) : Ep := { life := .connected, aut := some { nst := 2, shared := false, edges := [w] } }

/-- A mailbox that knows type 5, of 64 bytes, with a number of slots. -/
def mailbox (n : Nat) (shut : Bool) : Ep :=
  { life := .shared, aut := some { nst := 1, shared := true, edges := [edge 0 0 true 0 5 2 0] }, mslots := n, msize := 64
    msealed := shut }

/-- A core with an endpoint 3. -/
def speaks (a : Act) (e : Ep) : Core := { runs a with eps := ({} : Core).eps.set 3 e }

/-- A core with an endpoint 3 and an endpoint 4. -/
def speaksTwice (a : Act) (e f : Ep) : Core := { runs a with eps := (({} : Core).eps.set 3 e).set 4 f }

theorem witness_ConversationFollowsTheAutomaton :
    (Ready (speaks (thread 0 256) (joined (edge 0 1 false 0 5 4 0))) (.send 3 (.r 1) (.r 2) 5) [0, 256] ∧
      Passes (speaks (thread 0 256) (joined (edge 0 1 false 0 5 4 0))) (.send 3 (.r 1) (.r 2) 5)
        (joined (edge 0 1 false 0 5 4 0)) [0, 256] (some 1) (some 1)) ∧
    (Ready (speaks (thread 0x17F00) (joined (edge 0 1 true 0 5 4 0))) (.recv 3 (.r 4) (.r 1) 5) [0x17F00] ∧
      Passes (speaks (thread 0x17F00) (joined (edge 0 1 true 0 5 4 0))) (.recv 3 (.r 4) (.r 1) 5)
        (joined (edge 0 1 true 0 5 4 0)) [0x17F00] (some 1) (some 1)) ∧
    (Ready (speaks thread (joined (edge 0 1 true 1 0 0 2))) (.offer 3 (.r 4)) [] ∧
      Passes (speaks thread (joined (edge 0 1 true 1 0 0 2))) (.offer 3 (.r 4)) (joined (edge 0 1 true 1 0 0 2)) [] none (some 0)) ∧
    (Ready (speaks thread (joined (edge 0 1 false 1 0 0 2))) (.select 3 2) [] ∧
      Passes (speaks thread (joined (edge 0 1 false 1 0 0 2))) (.select 3 2) (joined (edge 0 1 false 1 0 0 2)) [] (some 1) (some 1)) ∧
    (let c := speaksTwice thread (joined (edge 0 1 false 2 0 0 0)) (joined 0)
     Ready c (.deleg 3 4) [] ∧ Passes c (.deleg 3 4) (joined (edge 0 1 false 2 0 0 0)) [] (some 1) (some 1)) ∧
    (∀ w, (speaks thread (joined w)).eps[3].life = .connected) ∧
    (Ready (speaks thread { life := .closed }) (.offer 3 (.r 4)) [] ∧ Ready (speaks thread { life := .closed }) (.select 3 2) [] ∧
      Ready (speaks thread { life := .closed }) (.deleg 3 4) [] ∧ Ready (speaks thread { life := .closed }) (.close 3 1) []) ∧
    (Ready (speaks thread { life := .closed }) (.send 3 (.r 1) (.r 2) 5) [0, 0] ∧
      SpanFits (speaks thread { life := .closed }) (.send 3 (.r 1) (.r 2) 5) [0, 0]) ∧
    (Ready (speaks thread { life := .closed }) (.recv 3 (.r 4) (.r 1) 5) [0] ∧
      SpanFits (speaks thread { life := .closed }) (.recv 3 (.r 4) (.r 1) 5) [0]) ∧
    (Ready (speaks thread { life := .closed }) (.adopt 3 4) [] ∧ ({} : Ep).mayAdopt = false ∧
      ({ range := some (0, 64) } : Ep).mayAdopt = true ∧ Ready (speaksTwice thread { life := .closed } { range := some (0, 64) }) (.adopt 3 4) []) ∧
    (Ready (speaks thread (mailbox 1 false)) (.close 3 1) [] ∧ Ready (speaks thread (mailbox 1 false)) (.recv 3 (.r 4) (.r 1) 5) [0] ∧
      SpanFits (speaks thread (mailbox 1 false)) (.recv 3 (.r 4) (.r 1) 5) [0] ∧
      ∃ z, (mailbox 1 false).aut = some z ∧ ∃ w ∈ z.edges, edgeType w = 5) ∧
    (Ready (speaks thread (joined (edge 1 0 false 0 0 0 0))) (.close 3 1) [] ∧ (joined (edge 1 0 false 0 0 0 0)).outs = []) ∧
    (Ready (speaks thread (joined (edge 0 1 false 3 0 0 0))) (.close 3 1) [] ∧
      (joined (edge 0 1 false 3 0 0 0)).outs = [edge 0 1 false 3 0 0 0]) ∧
    (Ready (speaks thread (joined (edge 0 1 false 0 0 0 0))) (.close 3 1) [] ∧
      (joined (edge 0 1 false 0 0 0 0)).outs = [edge 0 1 false 0 0 0 0] ∧ edgeKind (edge 0 1 false 0 0 0 0) ≠ 3) := by
  refine ⟨⟨?_, .send _ _ _ _ _ _ _ (edge 0 1 false 0 5 4 0) ⟨rfl, rfl, by decide⟩ rfl (by decide) (by decide)⟩,
    ⟨?_, .recv _ _ _ _ _ _ (edge 0 1 true 0 5 4 0) ⟨rfl, rfl, by decide⟩ rfl (by decide)⟩,
    ⟨?_, .offer _ _ _ (edge 0 1 true 1 0 0 2) ⟨rfl, rfl, by decide⟩⟩,
    ⟨?_, .select _ _ _ (edge 0 1 false 1 0 0 2) (edge 0 1 false 1 0 0 2) ⟨rfl, rfl, by decide⟩ rfl⟩,
    ⟨?_, .deleg _ _ _ (edge 0 1 false 2 0 0 0) ⟨rfl, rfl, by decide⟩ (by decide) rfl⟩, fun _ => rfl,
    ⟨?_, ?_, ?_, ?_⟩, ⟨?_, .inl rfl⟩,
    ⟨?_, fun _ h => h.elim (fun h => nomatch (show none = some _ from h.2.1.1)) (fun h => nomatch (show EpLife.closed = .shared from h.1))⟩,
    ⟨?_, rfl, rfl, ?_⟩,
    ⟨?_, ?_, fun w h => by
      obtain h | ⟨_, y, e, f⟩ := h
      · exact (h.1 rfl).elim
      · cases (show (mailbox 1 false).aut = some y from e)
        cases (show some (edge 0 0 true 0 5 2 0) = some w from f)
        decide, _, rfl, _, .head _, rfl⟩,
    ⟨?_, rfl⟩, ⟨?_, rfl⟩, ⟨?_, rfl, by decide⟩⟩
  all_goals exact ready _ _ _ rfl rfl rfl rfl rfl rfl rfl rfl rfl

theorem witness_AdoptAndRefusals :
    (∃ c : Core, c = speaksTwice thread (joined (edge 0 1 true 2 0 0 0)) { range := some (0, 64) } ∧
      Ready c (.adopt 3 4) [] ∧ inAutomaton c.eps[3] ∧ edgeFor c.eps[3] true [2] (edge 0 1 true 2 0 0 0) ∧ c.eps[4].mayAdopt = true) ∧
    (∀ i ∈ [Instr.select 3 0, .close 3 0], Ready (runs thread) i [] ∧ Refuses (runs thread) i [] 3 6) ∧
    (Ready (speaks thread (mailbox 1 false)) (.select 3 0) [] ∧ Refuses (speaks thread (mailbox 1 false)) (.select 3 0) [] 3 9) ∧
    (Ready (speaks thread (mailbox 1 false)) (.recv 3 (.r 4) (.r 1) 6) [0] ∧
      Refuses (speaks thread (mailbox 1 false)) (.recv 3 (.r 4) (.r 1) 6) [0] 3 3) ∧
    (∀ w ∈ [edge 1 0 false 1 0 0 0, edge 0 1 true 1 0 0 0], Ready (speaks thread (joined w)) (.select 3 0) [] ∧
      Refuses (speaks thread (joined w)) (.select 3 0) [] 3 1) ∧
    (Ready (speaks thread (joined (edge 0 1 false 0 5 4 0))) (.deleg 3 4) [] ∧
      Refuses (speaks thread (joined (edge 0 1 false 0 5 4 0))) (.deleg 3 4) [] 3 2) ∧
    (Ready (speaks thread (joined (edge 0 1 false 0 5 4 0))) (.send 3 (.r 1) (.r 2) 6) [0, 0] ∧
      SpanFits (speaks thread (joined (edge 0 1 false 0 5 4 0))) (.send 3 (.r 1) (.r 2) 6) [0, 0] ∧
      Refuses (speaks thread (joined (edge 0 1 false 0 5 4 0))) (.send 3 (.r 1) (.r 2) 6) [0, 0] 3 3) ∧
    (Ready (speaks thread (joined (edge 0 1 false 1 0 0 2))) (.select 3 1) [] ∧
      Refuses (speaks thread (joined (edge 0 1 false 1 0 0 2))) (.select 3 1) [] 3 4) ∧
    (Ready (speaks (thread 0 257) (joined (edge 0 1 false 0 5 4 0))) (.send 3 (.r 1) (.r 2) 5) [0, 257] ∧
      Refuses (speaks (thread 0 257) (joined (edge 0 1 false 0 5 4 0))) (.send 3 (.r 1) (.r 2) 5) [0, 257] 3 5) ∧
    (Ready (speaks thread (joined (edge 0 1 false 2 0 0 0))) (.deleg 3 3) [] ∧
      Refuses (speaks thread (joined (edge 0 1 false 2 0 0 0))) (.deleg 3 3) [] 3 7) ∧
    (Ready (speaks thread (joined (edge 0 1 true 2 0 0 0))) (.adopt 3 4) [] ∧
      Refuses (speaks thread (joined (edge 0 1 true 2 0 0 0))) (.adopt 3 4) [] 3 7) ∧
    (Ready (speaks (thread 0x18000 1) (joined (edge 0 1 false 0 5 4 0))) (.send 3 (.r 1) (.r 2) 5) [0x18000, 1] ∧
      ¬ SpanFits (speaks (thread 0x18000 1) (joined (edge 0 1 false 0 5 4 0))) (.send 3 (.r 1) (.r 2) 5) [0x18000, 1]) ∧
    ∃ c : Core, ({ box c with turn := some (.drain 0 2) } : State).core 0 = c ∧ c.life = .frozen ∧ c.nq = [] ∧ (∀ y ∈ c.recs, y.1 ≠ 2) ∧
      c.eps[3].life = .connected ∧ c.closing = [(3, 16)] ∧ c.eps[4].life = .listening ∧ c.pair = none := by
  have on (w : Nat) : inAutomaton (joined w) := .head _
  refine ⟨⟨_, rfl, ?_, .head _, ⟨rfl, rfl, by decide⟩, rfl⟩, fun i h => ?_,
    ⟨?_, .shared _ _ _ ⟨_, rfl⟩ (fun _ _ _ h => nomatch h) rfl⟩,
    ⟨?_, .mailbox _ _ _ _ _ _ rfl rfl (by decide)⟩, fun w h => ?_, ⟨?_, .kind _ _ _ _ _ _ _ rfl (on _) rfl rfl (by decide)⟩,
    ⟨?_, .inl rfl, .type _ _ _ _ _ _ (edge 0 1 false 0 5 4 0) rfl (on _) ⟨rfl, rfl, by decide⟩ (by decide)⟩,
    ⟨?_, .label _ _ _ (edge 0 1 false 1 0 0 2) (on _) ⟨rfl, rfl, by decide⟩ (by decide)⟩,
    ⟨?_, .length _ _ _ _ _ _ (edge 0 1 false 0 5 4 0) (on _) ⟨⟨rfl, rfl, by decide⟩, fun _ h => by cases h; rfl⟩ (by decide)⟩,
    ⟨?_, .cannotMove _ _ _ (edge 0 1 false 2 0 0 0) (on _) ⟨rfl, rfl, by decide⟩ (.inl rfl)⟩,
    ⟨?_, .cannotAdopt _ _ _ (edge 0 1 true 2 0 0 0) (on _) ⟨rfl, rfl, by decide⟩ (.inr rfl)⟩, ⟨?_, by unfold SpanFits; decide⟩,
    { speaksTwice thread (joined 0) { life := .listening } with life := .frozen, closing := [(3, 16)] }, rfl, rfl, rfl,
    (fun _ h => nomatch h), rfl, rfl, rfl, rfl⟩
  case refine_2 =>
    simp only [List.mem_cons, List.not_mem_nil, or_false] at h
    rcases h with rfl | rfl
    · exact ⟨ready _ _ _ rfl rfl rfl rfl rfl rfl rfl rfl rfl, .life _ _ _ (.inl ⟨_, rfl⟩) (.head _)⟩
    · exact ⟨ready _ _ _ rfl rfl rfl rfl rfl rfl rfl rfl rfl, .life _ _ _ (.inr ⟨_, rfl⟩) (.head _)⟩
  case refine_5 =>
    simp only [List.mem_cons, List.not_mem_nil, or_false] at h
    rcases h with rfl | rfl
    · exact ⟨ready _ _ _ rfl rfl rfl rfl rfl rfl rfl rfl rfl, .direction _ _ _ _ _ _ rfl (on _) (fun w h => nomatch (show none = some w from h))⟩
    · refine ⟨ready _ _ _ rfl rfl rfl rfl rfl rfl rfl rfl rfl, .direction _ _ _ _ _ _ rfl (on _) fun w h => ?_⟩
      cases (show some (edge 0 1 true 1 0 0 0) = some w from h)
      decide
  all_goals exact ready _ _ _ rfl rfl rfl rfl rfl rfl rfl rfl rfl

theorem witness_SetUpWordsEnter :
    Ready (runs thread) (.epSt 3 (.r 4)) [] ∧ setsUp (.epSt 3 (.r 4)) = some (3, id) ∧
    Ready (runs thread) (.post (.r 4) (.r 1) (.r 2)) [0, 0] ∧
    Ready (runs (thread (64 * 2 ^ 32) 0x17FC1)) (.post (.r 4) (.r 1) (.r 2)) [64 * 2 ^ 32, 0x17FC1] ∧
    Ready (runs (thread (0x18000 * 2 ^ 32 + 0x17F00))) (.epBind 3 (.r 1)) [0x18000 * 2 ^ 32 + 0x17F00] ∧
    Ready (runs (thread 1)) (.epBind 3 (.r 1)) [1] ∧
    Ready (speaks thread (joined 0)) (.epBind 3 (.r 1)) [0] := by
  refine ⟨?_, rfl, ?_, ?_, ?_, ?_, ?_⟩ <;> exact ready _ _ _ rfl rfl rfl rfl rfl rfl rfl rfl rfl

theorem witness_CopyAndCapsuleWordsEnter :
    (Ready (runs (thread 0x17FC0 0 64)) (.cpGet (.r 1) (.r 2) (.r 3) .sp) [0x17FC0, 0, 64] ∧
      spansOf [0x17FC0, 0, 64] (.cpGet (.r 1) (.r 2) (.r 3) .sp) = some [(.sp, 0x17FC0, 64)]) ∧
    Ready (runs (thread 0x17FC1 0 64)) (.cpGet (.r 1) (.r 2) (.r 3) .sp) [0x17FC1, 0, 64] ∧
    Ready (runs thread) (.cpSeal (.r 4)) [] ∧
    Ready (runs (thread 0x17FC0)) (.capNew (.r 4) (.r 1) 1) [0x17FC0] ∧ Ready (runs (thread 0x17FC1)) (.capNew (.r 4) (.r 1) 1) [0x17FC1] ∧
    Ready (runs thread) (.capKill 0) [] ∧ isCapsule (.capKill 0) = true := by
  refine ⟨⟨?_, rfl⟩, ?_, ?_, ?_, ?_, ?_, rfl⟩ <;> exact ready _ _ _ rfl rfl rfl rfl rfl rfl rfl rfl rfl

theorem witness_VectorAndElementWordsEnter :
    (Ready (runs (thread 12)) (.vmov 0 1 ⟨.row, .r 1, 3⟩) [12] ∧ vecForm (.vmov 0 1 ⟨.row, .r 1, 3⟩) = some ⟨.row, 3, 1, none⟩ ∧
      vecIndex [12] 3 = 15) ∧
    (Ready (runs (thread 13)) (.vmov 0 1 ⟨.row, .r 1, 3⟩) [13] ∧ vecIndex [13] 3 = 16) ∧
    Ready (runs (thread 0x17800)) (.vld 0 (.r 1) .sp ⟨.whole, .z, 0⟩) [0x17800, 0] ∧
    Ready (runs (thread 0x17802)) (.vld 0 (.r 1) .sp ⟨.whole, .z, 0⟩) [0x17802, 0] ∧
    Ready (runs (thread 0x17804)) (.vld 0 (.r 1) .sp ⟨.whole, .z, 0⟩) [0x17804, 0] ∧
    Ready (runs (thread 511)) (.vins 0 (.r 2) (.r 1) 0) [0, 511] ∧ Ready (runs (thread 512)) (.vext 0 (.r 2) (.r 1) 0) [512] ∧
    Ready (runs thread) (.vpkLut4 0 (.r 1) .sp ⟨.whole, .z, 0⟩) [0, 0] := by
  refine ⟨⟨?_, rfl, rfl⟩, ⟨?_, rfl⟩, ?_, ?_, ?_, ?_, ?_, ?_⟩ <;> exact ready _ _ _ rfl rfl rfl rfl rfl rfl rfl rfl rfl

theorem witness_MatrixAndSchedulerWordsEnter :
    (Ready (runs (thread 0 0 1)) (.mma (.r 1) (.r 2) (.r 3) 1) [0, 0, 1] ∧ matOperandsOk thread (.mma (.r 1) (.r 2) (.r 3) 1) [0, 0, 1]) ∧
    (Ready (runs (thread 0xF000 0x1FFC0 1)) (.mmaBf16 (.r 1) (.r 2) (.r 3) 1) [0xF000, 0x1FFC0, 1] ∧
      matOperandsOk thread (.mmaBf16 (.r 1) (.r 2) (.r 3) 1) [0xF000, 0x1FFC0, 1]) ∧
    (Ready (runs thread) (.mma (.r 1) (.r 2) (.r 3) 1) [0, 0, 0] ∧ ¬ matOperandsOk thread (.mma (.r 1) (.r 2) (.r 3) 1) [0, 0, 0]) ∧
    (Ready (runs (thread 0xF1)) (.mmCfg (.r 1)) [0xF1] ∧ matOperandsOk thread (.mmCfg (.r 1)) [0xF1]) ∧
    (Ready (runs (thread 256)) (.mmCfg (.r 1)) [256] ∧ ¬ matOperandsOk thread (.mmCfg (.r 1)) [256]) ∧
    (Ready (runs thread) .mmFence [] ∧ matOperandsOk thread .mmFence []) ∧
    (Ready (runs (thread 0x17FC0)) (.spawn (.r 4) (.r 1)) [0x17FC0] ∧ schedSpan (.spawn (.r 4) (.r 1)) = some 64) ∧
    Ready (runs (thread 0x17FC1)) (.spawn (.r 4) (.r 1)) [0x17FC1] ∧ Ready (runs thread) (.join (.r 4) (.r 1)) [0] := by
  refine ⟨⟨?_, ?_⟩, ⟨?_, ?_⟩, ⟨?_, ?_⟩, ⟨?_, ?_⟩, ⟨?_, ?_⟩, ⟨?_, ?_⟩, ⟨?_, rfl⟩, ?_, ?_⟩
  all_goals first
    | exact ready _ _ _ rfl rfl rfl rfl rfl rfl rfl rfl rfl
    | simp [matOperandsOk, thread]; try decide

theorem witness_EntryWordsAct :
    (∃ c : Core, c.hdl[(19 : Fin 20)].valid = true ∧ Ready c (.hpri (.r 1) 19) [0] ∧ Ready c (.hmsk 19) [] ∧ Ready c (.humsk 19) []) ∧
    (Ready (runs thread) (.hpri (.r 1) 19) [0] ∧ (runs thread).hdl[(19 : Fin 20)].valid = false ∧
      (runs thread).hdl[(19 : Fin 20)].priv = false) ∧
    ∃ a n b, needs (.hmsk 19) = some n ∧ a.priv = false ∧
      CanIssue (box { runs a with hdl := ({} : Core).hdl.set 19 { priv := true } }) n a [] b :=
  ⟨⟨{ runs thread with hdl := ({} : Core).hdl.set 19 { valid := true } }, rfl, ready _ _ _ rfl rfl rfl rfl rfl rfl rfl rfl rfl,
      ready _ _ _ rfl rfl rfl rfl rfl rfl rfl rfl rfl, ready _ _ _ rfl rfl rfl rfl rfl rfl rfl rfl rfl⟩,
    ⟨ready _ _ _ rfl rfl rfl rfl rfl rfl rfl rfl rfl, rfl, rfl⟩,
    { thread with priv := false }, _, _, rfl, rfl, ⟨rfl, rfl, rfl, rfl, (fun h => nomatch h), rfl, rfl, rfl⟩⟩

theorem witness_ServiceWordsAct :
    (Ready (runs (thread 5)) (.thaw (.r 1)) [5] ∧ (runs (thread 5)).schedBehind = false) ∧
    (Ready { runs (thread 5) with schedOut := [{ cmd := { op := .spawn .z .z } }] } (.thaw (.r 1)) [5] ∧
      ({ runs (thread 5) with schedOut := [{ cmd := { op := .spawn .z .z } }] } : Core).schedBehind = true) ∧
    (CanIssue (box (runs thread)) { st := .a, priv := true } thread [] thread ∧ (box (runs thread)).rpling = [] ∧
      (box (runs thread)).underWay = false) ∧
    CanIssue { box (runs thread) with rpling := [(1, 1, 1)] } { st := .a, priv := true } thread [] thread ∧
    (∀ p : Nat, ∃ s : State, s.turn = some .replay ∧ s.rpling = [(p, 1, 1)] ∧ s.underWay = false) ∧
    (∃ s : State, s.turn = some .replay ∧ s.rpling = [(0, 1, 1)] ∧ s.underWay = true) ∧
    ∃ (s : State) (l : Line), l ∈ (s.slice 0).lines ∧ l.dirty = true ∧ s.keyOf (stackOf l.pa) l.asid = some 9 ∧ l.data.length = 64 ∧
      l.pa % 64 = 0 ∧ ∀ y ∈ (s.slice 0).lines, y = l :=
  ⟨⟨ready _ _ _ rfl rfl rfl rfl rfl rfl rfl rfl rfl, rfl⟩, ⟨ready _ _ _ rfl rfl rfl rfl rfl rfl rfl rfl rfl, rfl⟩,
    ⟨⟨rfl, rfl, rfl, rfl, fun _ => rfl, rfl, rfl, rfl⟩, rfl, rfl⟩, ⟨rfl, rfl, rfl, rfl, fun _ => rfl, rfl, rfl, rfl⟩,
    fun p => ⟨{ turn := some .replay, rpling := [(p, 1, 1)] }, rfl, rfl, rfl⟩,
    ⟨{ turn := some .replay, rpling := [(0, 1, 1)]
       agenda := [.copyUnitArrival { place := 1, ctx := 0, asid := 0, dst := .glob 0, off := 0, bytes := [], tries := 1 }] }, rfl, rfl, rfl⟩,
    { slices := [(0, { lines := [{ asid := 5, va := 0, pa := 0, data := List.replicate 64 0, dirty := true }] })]
      ctls := [(0, { keys := [(5, 9)] })] }, _, .head _, rfl, by decide +kernel, rfl, rfl,
    fun y h => by simpa [State.slice, mget] using h⟩

theorem witness_DescriptorsAreCheckedAndCommitted :
    (Ready (runs (thread (0x18001 * 2 ^ 32))) (.csrw .a (.r 1) 0x022) [0x18001 * 2 ^ 32] ∧
      csrForm (.csrw .a (.r 1) 0x022) = some (0x022, fun _ x => x) ∧
      BadDescriptor (runs (thread (0x18001 * 2 ^ 32))) true 0 (0x18001 * 2 ^ 32)) ∧
    (∃ c : Core, c = { runs thread with hdl := ({} : Core).hdl.set 19 { priv := true } } ∧ BadDescriptor c false 0x8013 (0x18000 * 2 ^ 32)) ∧
    Ready (runs (thread (0x18000 * 2 ^ 32))) (.csrw .a (.r 1) 0x022) [0x18000 * 2 ^ 32] ∧
    GoodDescriptor {} (staged 0x8013 (0x18000 * 2 ^ 32)) true 0x8013 ∧ (0x8013#64).toNat % 32 = 19 :=
  ⟨⟨ready _ _ _ rfl rfl rfl rfl rfl rfl rfl rfl rfl, rfl, .inr (.inl (by decide))⟩,
    ⟨_, rfl, .inr (.inr (.inr (.inr (.inr (.inr (.inr (.inr (.inr (.inr (.inr (.inr (.inr (.inr (.inr (⟨rfl, .inr ⟨19, by decide, rfl⟩⟩)))))))))))))))⟩,
    ready _ _ _ rfl rfl rfl rfl rfl rfl rfl rfl rfl, by unfold GoodDescriptor; decide, by decide⟩

theorem witness_HandlerSteps :
    (box (runs thread)).core 0 = runs thread ∧ (runs thread).act = some thread ∧ thread.priv = true ∧ (runs thread).life = .running ∧
    (∃ a : Act, a.priv = false ∧ (runs a).act = some a) ∧
    (∃ a : Act, a.cyc = 4194305 ∧ (runs a).act = some a ∧ (runs a).wdogLim < a.cyc) ∧
    ∃ a : Act, a.cyc = 4194304 ∧ (runs a).act = some a ∧ a.cyc ≤ (runs a).wdogLim :=
  ⟨rfl, rfl, rfl, rfl, ⟨{ id := 1 }, rfl, rfl⟩, ⟨{ id := 1, cyc := 4194305 }, rfl, rfl, by decide⟩, { id := 1, cyc := 4194304 }, rfl, rfl, by decide⟩

/-- A core with an entry 19. -/
def enters (x : Entry) (c : Core := runs thread) : Core := { c with hdl := ({} : Core).hdl.set 19 x }

/-- A word of a child. -/
def childWord : ChildWord :=
  { unit := 0, cell := 0, gen := 0, chunk := 0, cont := false, ent := 19, wid := 0, widths := 0, args := [] }

/-- A fault record of core 0. -/
def record : FaultRec := { kind := 1, engine := 0, place := 0, asid := 0, entry := 0 }

theorem witness_WorkArrivesAtEntries :
    (∀ n, ∃ x : Entry, x.pend = n ∧ x.valid = true ∧ x.src = 2 ∧ (enters x).life = .running ∧ (enters x).hdl[(19 : Fin 20)] = x) ∧
    65534 < 65535 ∧ (enters {}).hdl[(19 : Fin 20)].valid = false ∧
    (∃ x : Entry, x.valid = true ∧ x.src = 3 ∧ x.pend = 65534 ∧ (enters x).hdl[(19 : Fin 20)] = x ∧ childWord.ent = 19 ∧
      childWord.asid = (enters x).asid) ∧
    (∃ (x : Entry) (c : Core), c = enters x { runs thread with inbox := List.replicate 3 { kind := 1, src := 0, dst := 0, bytes := [] } } ∧
      c.life = .running ∧ (c.hdl[(19 : Fin 20)].valid = true ∧ c.hdl[(19 : Fin 20)].src = 5 ∧ c.hdl[(19 : Fin 20)].priv = true ∧
        c.hdl[(19 : Fin 20)].srcno = 1) ∧
      (∀ j : Fin 20, (c.hdl[j].valid = true ∧ c.hdl[j].src = 5 ∧ c.hdl[j].priv = true ∧ c.hdl[j].srcno = 1) → 19 ≤ j) ∧
      c.inbox.length < 4 ∧ c.hdl[(19 : Fin 20)].pend < 65535) ∧
    (∃ c : Core, c = enters { valid := true, src := 5, priv := true, srcno := 1 }
        { runs thread with inbox := List.replicate 4 { kind := 1, src := 0, dst := 0, bytes := [] } } ∧ 4 ≤ c.inbox.length) ∧
    ∃ m : SvcMsg, ((box { life := .sealed }).core m.dst).life = .sealed ∧ m.rcd = some record ∧ m.hop = 0 ∧ record.skind = 0 := by
  refine ⟨fun n => ⟨{ pend := n, valid := true, src := 2 }, rfl, rfl, rfl, rfl, rfl⟩, by decide, rfl,
    ⟨{ valid := true, src := 3, pend := 65534 }, rfl, rfl, rfl, rfl, rfl, rfl⟩,
    ⟨{ valid := true, src := 5, priv := true, srcno := 1 }, _, rfl, rfl, ⟨rfl, rfl, rfl, rfl⟩, by decide +kernel, by decide, by decide⟩,
    ⟨_, rfl, by decide⟩, { kind := 1, src := 0, dst := 0, rcd := some record, bytes := [] }, rfl, rfl, rfl, rfl⟩

/-- An entry that is to run. -/
def woken : Entry := { valid := true, enable := true, src := 2, pend := 1 }

theorem witness_SelectionTakesTheBest :
    ∃ (c : Core) (x y : Candidate), c.select 3300 = some x ∧ c.pair = none ∧ x ∈ c.candidates 3300 ∧ y ∈ c.candidates 3300 ∧
      y.prio < x.prio :=
  ⟨{ hdl := (({} : Core).hdl.set 19 { woken with prio := 7 }).set 3 woken, life := .running }, ⟨7, 1, 19, none⟩, ⟨0, 1, 3, none⟩,
    by decide +kernel, rfl, by decide +kernel, by decide +kernel, by decide⟩

/-- An activation whose address stream is held by a wait for a counter. -/
def waits : Act :=
  { id := 1, a := { hold := some (5, true), wait := some .held }, e := { ended := true }, idle := 3300 }

theorem witness_ActivationsStartParkAndResume :
    (∃ c : Core, c = enters woken { life := .running, codeLim := 32768 } ∧ c.act = none ∧ c.quiet = true ∧
      c.select 0 = some ⟨0, 0, 19, none⟩ ∧ c.hdl[(19 : Fin 20)].pc < c.codeLim) ∧
    (∃ (c : Core) (z : Ctx) (v : Tile), c.life = .running ∧ c.act = none ∧ c.quiet = true ∧ c.ctxs[0]? = some z ∧
      c.select 0 = some ⟨0, 0, 0, some (0, 0)⟩ ∧ z.tiles.find? (fun y => y.1 == (3 : Fin 8).val) = some ((3 : Fin 8).val, v) ∧
      ∀ y ∈ z.tiles, y.1 ≠ (4 : Fin 8).val) ∧
    (∀ l ∈ [[], [0, 7]], let a : Act := { waits with tmask := l }
     let c := runs a
     c.pair = none ∧ a.e.ended = true ∧ (c.blocked a .a).isSome = true ∧ c.blockedOut a .a = true ∧ c.ctxs.length < 16 ∧
      (c.ctxs.filter (fun y => !y.tiles.isEmpty)).length < 2 ∧ (∀ k ∈ a.tmask, k < 8) ∧ c.vq = [] ∧ c.parkCycles ≤ a.idle) ∧
    (∃ c : Core, c.life = .running ∧ c.act = some { waits with tmask := [0] } ∧ 2 ≤ (c.ctxs.filter (fun y => !y.tiles.isEmpty)).length) ∧
    ∃ (c : Core) (x : Ctx), c.ctxs[0]? = some x ∧ c.mayResume x = true := by
  refine ⟨⟨_, rfl, rfl, rfl, by decide +kernel, by decide +kernel⟩,
    ⟨{ life := .running, ctxs := [{ act := thread, ready := some 0, tiles := [(3, Vector.replicate 512 0)] }] }, _, Vector.replicate 512 0,
      rfl, rfl, rfl, rfl, by decide +kernel, rfl, by simp <;> decide⟩, ?_,
    ⟨{ runs { waits with tmask := [0] } with ctxs := List.replicate 2 { act := thread, tiles := [(0, Vector.replicate 512 0)] } }, rfl, rfl,
      by decide +kernel⟩,
    { ctxs := [{ act := thread }] }, _, rfl, by decide +kernel⟩
  intro l h
  simp only [List.mem_cons, List.not_mem_nil, or_false] at h
  rcases h with rfl | rfl <;>
    exact ⟨rfl, rfl, by decide +kernel, by decide +kernel, by decide, by decide, by decide, rfl, by decide⟩

/-- A packet at the router of core 1 of die 0, bound for core 0. -/
def packet : Pkt := { id := 7, dst := 0, dkind := 0, src := 1, skind := 0, vnet := 0, cls := 0, asid := 0, msg := .schedAns 0 0 0 0 }

theorem witness_RoutersRouteAndGrant :
    (({ net := [{ pkt := packet, node := 1, inp := 2, out := some 1 }] } : State).waiting 1 1 ≠ []) ∧
    (({ net := [{ pkt := packet, node := 0, inp := 2, out := some 9 }] } : State).waiting 0 9 ≠ []) ∧
    (∃ x : Transit, x.pkt.id = 7 ∧ x.ticks < (64 - x.since) / (32 * fabricCycle)) ∧
    (∃ (s : State) (x : Transit), s.net.find? (fun t => t.pkt.id == 7 && t.out.isNone) = some x ∧ s.behind x = false ∧
      pktBad x = false ∧ s.unreached x = false ∧ s.route x.node x.pkt < 10) ∧
    ∃ (s : State) (x : Transit), s.net.find? (fun t => t.pkt.id == 7 && t.out.isNone) = some x ∧ s.behind x = false ∧ 16 < x.pkt.cls ∧
      x.pkt.skind ≠ 0 ∧ x.pkt.dkind ≠ 0 := by
  refine ⟨by decide +kernel, by decide +kernel, ⟨{ pkt := packet, node := 1, inp := 2 }, rfl, by decide⟩,
    ⟨{ net := [{ pkt := packet, node := 1, inp := 2 }] }, { pkt := packet, node := 1, inp := 2 }, by decide +kernel, by decide +kernel,
      by decide +kernel, by decide +kernel, by decide +kernel⟩,
    { net := [{ pkt := { packet with cls := 17, skind := 2, dkind := 2 }, node := 1, inp := 2 }] },
    { pkt := { packet with cls := 17, skind := 2, dkind := 2 }, node := 1, inp := 2 }, by decide +kernel, by decide +kernel,
    by decide, by decide, by decide⟩

/-- A request of core 1 for 64 bytes of a core's scratchpad. -/
def get (src : Side) : GetReq := { place := 1, ctx := 0, asid := 0, src := src, off := 0, n := 64 }

/-- A message of a channel between endpoint 4 of core 1 and endpoint 3 of core 0. -/
def message (sub : ChanSub) : ChanMsg := { sub := sub, src := 1, sep := 4, dst := 0, dep := 3, asid := 0 }

theorem witness_CoreRoutersAnswer :
    (∃ k : Pkt, k.dst = 0 ∧ k.msg = .getReq (get (.core k.dst 0x17FC0)) ∧ ({} : State).resetting.contains (clusOf k.dst) = false ∧
      (∃ c : Core, (box c).core k.dst = c ∧ c.pair = none ∧ c.life = .running ∧ c.asid = k.asid ∧ c.bad = []) ∧
      (∃ c : Core, (box c).core k.dst = c ∧ c.pair = none ∧ c.life = .running ∧ c.asid ≠ k.asid) ∧
      ∀ l ∈ [Life.vacant, .frozen, .sealed, .evicting], ∃ c : Core, (box c).core k.dst = c ∧ c.pair = none ∧ c.life = l) ∧
    ∀ l ∈ [Life.frozen, .sealed], ∃ (k : Pkt) (m : ChanMsg), (box { life := l }).core k.dst = { life := l } ∧ k.msg = .chan m ∧
      m.sub = .data ∧ m.bia = 0 ∧ m.dst = k.dst :=
  ⟨⟨{ packet with msg := .getReq (get (.core 0 0x17FC0)) }, rfl, rfl, rfl, ⟨{ life := .running }, rfl, rfl, rfl, rfl, rfl⟩,
    ⟨{ life := .running, asid := 5 }, rfl, rfl, rfl, by decide⟩, fun l _ => ⟨{ life := l }, rfl, rfl, rfl⟩⟩,
    fun _ _ => ⟨{ packet with msg := .chan (message .data) }, _, rfl, rfl, rfl, rfl, rfl⟩⟩

/-- A slice that holds the first line of ASID 0 under a leaf. -/
def holds (ent : Nat) : SliceSt :=
  { lines := [{ asid := 0, va := 0, pa := 0, data := List.replicate 64 0 }], kept := [{ asid := 0, va := 0, lg := 12, ent := ent, at_ := 0 }] }

/-- A global access of core 0. -/
def access (op : AccOp) : GReq := { place := 0, act := 1, seq := 1, part := 0, asid := 0, va := 56, n := 8, op := op }

theorem witness_SlicesServeAccesses :
    (∀ ent ∈ [0x71, 0x61], ∃ k l, (holds ent).keptFor 0 56 = some k ∧ (holds ent).line 0 56 = some l ∧ l.bad = false ∧ k.ent = ent ∧
      bit ent 5 = true ∧ bit ent 8 = false ∧ bit ent 9 = false ∧ bit ent 10 = false ∧ l.pa % 64 = 0 ∧
      l.pa = leafPa k.ent 56 / 64 * 64) ∧
    bit 0x71 4 = true ∧ bit 0x71 6 = true ∧ bit 0x61 4 = false ∧ (access .commit).copy = none ∧
    (let x : SliceSt := { kept := [{ asid := 0, va := 0, lg := 12, ent := 0x471, at_ := 0 }] }
     let s : State := { slices := [(0, x)] }
     x.line 0 56 = none ∧ x.keptFor 0 56 = some { asid := 0, va := 0, lg := 12, ent := 0x471, at_ := 0 } ∧ bit 0x471 4 = true ∧
      bit 0x471 5 = true ∧ bit 0x471 6 = true ∧ bit 0x471 8 = false ∧ bit 0x471 9 = false ∧ bit 0x471 10 = true ∧ s.memWf = true ∧
      s.physBad (leafPa 0x471 56) 8 = false) ∧
    ∃ lvl e, ({ hbm := [(0, 1), (1, 16)], ctls := [(0, { keys := [(0, 1)] })] } : State).walkFrom 0 56 5 (({} : SliceSt).walkAt 0 56) =
        .invalid lvl e false ∧
      (({ hbm := [(0, 1), (1, 16)], ctls := [(0, { keys := [(0, 1)] })] } : State).keyOf (stackOf 0) 0).isSome = true ∧
      ({} : SliceSt).keptFor 0 56 = none ∧ ({} : SliceSt).line 0 56 = none := by
  refine ⟨?_, rfl, rfl, rfl, rfl, ⟨rfl, by decide +kernel, rfl, rfl, rfl, rfl, rfl, rfl, rfl, by decide +kernel⟩, 1, 0, by decide +kernel,
    by decide +kernel, rfl, rfl⟩
  intro ent h
  simp only [List.mem_cons, List.not_mem_nil, or_false] at h
  rcases h with rfl | rfl
  · exact ⟨{ asid := 0, va := 0, lg := 12, ent := 0x71, at_ := 0 }, _, by decide +kernel, rfl, rfl, rfl, rfl, rfl, rfl, rfl, rfl, by decide +kernel⟩
  · exact ⟨{ asid := 0, va := 0, lg := 12, ent := 0x61, at_ := 0 }, _, by decide +kernel, rfl, rfl, rfl, rfl, rfl, rfl, rfl, rfl, by decide +kernel⟩

/-- An entry of the load-store queue of core 0 that waits for an answer. -/
def waiting (op : LsOp) (st : PartSt) : LsEntry :=
  { cmd := { op := .fence .core, seq := 1, act := 1 }, op := op, glob := true, addr := 56, n := 8, parts := [{ va := 56, n := 8, st := st }] }

theorem witness_RepliesEndOrParkAccesses :
    (∀ op st, ∃ (r : GReply) (x : LsEntry) (q : Part), ({ lsq := [x] } : Core).lsq = [x] ∧ x = waiting op st ∧ x.parts = [q] ∧
      r.req.seq = x.cmd.seq ∧ r.req.act = x.cmd.act ∧ r.req.part = 0 ∧ q.n = x.n ∧ q.st = st ∧ x.op = op ∧ r.req.epoch = 0) ∧
    (∀ r : GRes, ∃ y : GReply, y.res = r ∧ y.req = access .load) ∧ (6 < 7 ∧ 7 ≤ 7) ∧
    (∃ c : Core, c.lsq = [waiting .load .asked] ∧ c.epoch ≠ (access .load).epoch ∧ c.pair = none) ∧
    ∃ x : LsEntry, x = { waiting .region .idle with sent := true } ∧ x.sent = true ∧ x.parts.length = 1 :=
  ⟨fun op st => ⟨{ req := access .load, res := .translated }, _, _, rfl, rfl, rfl, rfl, rfl, rfl, rfl, rfl, rfl, rfl⟩,
    fun r => ⟨{ req := access .load, res := r }, rfl, rfl⟩, by decide, ⟨{ lsq := [waiting .load .asked], epoch := 1 }, rfl, by decide, rfl⟩,
    _, rfl, rfl, rfl⟩

/-- An automaton that sends and its mirror. -/
def sends : Automaton := { nst := 2, shared := false, edges := [edge 0 1 false 0 5 4 0] }

theorem witness_ConnectionsAreMade :
    (∀ l : EpLife, ∀ key : Word, ∃ (m : ChanMsg) (b : Automaton),
      let c := speaks thread { life := l, aut := some (mirror sends), key := key }
      m.dep = 3 ∧ c.pair = none ∧ c.eps[(3 : Fin 16)].aut = some (mirror sends) ∧ m.aut = some b ∧ mirror sends = mirror b ∧
        c.eps[(3 : Fin 16)].life = l ∧ m.asid = c.asid ∧ m.key = 0) ∧
    (∃ m : ChanMsg, m.asid ≠ (runs thread).asid ∧ m.dep = 3) ∧ (1 : Word).toNat ≠ 0 ∧ mirror sends ≠ mirror (mirror sends) ∧
    ∃ (c : Core) (x : Cmd), c.life = .running ∧ c.nq = [x] ∧ c.nSent = true ∧ x.seq = (message .answer).cmd ∧
      c.eps[(3 : Fin 16)].life = .connecting ∧ c.eps[(3 : Fin 16)].aut = some sends :=
  ⟨fun l key => ⟨{ message .request with aut := some sends }, sends, rfl, rfl, rfl, rfl, rfl, rfl, rfl, rfl⟩,
    ⟨{ message .request with asid := 5 }, by decide, rfl⟩, by decide, by decide +kernel,
    { speaks thread { life := .connecting, aut := some sends } with nq := [{ op := .epConn 3 .z .z .z }], nSent := true },
    { op := .epConn 3 .z .z .z }, rfl, rfl, rfl, rfl, rfl, rfl⟩

/-- A post of type 5 for endpoint 3 of core 0. -/
def post (n : Nat) : PostMsg := { src := 1, dst := 0, dep := 3, asid := 0, ty := 5, payload := List.replicate n 0, act := 1, tag := 1, seq := 1 }

theorem witness_PostsAndControllersConverse :
    (∀ n shut, (speaks thread (mailbox n shut)).eps[(3 : Fin 16)].life = .shared ∧ (post 64).dep = 3 ∧
      (mailbox n shut).msealed = shut) ∧
    (joined 0).life ≠ .shared ∧
    (∃ a, (mailbox 1 false).aut = some a ∧ a.edges.find? (fun w => edgeType w == (post 64).ty) = some (edge 0 0 true 0 5 2 0) ∧
      (post 64).payload.length ≤ (mailbox 1 false).msize ∧ (mailbox 1 false).msize < (post 65).payload.length ∧ a.edges.find? (fun w => edgeType w == 6) = none) ∧
    lowestFree (mailbox 0 false).mslots [] = none ∧ lowestFree (mailbox 1 false).mslots [] = some 0 ∧
    (speaks thread (mailbox 1 false)).entryFull 3 = false ∧
    (enters { valid := true, src := 0, srcno := 3, pend := 65535 } (speaks thread (mailbox 1 false))).entryFull 3 = true ∧
    (∃ (c : Core) (x : Cmd), c.nq = [x] ∧ c.life = .running) ∧
    (∃ m : ChanMsg, m.sub = .request ∧ ({} : Ctl).conns.length < 256 ∧ m.key = 0 ∧ m.aut = some (builtIn m.bia)) ∧
    (∃ m : ChanMsg, m.sub = .request ∧ m.key = 1) ∧ (∃ m : ChanMsg, m.sub = .request ∧ m.key = 0 ∧ m.aut ≠ some (builtIn m.bia)) ∧
    ∀ sub, ∃ (k : Ctl) (m : ChanMsg) (x : Conn), m.sub = sub ∧ m.bia = 0 ∧ m.cmd = 0 ∧ m.conn = x.num ∧ m.seq = x.rseq ∧ m.ty = 0 ∧ x.st = 0 ∧
      x.bia < 2 ∧ k.conns = [x] :=
  ⟨fun _ _ => ⟨rfl, rfl, rfl⟩, by decide, ⟨_, rfl, by decide +kernel, by decide +kernel, by decide +kernel, by decide +kernel⟩,
    by decide +kernel, by decide +kernel, by decide +kernel, by decide +kernel, ⟨{ runs thread with nq := [{ op := .post .z .z .z }] }, _, rfl, rfl⟩,
    ⟨{ message .request with aut := some (builtIn 0) }, rfl, by decide, rfl, rfl⟩, ⟨{ message .request with key := 1 }, rfl, rfl⟩,
    ⟨message .request, rfl, rfl, by decide⟩, fun sub =>
    ⟨{ conns := [{ num := 1, place := 1, ep := 4, asid := 0, bia := 0 }] }, { message sub with conn := 1 }, _, rfl, rfl, rfl, rfl, rfl, rfl, rfl,
      by decide, rfl⟩⟩

/-- A connected endpoint whose peer is endpoint 4 of core 1. -/
def peered : Ep := { joined 0 with peer := 1, pep := 4 }

theorem witness_MessagesAreBuffered :
    (∃ m : ChanMsg, m = message .data ∧ m.dep = 3 ∧ peered.life = .connected ∧ peered.peer = m.src ∧ peered.pkind = m.skind ∧
      peered.pep = m.sep ∧ peered.stub = none ∧ m.seq = peered.rseq ∧ (speaks thread peered).entryFull 3 = false) ∧
    (∃ m : ChanMsg, m.sub = .endp ∧ m.endp.isSome = true) ∧ (∃ m : ChanMsg, m.seq ≠ peered.rseq ∧ m.dep = 3) ∧
    (∃ c : Core, c = enters { valid := true, src := 0, srcno := 3, pend := 65535 } (speaks thread peered) ∧ c.entryFull 3 = true ∧
      c.eps[(3 : Fin 16)] = peered) ∧
    (∃ m : ChanMsg, m.tries = 1022 ∧ m.dep = 3 ∧ m.cmd = 0) ∧
    ((speaks thread { life := .closed }).eps[(3 : Fin 16)].life = .closed ∧ (message .label).cmd = 0 ∧ (message .label).dep = 3) ∧
    (∃ m : ChanMsg, m.skind = 1 ∧ m.dep = 3) ∧ (message .data).skind = 0 ∧ (message .data).cmd = 0 ∧
    ({ cores := [(1, { life := .running })] } : State).core (message .data).src = { life := .running } ∧
    (∃ (c : Core) (x : Cmd), c.life = .running ∧ c.nq = [x] ∧ c.nSent = true ∧ x.seq = ({ message .data with cmd := 7 } : ChanMsg).cmd) ∧
    (∃ e : Ep, e = { peered with resv := some (0x17000, 256), lain := 4, ring := 3 } ∧ e.life = .connected ∧
      e.resv = some (0x17000, 256) ∧ (speaks thread e).eps[(3 : Fin 16)] = e) ∧
    ∃ m : ChanMsg, m.dep = 3 ∧ m.seq ≠ peered.rseq ∧ m.bia = 1 :=
  ⟨⟨_, rfl, rfl, rfl, rfl, rfl, rfl, rfl, rfl, by decide +kernel⟩,
    ⟨{ message .endp with endp := some { aut := sends, cur := 0, peer := 0, pkind := 0, pep := 0, stub := 0, stubEp := 0 } }, rfl, rfl⟩,
    ⟨{ message .data with seq := 1 }, by decide, rfl⟩, ⟨_, rfl, by decide +kernel, rfl⟩, ⟨{ message .data with tries := 1022 }, rfl, rfl, rfl⟩,
    ⟨rfl, rfl, rfl⟩, ⟨{ message .data with skind := 1 }, rfl, rfl⟩, rfl, rfl, rfl,
    ⟨{ runs thread with nq := [{ op := .send 3 .z .z 5, seq := 7 }], nSent := true }, _, rfl, rfl, rfl, rfl⟩, ⟨_, rfl, rfl, rfl, rfl⟩,
    { message .errorNotice with seq := 1, bia := 1 }, rfl, by decide, rfl⟩

theorem witness_DelegationForwards :
    (∃ e : Ep, e.life = .moving ∧ e.fwd = none ∧ e.buf = [] ∧ e.pass = [] ∧ e.stub = none ∧ (speaks thread e).eps[(3 : Fin 16)] = e ∧
      (speaks thread e).pair = none) ∧
    (peered.life = .connected ∧ (message .redirect).bia = 0 ∧ peered.peer = (message .redirect).src ∧ peered.pep = (message .redirect).sep ∧
      peered.pkind = (message .redirect).skind ∧ (peered.rseq + 65536 - (message .redirect).seq) % 65536 < 32768 ∧
      (box (speaks thread peered)).onWay (sentBy 0 3) = false ∧
      ∃ s : State, s.core 0 = speaks thread peered ∧ s.onWay (sentBy 0 3) = true) ∧
    (∃ e : Ep, e = { peered with life := .moving, fwd := some (2, 5) } ∧ e.pass = [] ∧ e.passing = false ∧ e.stub = none ∧
      e.peer = (message .data).src ∧ e.pep = (message .data).sep ∧ e.pkind = (message .data).skind ∧ e.rseq = (message .data).seq ∧
      (speaks thread e).eps[(3 : Fin 16)] = e ∧ (box (speaks thread e)).releasedTo 2 (message .data) = true ∧
      ∃ (s : State) (m : ChanMsg), s.core 0 = speaks thread e ∧ m.sub = .data ∧ m.src = 1 ∧ m.sep = 4 ∧ s.releasedTo 2 m = false) ∧
    (∃ m : ChanMsg, m.sub = .redirectAck ∧ m.seq = 5 ∧ m.bia = 1) ∧
    (∃ m : ChanMsg, m.sub = .forwarded 2 ∧ m.dep = 3 ∧ (speaks thread peered).entryFull 3 = false ∧ m.bia = 0 ∧ m.seq = peered.rseq) ∧
    (∃ (e : Ep) (m h : ChanMsg), e.life = .connected ∧ e.held = [h] ∧ h.sub = .data ∧ m.sub = .stubEnd ∧ m.bia = 0 ∧
      e.stub = some (m.src, m.sep) ∧ m.seq = e.rseq) ∧
    ({ message .data with seq := 1 } : ChanMsg).seq ≠ peered.rseq :=
  ⟨⟨{ life := .moving }, rfl, rfl, rfl, rfl, rfl, rfl, rfl⟩,
    ⟨rfl, rfl, rfl, rfl, rfl, by decide, by decide +kernel,
      { box (speaks thread peered) with agenda := [.channelMessageArrival { message .data with src := 0, sep := 3, dst := 1, dep := 4 }] }, rfl,
      by decide +kernel⟩,
    ⟨_, rfl, rfl, rfl, rfl, rfl, rfl, rfl, rfl, rfl, rfl,
      { cores := [(0, speaks thread { peered with life := .moving, fwd := some (2, 5) }),
          (1, { runs thread with lsq := [waiting .store .left] })] }, { message .data with rel := some (1, 1, 1) }, rfl, rfl, rfl, rfl,
      by decide +kernel⟩,
    ⟨{ message .redirectAck with seq := 5, bia := 1 }, rfl, rfl, rfl⟩,
    ⟨message (.forwarded 2), rfl, rfl, by decide +kernel, rfl, rfl⟩,
    ⟨{ peered with held := [message .data], stub := some (1, 4) }, message .stubEnd, _, rfl, rfl, rfl, rfl, rfl, rfl, rfl⟩, by decide⟩

/-- A get of 64 bytes. -/
def getCmd (n : Nat) : Cmd := { op := .cpGet .z .z .z .sp, vals := [0, 0, BitVec.ofNat 64 n] }

/-- A transfer of core 1 to its scratchpad. -/
def xfer (xl : XlSt := .none) (out : List Nat := []) : Xfer :=
  { ctx := 0, cmd := getCmd 64, batch := 1, get := true, ls := .sp, far := .glob 0, loc := 0x17FC0, total := 64, xl := xl, out := out }

theorem witness_TransfersGoOn :
    (∃ (c : Core) (y : Cmd), c.recs = [] ∧ c.cq = [y] ∧ c.xfers = [] ∧ y = getCmd 1 ∧ transferBad y.op 0 0 1 = none ∧ 1 % 2 ^ 24 ≠ 0) ∧
    (∃ (x : Xfer) (r : XlReply), x = xfer .asked ∧ x.ctx = r.ctx ∧ r.place = 1 ∧ x.xl = .asked ∧ x.plan = .plain ∧ x.far = .glob 0 ∧
      r.seg = (0 + x.off) / 65536 ∧ r.res = .translated) ∧
    (∀ cause, ∃ r : XlReply, r.res = .fault cause 4 0 0 ∧ r.epoch = ({} : Core).cEpoch ∧ r.ctx = (xfer .asked).ctx) ∧
    (∃ (c : Core) (r : XlReply), r.res = .fault 7 4 0 0 ∧ r.epoch ≠ c.cEpoch ∧ c.xfers = [xfer .asked] ∧ r.ctx = (xfer .asked).ctx) ∧
    (∃ c : Core, 3 ∈ c.recs.map (·.1) ∧ c.life ≠ .sealed) ∧
    (∀ w, ∃ f : CopyRefusal, f.window = w ∧ f.place = 1 ∧ (xfer .none [0]).ctx = f.ctx ∧ (xfer .none [0]).perf = false ∧
      f.by_.cseq = (xfer .none [0]).cmd.seq) :=
  ⟨⟨{ cq := [getCmd 1] }, _, rfl, rfl, rfl, rfl, by decide +kernel, by decide⟩,
    ⟨_, { place := 1, ctx := 0, seg := 0, epoch := 0, res := .translated }, rfl, rfl, rfl, rfl, rfl, rfl, rfl, rfl⟩,
    fun cause => ⟨{ place := 1, ctx := 0, seg := 0, epoch := 0, res := .fault cause 4 0 0 }, rfl, rfl, rfl⟩,
    ⟨{ cEpoch := 1, xfers := [xfer .asked] }, { place := 1, ctx := 0, seg := 0, epoch := 0, res := .fault 7 4 0 0 }, rfl, by decide, rfl, rfl⟩,
    ⟨{ life := .running, recs := [(3, 0)] }, by decide, by decide⟩,
    fun w => ⟨{ place := 1, ctx := 0, off := 0, cls := 2, cause := 1, window := w }, rfl, rfl, rfl, rfl, rfl⟩⟩

/-- A unit of 64 bytes from core 1. -/
def unit64 (dst : Side) : CopyUnit := { place := 1, ctx := 0, asid := 0, dst := dst, off := 0, bytes := List.replicate 64 1, tries := 1 }

theorem witness_CopyUnitsMoveBytesAndRaise :
    (∃ u : CopyUnit, u.dst = .core 0 0x17FC0 ∧ u.wcn = none ∧ u.tries ≠ 0 ∧ u.off ∈ (xfer .none [0]).out ∧ (xfer .none [0]).ctx = u.ctx ∧
      (xfer .none [0]).cmd.seq = u.by_.cseq ∧ (xfer .none [0]).perf = false ∧ (let l := u.todo.getD (pieces 0x17FC0 u.bytes.length 4)
        l ≠ [] ∧ ∀ y ∈ l, y.1 + y.2 ≤ u.bytes.length)) ∧
    (∃ u : CopyUnit, u.dst = .core 0 0x17FC0 ∧ u.wcn = none ∧ u.todo = some [(60, 4)] ∧ u.bytes.length = 64) ∧
    (∃ (u : CopyUnit) (s : State) (l : Line), u.dst = .glob 0 ∧ u.wcn = none ∧ u.uc = false ∧ s.slice 0 = holds 0x71 ∧
      homeSlice u.asid 0 = 0 ∧ (s.slice (homeSlice u.asid 0)).line u.asid 0 = some l ∧ l.bad = false ∧ l.pa % 64 = 0 ∧ u.pa = l.pa + 0 % 64 ∧
      0 % 64 + u.bytes.length ≤ 64 ∧
      (let t := u.todo.getD (pieces 0 u.bytes.length 8);
        t ≠ [] ∧ ∀ y ∈ t, y.1 + y.2 ≤ u.bytes.length ∧ 0 < y.2)) ∧
    (∀ n ∈ [4, 8], let g := get (.core 0 0x17FC0)
      let t := g.todo.getD (pieces 0x17FC0 g.n n)
      t ≠ [] ∧ (∀ y ∈ t, y.1 + y.2 ≤ g.n ∧ 0 < y.2)) ∧
    ((get (.core 0 0x17FC0)).src = .core 0 0x17FC0 ∧ (runs thread).bad = [] ∧ (xfer .none [0]).ctx = (get (.core 0 0x17FC0)).ctx ∧
      (xfer .none [0]).cmd.seq = (get (.core 0 0x17FC0)).by_.cseq ∧ (get (.core 0 0x17FC0)).off ∈ (xfer .none [0]).out) ∧
    (∃ (s : State) (l : Line), (s.slice (homeSlice 0 0)).line 0 0 = some l ∧ l.bad = false ∧ l.pa % 64 = 0 ∧ (get (.glob 0)).pa = l.pa ∧
      (get (.glob 0)).src = .glob 0 ∧ (get (.glob 0)).pois = false ∧ (get (.glob 0)).uc = false) ∧
    (∃ (d : GetData) (x : Xfer), d.req = get (.glob 0) ∧ x = xfer .none [d.req.off] ∧ x.ctx = d.req.ctx ∧ x.perf = false ∧
      x.plan = .plain ∧ x.ls = .sp ∧ d.poison = false ∧ x.cmd.seq = d.req.by_.cseq ∧ x.out = [d.req.off] ∧
      (let t := d.todo.getD (pieces (x.loc + d.req.off) d.bytes.length 4);
        t ≠ [] ∧ ∀ y ∈ t, y.1 + y.2 ≤ d.bytes.length)) ∧
    (∃ m : Mem, m.load 10 1 % 2 = 0) ∧
    ∃ m : Mem, m = [(0, 64), (10, 1)] ∧ m.load 10 1 % 2 = 1 ∧ m.load 0 4 ≠ 0 ∧ m.load 4 4 + 63 < m.load 0 4 ∧ m.load 4 4 + 64 = m.load 0 4 ∧
      m.load 0 4 < m.load 4 4 + 65 :=
  ⟨⟨unit64 (.core 0 0x17FC0), rfl, rfl, by decide, by decide, rfl, rfl, rfl, by decide +kernel⟩,
    ⟨{ unit64 (.core 0 0x17FC0) with todo := some [(60, 4)] }, rfl, rfl, rfl, by decide +kernel⟩,
    ⟨unit64 (.glob 0), { slices := [(0, holds 0x71)] }, { asid := 0, va := 0, pa := 0, data := List.replicate 64 0 }, rfl, rfl, rfl, rfl,
      by decide +kernel, by decide +kernel, rfl, rfl, rfl, by decide +kernel, by decide +kernel⟩,
    by decide +kernel, ⟨rfl, rfl, rfl, rfl, by decide⟩,
    ⟨{ slices := [(0, holds 0x71)] }, { asid := 0, va := 0, pa := 0, data := List.replicate 64 0 }, by decide +kernel, rfl, rfl, rfl, rfl, rfl, rfl⟩,
    ⟨{ req := get (.glob 0), bytes := List.replicate 64 0 }, _, rfl, rfl, rfl, rfl, rfl, rfl, rfl, rfl, rfl, by decide +kernel⟩,
    ⟨[], by decide +kernel⟩,
    _, rfl, by decide +kernel, by decide +kernel, by decide +kernel, by decide +kernel, by decide +kernel⟩

theorem witness_FillsAndWindows :
    (∃ (c : Core) (x : LsEntry), c.recs = [] ∧ c.lsq = [x] ∧ x.glob = false ∧ x.op = .load ∧ c.loadReady x = true ∧
      ((0 : Fin 4).val, 3) ∈ c.absent x.addr x.n ∧ c.filling = [] ∧ c.fills[(0 : Fin 4)].todo = [] ∧ c.fillHeld 0 3 x = false) ∧
    (∃ f : Fill, f.win = 0 ∧ f.unit = 3 ∧ f.bytes.length = 512 ∧ f.todo.getD (pieces (0 + 512 * 3) 512 4) ≠ [] ∧
      ∀ y ∈ f.todo.getD (pieces (0 + 512 * 3) 512 4), y.1 + y.2 ≤ 512) ∧
    (∃ f : Fill, f.win = 0 ∧ f.unit = 3 ∧ f.bytes.length = 512 ∧ f.todo = some [(508, 4)]) ∧
    (let x : SpWin := { idx := 0, base := 0x17F00, units := 4, gasid := 0, echo := true, wcn := 7, tag := 1, owner := 0 }
     let covers (u : CopyUnit) (a : Nat) : Prop := x.gasid = u.asid ∧ x.base ≤ a ∧ a + u.bytes.length ≤ x.base + 64 * x.units
     covers (unit64 (.core 0 0x17FC0)) 0x17FC0 ∧ ¬ covers (unit64 (.core 0 0x17FC1)) 0x17FC1 ∧
      ((box { wins := [x] }).core 0).wins = [x]) ∧
    (∀ l ∈ [Life.running, .frozen, .evicting], ((box { life := l }).core 0).life = l) ∧ 1022 < 1023 :=
  ⟨⟨{ fills := ({} : Core).fills.set 0 { active := true, units := 4 }, lsq := [{ waiting .load .idle with glob := false, addr := 0x6F9, n := 8 }] },
      _, rfl, rfl, rfl, rfl, by decide +kernel, by decide +kernel, rfl, by decide +kernel, by decide +kernel⟩,
    ⟨{ win := 0, unit := 3, cmd := getCmd 64, by_ := .touch false, bytes := List.replicate 512 0 }, rfl, rfl, List.length_replicate .., by decide +kernel, by decide +kernel⟩,
    ⟨{ win := 0, unit := 3, cmd := getCmd 64, by_ := .touch false, bytes := List.replicate 512 0, todo := some [(508, 4)] }, rfl, rfl, List.length_replicate .., rfl⟩,
    ⟨by decide +kernel, by decide +kernel, rfl⟩, fun _ _ => rfl, by decide⟩

/-- A region of controller 0 with a total of 4,096 bytes. -/
def region (st : RgSt) (cnt : Nat) : Region := { owner := some 0, st := st, total := 4096, cnt := cnt, len := 4096 }

/-- A machine whose controller 0 holds a region with index 5. -/
def regional (r : Region) : State := { ctls := [(0, { regions := [(5, r)], marks := [⟨0, 4096, 0, 5, 0⟩], aggs := [(1, 5, 64)] })] }

theorem witness_RegionsCountAndAct :
    (∀ st cnt, (regional (region st cnt)).region 0 5 = region st cnt) ∧ (4032 + 63 < 4096 ∧ 4096 ≤ 4032 + 64) ∧
    (4096 < 2 ^ 48 ∧ 4032 + 64 < 2 ^ 48) ∧ (region .armed 0).bnd = false ∧
    (∃ mk, ((regional (region .armed 0)).ctl 0).marks = [mk] ∧ mk.home = 0 ∧ mk.idx = 5 ∧ mk.lo ≤ 4032 ∧ 4032 + 64 ≤ mk.hi ∧
      (0, mk.arm) ∈ [(0, 0)] ∧ (mk.home, mk.arm) ∉ [(0, 1)]) ∧ (regional (region .armed 0)).recFly = [] ∧ 1 ≠ (region .armed 0).arm ∧
    (regional (region .armed 0)).region 0 6 = {} ∧ ((regional (region .armed 0)).ctl 0).agg 1 5 ≠ 0 ∧
    (∃ r : Region, r = { region .performing 4095 with flight := true } ∧ r.stale = false ∧ r.ack = none ∧ r.cnt < r.total ∧
      r.rebound = false ∧ r.tries < 1023) ∧
    (∃ r : Region, r = { region .performing 4095 with flight := true, ack := some (1, 1, 1, 0) } ∧ r.stale = false ∧ r.cnt < r.total ∧
      r.ack = some (1, 1, 1, 0)) ∧
    (∃ r : Region, r = { region .free 0 with flight := true, stale := true, owed := [(1, 1, 1, 0)] } ∧ r.st = .free ∧
      ((regional r).ctl 0).conns = []) ∧
    (∃ r : Region, r = { region .performing 4096 with binding := .wake 19 0 0 0 } ∧ r.flight = false) ∧
    (∃ m : Mem, m.load 10 1 % 2 = 0) ∧ ∃ m : Mem, m.load 10 1 % 2 = 1 :=
  ⟨fun _ _ => rfl, by decide, by decide, rfl, ⟨_, rfl, rfl, rfl, by decide, by decide, by decide, by decide⟩, rfl, by decide, by decide +kernel, by decide +kernel,
    ⟨_, rfl, rfl, rfl, by decide, rfl, by decide⟩, ⟨_, rfl, rfl, by decide, rfl⟩, ⟨_, rfl, rfl, rfl⟩, ⟨_, rfl, rfl⟩, ⟨[], by decide +kernel⟩,
    [(10, 1)], by decide +kernel⟩

/-- A capsule for entry 19 of core 0. -/
def capsule : Capsule :=
  { hdr := { cid := 1, asid := 0, nst := 1, cur := 0, fcode := 0, st := 1, len := 0, rtn := 0, flt := 0, steps := [19 * 128] }
    payload := [], sender := 0 }

theorem witness_CapsulesTravel :
    (∃ s : State, s.openAsids = [0] ∧ s.tornDown capsule.hdr.asid = false) ∧ coreOf (capPlace capsule.hdr) < 192 ∧
    capPlace capsule.hdr = 0 ∧ capEntry capsule.hdr = 19 ∧ (runs thread).life = .running ∧ (runs thread).asid = capsule.hdr.asid ∧
    (∀ n, (enters { valid := true, src := 1, pend := n }).hdl[(19 : Fin 20)] = { valid := true, src := 1, pend := n }) ∧ 65534 < 65535 ∧
    (runs thread).slots[0].st = .free ∧
    (∃ c : Core, c.slots[0].st ≠ .free ∧ c.slots[1].st ≠ .free ∧ c.life = .running) ∧
    ∃ (c : Core) (g : EgCap), c.egress = [g] ∧ g.cap = { capsule with rtry := 1022 } ∧ g.sent = true :=
  ⟨⟨{ openAsids := [0] }, rfl, by decide +kernel⟩, by decide +kernel, by decide +kernel, by decide +kernel, rfl, rfl, fun _ => rfl, by decide,
    rfl, ⟨{ runs thread with slots := Vector.replicate 2 { st := .taken } }, by decide +kernel, by decide +kernel, rfl⟩,
    { egress := [{ cap := { capsule with rtry := 1022 }, sent := true }] }, _, rfl, rfl, rfl⟩

/-- A record of the service tenant. -/
def task (rst : Nat) (peer tag : Nat := 0) : TaskRec :=
  { code := 0, csize := 4, prio := 0, hard := false, paired := false, die := 0, widths := 0, wid := 0, args := [], gang := 0, asid := 0
    rst := rst, rid := 1, peer := peer, tag := tag }

/-- A scheduler of die 0 that holds a record, and core 0. -/
def holder (r : TaskRec) (c : Core) : State := { cores := [(0, c)], scheds := [(0, { recs := [r], down := false })] }

/-- A core that holds the image of a task and may be given one. -/
def server : Core := enters { valid := true, enable := true, src := 4 } { life := .running, codeLim := 4 }

theorem witness_RecordsAreDispatched :
    (((holder (task 0) server).sched 0).down = false ∧
      (holder (task 0) server).firstReady 0 (fun r => ((holder (task 0) server).placeFor 0 r).isSome) = some (task 0) ∧
      (holder (task 0) server).placeFor 0 (task 0) = some (0, none)) ∧
    (server.life = .running ∧ server.asid = (task 1).asid ∧ server.hdl[(19 : Fin 20)].valid = true ∧
      server.hdl[(19 : Fin 20)].src = 4 ∧ server.hdl[(19 : Fin 20)].pend < 65535) ∧
    (∃ c : Core, c.tasks.length = 15) ∧ (∃ c : Core, 16 ≤ c.tasks.length) ∧
    ∀ n, (holder (task n) server).recOf? 0 1 = some (task n) ∧ (task n).rst = n ∧ (holder (task n) server).pairOf 0 1 = [] :=
  ⟨⟨rfl, by decide +kernel, by decide +kernel⟩, by decide +kernel, ⟨{ tasks := List.range 15 }, by decide⟩,
    ⟨{ tasks := List.range 16 }, by decide⟩, fun _ => ⟨rfl, rfl, rfl⟩⟩

/-- A machine whose scheduler of die 0 holds some records. -/
def crowded (l : List TaskRec) : State := { scheds := [(0, { recs := l, down := false })] }

theorem crowded_roomOn (l : List TaskRec) (h : l.length = queueRoom) : (crowded l).roomOn 0 = 0 := by
  show queueRoom - (l.length + _) = 0
  omega

theorem witness_ImagesAndRestarts :
    (∃ s : State, s = holder (task 0) { life := .running } ∧ (s.sched 0).down = false ∧ s.firstReady 0 (fun _ => true) = some (task 0) ∧
      (s.diePlaces 0).any (s.eligible (task 0)) = false ∧ (s.diePlaces 0).find? (s.loadable (task 0).asid) = some 0) ∧
    (∃ s : State, s = { holder (task 0) { life := .running } with scheds := [(0, { recs := [task 0], loads := [⟨0, 1⟩] })] } ∧
      { place := 0, rid := 1 } ∈ (s.sched 0).loads ∧ s.recOf? 0 1 = some (task 0) ∧ (s.core 0).life = .running) ∧
    (∃ s : State, s.roomOn 0 = 0) ∧ (holder (task 0) server).roomOn 0 ≠ 0 ∧ ({} : Sched).readyCount 0 + 1 ≤ (({} : Sched).settings 0).high ∧
    (∃ x : Sched, (x.settings 0).high < x.readyCount 0 + 1) ∧
    (((holder (task 2) server).sched 0).recs = [task 2] ∧ (task 2).rst = 2) ∧
    (∃ s : State, (s.sched 0).down = true ∧ s.stealBehind packet = false ∧ pktChip packet = s.chip) ∧ 1022 < 1023 ∧
    ((holder (task 2) server).sched (dieOf packet.dst)).down = false ∧ pktChip { packet with dkind := 1, dst := 8 } ≠ ({} : State).chip ∧
    (∃ (s : State) (k : Pkt), s.timers = [(0, .schedulerMessageResend { k with id := 6 } 0)] ∧ k.id = 7 ∧ s.stealBehind k = true ∧
      pktChip k = s.chip) :=
  ⟨⟨_, rfl, rfl, by decide +kernel, by decide +kernel, by decide +kernel⟩, ⟨_, rfl, by decide +kernel, rfl, rfl⟩,
    ⟨crowded (List.replicate queueRoom (task 0)), crowded_roomOn _ List.length_replicate⟩,
    by decide +kernel, by decide +kernel,
    ⟨{ cfg := [(0, { high := 0 })] }, by decide +kernel⟩, ⟨rfl, rfl⟩, ⟨{}, rfl, rfl, by decide +kernel⟩, by decide, rfl, by decide +kernel,
    { timers := [(0, .schedulerMessageResend { packet with id := 6, msg := .steal 0 1 .none } 0)] }, { packet with msg := .steal 0 1 .none }, rfl,
    rfl, by decide +kernel, by decide +kernel⟩

theorem witness_RecordsAreStolen :
    ((holder (task 2) server).stealPairs 0 ≠ [] ∧ ((holder (task 2) server).sched 0).down = false) ∧
    ((holder (task 2) server).firstReady 0 (fun r => !r.hard && !r.paired && r.gang == 0 && [(0, 0)].contains (r.asid, r.code)) = none) ∧
    ((holder (task 0) server).firstReady 0 (fun r => !r.hard && !r.paired && r.gang == 0 && [(0, 0)].contains (r.asid, r.code)) =
      some (task 0)) ∧
    (∃ s : State, s.tornDown (task 0).asid = false ∧ s.roomOn 0 ≠ 0) ∧ (∃ s : State, s.roomOn 0 = 0) ∧
    (∀ n ∈ [3, 4, 5], (holder (task n 1 9) server).tagged 0 n 1 9 = some (task n 1 9)) ∧
    ((holder (task 0) server).tagged 0 3 1 9 = none ∧ (holder (task 0) server).tagged 0 5 1 9 = none ∧
      (holder (task 0) server).tagged 0 4 1 9 = none) ∧
    (((holder (task 3 1 9) server).sched 0).recs.find? (fun r => r.rst == 3 && r.tag == 9) = some (task 3 1 9)) :=
  ⟨by decide +kernel, by decide +kernel, by decide +kernel, ⟨{ openAsids := [0] }, by decide +kernel, by decide +kernel⟩,
    ⟨crowded (List.replicate queueRoom (task 0)), crowded_roomOn _ List.length_replicate⟩,
    by decide +kernel, by decide +kernel, by decide +kernel⟩

/-- A gang of two members. -/
def pending : Gang := { gang := 1, asid := 0, members := [task 0, task 0], hold := 200 }

/-- A fork of 2 chunks with core 0 in its team. -/
def cell : Cell := { total := 2, chunk := 1, st := 1, team := [0], ce := 19 }

theorem witness_GangsAndForksGoOn :
    (∃ s : State, s = { holder (task 2) server with gangs := [pending] } ∧ s.gangTurn = some pending ∧
      pending.resv.all (s.serves pending) = true ∧ s.gangCore pending = some 0 ∧ pending.resv.length + 1 < pending.members.length) ∧
    (∀ m, ∃ z : Pkt, z.dkind = 3 ∧ z.dst = (holder (task 2) server).schedName (dieOf 0) ∧ z.msg = .gang 0 0 m) ∧
    ((holder (task 2) server).freeCore 0 = true ∧ ((holder (task 2) server).core 0).asid = 0 ∧ ((holder (task 2) server).core 0).codeTag = 0 ∧
      ((holder (task 2) server).core 0).taskEntry.isSome = true ∧ (holder (task 2) {}).freeCore 0 = false) ∧
    (∀ m, ∃ (s : State) (g : Gang) (z : Pkt), s.gangs = [g] ∧ g.asked = some 0 ∧ z.dkind = 3 ∧ z.dst = s.dirName ∧ z.msg = .gang 0 g.epoch m ∧
      g.resv.length + 1 < g.members.length) ∧
    (∃ g : Gang, g.resv.length + 1 = g.members.length) ∧
    (∃ g : Gang, g.expiries = 14) ∧ (∃ g : Gang, g.expiries = 15) ∧
    (∃ s : State, s = { cores := [(0, enters { valid := true, enable := true, src := 3 } { life := .running, codeLim := 4 })]
                        forks := [(0, { cells := [(0, cell)] })] } ∧ s.cellAt 0 0 = cell ∧
      s.chunkCore 0 0 = some 0 ∧ cell.team ≠ [] ∧ cell.redo = [] ∧ cell.next < cell.total) ∧
    (∃ x : Cell, x.st = 1 ∧ (0, 0) ∈ x.busy ∧ x.cnt + 1 < x.total) ∧
    (∃ x : Cell, x.st = 1 ∧ (0, 0) ∈ x.busy ∧ x.cnt + 1 = x.total ∧ x.kv = false ∧ x.jn = false) ∧
    (∃ s : State, s.tornDown childWord.asid = false) ∧ ∃ s : State, s.tornDown 5 = true :=
  ⟨⟨_, rfl, by decide +kernel, by decide +kernel, by decide +kernel, by decide⟩,
    fun m => ⟨{ packet with dkind := 3, dst := (holder (task 2) server).schedName (dieOf 0), msg := .gang 0 0 m }, rfl, rfl, rfl⟩,
    by decide +kernel,
    fun m => ⟨{ gangs := [{ pending with asked := some 0 }] }, _,
      { packet with dkind := 3, dst := ({} : State).dirName, msg := .gang 0 pending.epoch m }, rfl, rfl, rfl, rfl, rfl, by decide⟩,
    ⟨{ pending with resv := [1] }, by decide⟩, ⟨{ pending with expiries := 14 }, rfl⟩,
    ⟨{ pending with expiries := 15 }, rfl⟩,
    ⟨_, rfl, rfl, by decide +kernel, by decide, rfl, by decide⟩, ⟨{ cell with busy := [(0, 0)] }, rfl, by decide, by decide⟩,
    ⟨{ cell with busy := [(0, 0)], cnt := 1 }, rfl, by decide, by decide, rfl, rfl⟩, ⟨{ openAsids := [0] }, by decide +kernel⟩,
    { openAsids := [0] }, by decide +kernel⟩

/-- A pair of cores 0 and 1 in which core 0 holds a packet. -/
def paired : Pair := { primary := true, other := 1, rid := 1, die := 0, mine := [{ engine := 1, num := 0, hash := 5, pkt := some packet }] }

/-- A core that is being evicted and has nothing left to do. -/
def leaving : Core := { life := .evicting, evict := some ⟨0, 0, 1, 1, some .running⟩ }

theorem leaving_fills (w u : Nat) :
    stateOf (execFillTouch 0 w u (box leaving)) (box leaving) = box leaving ∧
      stateOf (execFillComplete 0 w u (box leaving)) (box leaving) = box leaving := by
  have h : leaving.fills[Fin.ofNat 4 w] = {} := by simp [leaving]
  have t : ((box leaving).core 0).toucher w u = none := by
    show leaving.toucher w u = none
    unfold Core.toucher
    rw [h]; rfl
  exact ⟨by simp only [execFillTouch, t, ite_self, stateOf], rfl⟩

theorem leaving_still : (box leaving).still 0 = true := by
  have f : (List.range 4).flatMap (fun w => (List.range 64).flatMap (fun u =>
      [stateOf (execFillTouch 0 w u (box leaving)) (box leaving), stateOf (execFillComplete 0 w u (box leaving)) (box leaving)])) =
      (List.range 4).flatMap (fun _ => (List.range 64).flatMap (fun _ => [box leaving, box leaving])) := by
    simp only [fun w u => (leaving_fills w u).1, fun w u => (leaving_fills w u).2]
  have g : (box leaving).engineSteps 0 = List.replicate 9 (box leaving) ++
      (List.range 4).flatMap (fun _ => (List.range 64).flatMap (fun _ => [box leaving, box leaving])) := by
    rw [← f]; rfl
  unfold State.still
  rw [g]
  refine (Bool.and_eq_true _ _).mpr ⟨rfl, List.all_eq_true.mpr fun t h => ?_⟩
  simp only [List.mem_append, List.mem_replicate, List.mem_flatMap] at h
  rcases h with ⟨_, rfl⟩ | ⟨_, _, _, _, h⟩ <;> simp_all

theorem witness_PairsAndEvictions :
    (∃ s : State, s = { cores := [(0, { life := .running, pair := some paired }), (1, { life := .running })] } ∧
      (s.core 0).pair = some paired ∧ paired.mine = [{ engine := 1, num := 0, hash := 5, pkt := some packet }] ∧ (6 : BitVec 64) ≠ 5 ∧
      (s.core 0).life = .running ∧ (s.core 1).life = .running ∧ 0 ≠ paired.other) ∧
    (∃ (c d : Core) (x : Pair), c.pair = some x ∧ c.life = .frozen ∧ d.life = .running ∧ x.frozen ≠ d.pair.bind (·.frozen)) ∧
    packet.msg = .schedAns 0 0 0 0 ∧
    (∃ (c : Core) (j : EvictJob), c.evict = some j ∧ j.prev = none ∧ c.pair = none ∧ c.life = .running ∧ c.act = none) ∧
    (∃ (c : Core) (j : EvictJob), c.evict = some j ∧ j.prev = none ∧ c.life = .frozen ∧ c.pair = none) ∧
    (∃ (c : Core) (j : EvictJob), c.evict = some j ∧ j.prev = none ∧ c.life = .running ∧ c.act.isSome = true) ∧
    ∃ (s : State) (j : EvictJob), (s.core 0).evict = some j ∧ j.prev = some .running ∧ (s.core 0).pair = none ∧ s.still 0 = true :=
  ⟨⟨_, rfl, rfl, rfl, by decide, rfl, rfl, by decide⟩,
    ⟨{ life := .frozen, pair := some { paired with frozen := some (1, 0) } }, { life := .running }, _, rfl, rfl, rfl, by decide⟩, rfl,
    ⟨{ life := .running, evict := some ⟨0, 0, 1, 1, none⟩ }, _, rfl, rfl, rfl, rfl, rfl⟩,
    ⟨{ life := .frozen, evict := some ⟨0, 0, 1, 1, none⟩ }, _, rfl, rfl, rfl, rfl⟩,
    ⟨{ runs thread with evict := some ⟨0, 0, 1, 1, none⟩ }, _, rfl, rfl, rfl, rfl⟩,
    box leaving, _, rfl, rfl, rfl, leaving_still⟩

/-- Both ports up, with queue pairs 3 and 16 connected. -/
def carrier (shut : Bool) : State :=
  let p : Port := { st := .up, qps := [(3, { connected := true, frozen := shut }), (16, { connected := true, frozen := shut })] }
  { ports := [(0, p), (1, p)], released := [0, 1, 2, 3, 4] }

/-- The window, with a slice that holds the line at 0. -/
def hostWin : Win := { idx := 5, base := 0, units := 2, gasid := 0, echo := false, host := true, wcn := 0, tag := 1, owner := 0, place := 0 }

def hosted : State := { carrier false with ctls := [(0, { wins := [hostWin] })], slices := [(0, holds 0x71)] }

/-- A request of 64 bytes, or of 128, at the window's start. -/
def hostReq : HostOp := { port := 0, qpn := 3, key := 0x10005, va := 0 }

theorem hosted_puts (b : List Byte) (hb : b ∈ [[], [1], List.replicate 9 1]) :
    let piece := hosted.nextPiece (hostReq.todo.getD (pieces hostReq.va b.length 8))
    (b.length = 9 ↔ piece.2.2 ≠ []) ∧ (piece.1.hostPut hostWin hostReq b piece.2.1 piece.2.2).2 = true := by
  simp only [List.mem_cons, List.not_mem_nil, or_false] at hb
  rcases hb with rfl | rfl | rfl
  · decide +kernel
  · decide +kernel
  · have e : ∀ l, l = pieces 0 9 8 → hosted.nextPiece l = ({ hosted with fresh := 1 }, (0, 8), [(8, 1)]) ∨
        hosted.nextPiece l = ({ hosted with fresh := 1 }, (8, 1), [(0, 8)]) := by
      rintro l rfl
      have p : pieces 0 9 8 = [(0, 8), (8, 1)] := by decide
      rw [p]
      have q : hosted.nextPiece [(0, 8), (8, 1)] =
          (fun x : Nat × Nat => ({ hosted with fresh := 1 }, x, [(0, 8), (8, 1)].erase x))
            ([(0, 8), (8, 1)].getD (Config.choice 0 % 2) (0, 0)) := rfl
      rw [q]
      rcases Nat.mod_two_eq_zero_or_one (Config.choice 0) with h | h <;> rw [h]
      · exact .inl rfl
      · exact .inr rfl
    rcases e _ rfl with e | e <;> simp only [List.length_replicate, hostReq, Option.getD_none] <;> rw [e] <;> decide +kernel

theorem witness_HostPortsAnswer :
    (∃ (o : HostOp) (w : Win), o.port = 0 ∧ o.qpn = 3 ∧ o.qpn ≠ 16 ∧ o.key < 2 ^ 32 ∧ o.key / 32768 % 2 = 0 ∧
      (∃ s : State, s = hosted ∧ (s.ctl (o.key / 4096 % 8)).wins = [w] ∧ Carries s o.port o.qpn ∧ s.recFly = [] ∧
        (∀ b ∈ [[], [1], List.replicate 9 1],
          let piece := s.nextPiece (o.todo.getD (pieces o.va b.length 8))
          (b.length = 9 ↔ piece.2.2 ≠ []) ∧ (piece.1.hostPut w o b piece.2.1 piece.2.2).2 = true) ∧
        ∃ u x, s.globalRead w.owner o.va 64 = (u, some x) ∧ x.length = 64) ∧
      Grants w o.key o.va 64 ∧ Grants w o.key o.va 128 ∧ ¬ Grants w o.key o.va 129) ∧
    (32767#32).toNat < 32768 ∧ 32768 ≤ (32768#32).toNat ∧
    (((carrier true).port 0).st = .up ∧ (((carrier true).port 0).qp 3).connected = true ∧ (((carrier true).port 0).qp 3).frozen = true) := by
  refine ⟨⟨hostReq, hostWin, rfl, rfl, by decide, by decide, by decide,
    ⟨_, rfl, rfl, ?_, rfl, hosted_puts, _, (List.replicate 64 0), rfl, rfl⟩, ?_, ?_, ?_⟩, by decide, by decide, rfl, rfl, rfl⟩
  · unfold Carries; decide +kernel
  · unfold Grants; decide
  · unfold Grants; decide
  · unfold Grants; decide

/-- A control message that reads bank 64. -/
def ebank64 : List Byte := [8, 0, 7, 0, 0, 0, 0, 0, 64] ++ List.replicate 55 0

theorem witness_PortsCarryFrames :
    (((carrier false).port 0).st = .up ∧ (9216 ≤ 9216 ∧ 9216 < 9217) ∧ (1 ≤ 1 ∧ 1 < 2)) ∧ (∃ s : State, (s.port 0).st = .down ∧ 0 < 2 ∧ 4 ∈ s.released) ∧
    (4095 < 4096 ∧ ((1024 : Nat) = 1024 ∨ (1024 : Nat) = 2048 ∨ (1024 : Nat) = 4096)) ∧ (((carrier false).port 0).qp 3).connected = true ∧
    (∃ q : QPair, 0 < q.half) ∧
    (Carries (carrier false) 0 16 ∧
      parseControl { master := .qp 0 16, seq := field ebank64 2 2 } ebank64 = some (.ebank { master := .qp 0 16, seq := 7 } 64 0 false)) ∧
    parseControl { master := .qp 0 16, seq := field [99] 2 2 } [99] = none ∧
    (Carries (carrier false) 0 3 ∧ (3 : Nat) ≠ 16 ∧ ∃ o : HostOp, o.qpn = 3) :=
  ⟨⟨rfl, by decide, by decide⟩, ⟨{ released := [4] }, rfl, by decide, by decide⟩, by decide, by decide +kernel, ⟨{ half := 1 }, by decide⟩,
    ⟨by unfold Carries; decide +kernel, by decide +kernel⟩, by decide +kernel,
    ⟨by unfold Carries; decide +kernel, by decide, { port := 0, qpn := 3, key := 0, va := 0 }, rfl⟩⟩

/-- The directory's answer goes back to the Munte port. -/
def asker : CtlFrom := { master := .munte, seq := 7 }

/-- A launch header of `trip` tasks, of a gang where it is not of one. -/
def header (gang trip : Nat) : List Byte :=
  [0, 0, 0, 0, 0, 0, 4, 0] ++ List.replicate 16 0 ++ [BitVec.ofNat 8 trip, 0, 0, 0, 1, 0] ++ leBytes 2 gang ++ List.replicate 32 0

/-- A machine that carries requests, whose service tenant has a header at 0 and whose die 0 has two cores. -/
def launching (b : List Byte) : State :=
  { carrier false with openAsids := [0], cores := [(0, { life := .running }), (1, { life := .running })],
                       slices := [(0, { lines := [{ asid := 0, va := 0, pa := 0, data := b }] })] }

theorem witness_TenantsAreControlled :
    (∃ s : State, s = carrier false ∧ s.locked = false ∧ s.degraded = false ∧ 5 ∉ s.openAsids ∧ (5 : Nat) ≠ 0 ∧ 5 < 8192) ∧
    (∃ u b, (launching (List.replicate 64 0)).globalRead 0 0 64 = (u, some b) ∧ launchMalformed (launchOf b) = true) ∧
    (∃ u b, (launching (header 0 1)).globalRead 0 0 64 = (u, some b) ∧ launchMalformed (launchOf b) = false ∧ fitSpawn (launchOf b) = true ∧
      (launchOf b).die ∈ u.released) ∧
    (∃ u v n b, (launching (header 1 2)).globalRead 0 0 64 = (u, some b) ∧ launchMalformed (launchOf b) = false ∧ (launchOf b).gang ≠ 0 ∧
      (launchOf b).chunk = 1 ∧ u.newGang (launchOf b) 0 200 = (v, 0, n)) ∧
    (∃ s : State, s = { carrier false with openAsids := [5] } ∧ s.degraded = false ∧ 5 ∈ s.openAsids ∧ ((s.core 0).asid = 5 → False)) ∧
    (9 < 10 ∧ 10 ≤ 10) ∧ (((carrier true).port 0).qp 3).frozen = true ∧
    (∃ s : State, s = { carrier false with cores := [(0, enters { valid := true, src := 5, srcno := 3, priv := true } { life := .running })] } ∧
      s.degraded = false ∧ s.supCore 0 = 0 ∧ s.resetting.contains (clusOf 0) = false ∧ (s.core 0).svcEntry 3 = some 19 ∧
      (s.core 0).inbox.length < 4 ∧ (s.core 0).hdl[(19 : Fin 20)].pend < 65535) ∧
    (∀ l ∈ [Life.evicting, .frozen, .sealed],
      let c := enters { valid := true, src := 5, srcno := 3, priv := true } { life := l }
      ({ carrier false with cores := [(0, c)] } : State).core 0 = c ∧ c.svcEntry 3 = some 19 ∧ c.life = l) ∧ ({} : Core).svcEntry 3 = none ∧
    (∃ z : Pkt, z.dkind = 3 ∧ z.msg = .launched asker 0 0) ∧
    fitRoot 0x5001 = true ∧ fitRoot 0x5000 = false ∧ ((8 < 64 ∧ 8 % 16 ≤ 8) ∧ ¬ 9 % 16 ≤ 8) ∧
    asker.master = .munte ∧ (∃ s : State, s.locked = true) ∧ ∃ f : CtlFrom, f.master = .qp 0 16 :=
  ⟨⟨_, rfl, rfl, by decide +kernel, by decide, by decide, by decide⟩, ⟨_, _, rfl, by decide +kernel⟩,
    ⟨_, _, rfl, by decide +kernel, by decide +kernel, by decide +kernel⟩,
    ⟨_, _, _, _, rfl, by decide +kernel, by decide +kernel, by decide +kernel, rfl⟩,
    ⟨_, rfl, by decide +kernel, by decide, by decide +kernel⟩, by decide, by decide +kernel,
    ⟨_, rfl, by decide +kernel, by decide +kernel, by decide +kernel, by decide +kernel, by decide, by decide⟩,
    fun l h => ⟨rfl, by simp only [List.mem_cons, List.not_mem_nil, or_false] at h; rcases h with rfl | rfl | rfl <;> decide +kernel, rfl⟩,
    by decide +kernel, ⟨{ packet with dkind := 3, msg := .launched asker 0 0 }, rfl, rfl⟩,
    by decide, by decide, by decide, rfl, ⟨{ locked := true }, rfl⟩, { asker with master := .qp 0 16 }, rfl⟩

theorem witness_ServiceWhileRunning :
    (∃ s : State, s = carrier false ∧ s.locked = false ∧ s.back = none ∧ (∀ d, d < 5 → d ∈ s.released) ∧ Carries s 0 3 ∧ Carries s 1 3 ∧
      (∀ a ∈ s.openAsids, a = 0) ∧ ∀ x ∈ s.cores, x.2.asid = 0) ∧
    ((3 < 4096 ∧ (3 : Nat) ≠ 16) ∧ 15 < 16 ∧ 11 < 12 ∧ 1 < 2) ∧
    (∃ s : State, s.locked = false ∧ s.back.isSome = true) ∧
    (∃ s : State, s.back = some (.cluster asker 15) ∧ 15 ∈ s.resetting ∧ ∀ x ∈ s.cores, clusOf x.1 = 15 → x.2.act = none) ∧
    (∃ s : State, s.back = some (.port asker 0) ∧ (s.port 0).st = .training) ∧
    (∃ s : State, s.back = some (.link asker 11) ∧ (s.link 11).st = .training) ∧
    (∃ s : State, s.back = some (.ckpt asker 3 3 0 0 0 0)) ∧ (∃ s : State, s.back = some (.crest asker 3 3 0 0 0 0)) ∧
    (∀ b, ∃ (s : State) (e : ErrorEv), e.uncorrectable = true ∧ e.bank = 4 ∧ (s.bank e.bank).uc = b) ∧
    ∃ e : ErrorEv, e.uncorrectable = true ∧ e.bank < 64 ∧ e.bank % 16 < 4 ∧ e.ls = some .sp :=
  ⟨⟨_, rfl, rfl, rfl, by decide, by unfold Carries; decide +kernel, by unfold Carries; decide +kernel, by decide, by decide⟩, by decide,
    ⟨{ back := some (.port asker 0) }, rfl, rfl⟩, ⟨{ back := some (.cluster asker 15), resetting := [15] }, rfl, by decide, by decide⟩,
    ⟨{ back := some (.port asker 0), ports := [(0, { st := .training })] }, rfl, rfl⟩,
    ⟨{ back := some (.link asker 11), links := [(11, { st := .training })] }, rfl, rfl⟩, ⟨{ back := some (.ckpt asker 3 3 0 0 0 0) }, rfl⟩,
    ⟨{ back := some (.crest asker 3 3 0 0 0 0) }, rfl⟩, fun b => ⟨{ banks := [(4, { uc := b })] }, ⟨4, true, record, none⟩, rfl, rfl, rfl⟩,
    ⟨0, true, record, some .sp⟩, rfl, by decide, by decide, rfl⟩

/-- A frame with a packet. -/
def frame (n : Nat) : LinkFrame := sealFrame { kind := 0, vnet := 0, fseq := n, ack := 0, crc := 0, pkt := some packet }

theorem frame_good (n : Nat) : goodFrame (frame n) = true := by simp [goodFrame, frame, sealFrame, frameBytes]

theorem witness_LinksKeepOrder :
    (∀ b, ∃ x : Link, x.st = .up ∧ x.replay = [] ∧ goodFrame (frame 65535) = true ∧ (frame 65535).fseq = x.rseq ∧ (frame 65535).kind = 0 ∧
      (frame 65535).pkt = some packet ∧ (frame 0).fseq ≠ x.rseq ∧ x.lost = b) ∧
    goodFrame { frame 5 with fseq := 6 } = false ∧
    (∃ (s : State) (y : Transit), s.net = [y] ∧ y.node = 4 ∧ y.out = some 10 ∧ (s.link 0).room y.pkt = true) ∧
    (∃ x : Link, x.st = .up ∧ x.replay = [frame 5] ∧ x.replays = 6) ∧ (∃ x : Link, x.st = .up ∧ x.replays = 7) ∧ 255 < 256 ∧ 11 < 12 :=
  ⟨fun b => ⟨{ st := .up, rseq := 65535, lost := b }, rfl, rfl, frame_good _, rfl, rfl, rfl, (by decide : (0 : Nat) ≠ 65535), rfl⟩,
    by decide +kernel,
    ⟨{ net := [{ pkt := packet, node := 4, inp := 2, out := some 10 }], links := [(0, { st := .up })] }, _, rfl, rfl, rfl, by decide +kernel⟩,
    ⟨{ st := .up, replay := [frame 5], replays := 6 }, rfl, rfl, rfl⟩,
    ⟨{ st := .up, replays := 7 }, rfl, rfl⟩, by decide, by decide⟩

theorem witness_AttestationAnswers :
    0 ≤ State.reset.flash.certs.length ∧ (∃ slot : Nat, slot ≠ 0) ∧
    (∀ index ∈ [1, 254], 0 < index ∧ index < 255 ∧
      (∃ (s : State) (d : BitVec 256), s.meas.filter (fun x => x.1 == index) = [(index, d)]) ∧
      State.reset.meas.filter (fun x => x.1 == index) = []) ∧ 11 < 12 ∧ 1 < 2 ∧ 63 < 64 ∧ 78 ≤ 78 :=
  ⟨by decide, ⟨1, by decide⟩, fun index h => ⟨by simp at h; omega, by simp at h; omega,
    ⟨{ meas := [(index, 0)] }, 0, by simp⟩, rfl⟩, by decide, by decide, by decide, by decide⟩

theorem witness_PowerAndBoot :
    (State.reset.tripped = false ∧ State.reset.released = [] ∧ State.reset.flash.manifest = [] ∧ State.reset.flash.signed = false) ∧
    (∃ s : State, s.tripped = false ∧ s.released = [] ∧ s.flash.signed = true ∧ ∀ i, i ∈ [2, 3, 4, 5, 6] →
      s.flash.manifest.find? (fun x => x.1 == i) = some (i, sha3 (s.flash.measured i))) ∧
    (600 ≤ 600 ∧ 600 ≤ 2400 ∧ 600 ≤ 2400 ∧ 2400 ≤ 2400 ∧ 599 < 600 ∧ 2400 < 2401) ∧
    (State.reset.cap < 2401 ∧ 2399 < State.reset.cap) ∧ (100 ≤ 100 ∧ (∀ x ∈ State.reset.thermal, x.1 ≠ 2)) ∧
    (94 < 95 ∧ ∃ s : State, s.thermal = [(2, 100)]) ∧ 110 ≤ 110 := by
  refine ⟨⟨rfl, rfl, rfl, rfl⟩,
    ⟨{ flash := { signed := true, manifest := [2, 3, 4, 5, 6].map (fun i => (i, sha3 [])) } }, rfl, rfl, rfl, ?_⟩, by decide, by decide, by decide,
    ⟨by decide, { thermal := [(2, 100)] }, rfl⟩, by decide⟩
  have h : ∀ d : BitVec 256, ∀ i ∈ [2, 3, 4, 5, 6], ([2, 3, 4, 5, 6].map (fun i : Nat => (i, d))).find? (fun x => x.1 == i) = some (i, d) :=
    fun d i h => by
      simp only [List.mem_cons, List.not_mem_nil, or_false] at h
      rcases h with rfl | rfl | rfl | rfl | rfl <;> rfl
  intro i m
  have e : ({ signed := true, manifest := [2, 3, 4, 5, 6].map (fun i => (i, sha3 [])) } : Flash).measured i = [] := by
    simp only [List.mem_cons, List.not_mem_nil, or_false] at m
    rcases m with rfl | rfl | rfl | rfl | rfl <;> rfl
  exact (h _ i m).trans (congrArg (fun l => some (i, sha3 l)) e.symm)

/-- A core without an activation. -/
def bare : Core := { life := .running }

theorem bare_unhindered (c : Core) (h : c.recs = [] ∧ c.bad = [] ∧ c.tileBad = [] ∧ c.life = .running ∧ c.fills = ({} : Core).fills) : c.unhindered := by
  refine ⟨h.1, h.2.1, h.2.2.1, h.2.2.2.1, fun a n => ?_⟩
  simp [Core.absent, h.2.2.2.2, FillWin.units_]

theorem witness_ScratchpadAccesses :
    0x5FFF < lsSize .sp / 4 ∧ (∀ op ∈ [LsOp.load, .store, .amo .add, .cas], ∃ (c : Core) (x : LsEntry), x.op = op ∧ c.unhindered ∧ c.lsq = [x] ∧ c.nq = [] ∧
      c.kq = [] ∧ c.cq = [] ∧ c.schedOut = [] ∧ x.page = none ∧ x.glob = false ∧ x.parts = [{ va := x.addr, n := x.n }] ∧
      x.n ∈ [1, 2, 4, 8] ∧ x.data < 256 ^ x.n ∧ x.exp < 256 ^ x.n ∧ x.sgn = true ∧
      ({ box c with turn := some (.lsu 0 x.cmd.seq) } : State).core 0 = c) ∧
    ∀ op ∈ [LsOp.load, .store], ∀ st ∈ [PartSt.idle, .done], ∃ (c : Core) (x : LsEntry), x.op = op ∧ c.unhindered ∧ c.lsq = [x] ∧
      c.nq = [] ∧ c.kq = [] ∧ c.cq = [] ∧ c.schedOut = [] ∧ x.page = none ∧ x.glob = false ∧ 1 < x.parts.length ∧
      (∀ q ∈ x.parts, q.n = 1) ∧ (∃ q ∈ x.parts, q.st = .idle) ∧ x.parts.map (·.st) = [st, .idle] ∧
      ({ box c with turn := some (.lsu 0 x.cmd.seq) } : State).core 0 = c :=
  ⟨by decide, fun op _ => ⟨{ bare with lsq := [{ waiting op .idle with glob := false, addr := 0x17FF8, parts := [{ va := 0x17FF8, n := 8 }] }] }, _, rfl,
    bare_unhindered _ ⟨rfl, rfl, rfl, rfl, rfl⟩, rfl, rfl, rfl, rfl, rfl, rfl, rfl, rfl, by simp [waiting],
    Nat.pos_of_ne_zero (by decide : 256 ^ 8 ≠ 0), Nat.pos_of_ne_zero (by decide : 256 ^ 8 ≠ 0), rfl, rfl⟩,
  fun op _ st _ => ⟨{ bare with lsq := [{ waiting op .idle with glob := false, addr := 3, n := 2
                                                                parts := [{ va := 3, n := 1, st := st }, { va := 4, n := 1 }] }] }, _, rfl,
    bare_unhindered _ ⟨rfl, rfl, rfl, rfl, rfl⟩, rfl, rfl, rfl, rfl, rfl, rfl, rfl, Nat.one_lt_two, by simp, by simp, rfl, rfl⟩⟩

/-- A core with a command of its channel queue and an endpoint 3 and 4. -/
def talks (x : Cmd) (e : Ep) (f : Ep := {}) : Core :=
  { bare with eps := (({} : Core).eps.set 3 e).set 4 f, nq := [x] }

theorem talks_ready (x : Cmd) (e f : Ep) : (talks x e f).unhindered ∧ (talks x e f).lsq = [] ∧ (talks x e f).pair = none ∧
    (talks x e f).nq = [x] ∧ (talks x e f).nSent = false ∧ (talks x e f).eps[(3 : Fin 16)] = e ∧ (talks x e f).eps[(4 : Fin 16)] = f ∧
    ({ box (talks x e f) with turn := some (.drain 0 2) } : State).core 0 = talks x e f :=
  ⟨bare_unhindered _ ⟨rfl, rfl, rfl, rfl, rfl⟩, rfl, rfl, rfl, rfl, rfl, rfl, rfl⟩

/-- The fields of an endpoint that is moved. -/
def moved : EndpMsg :=
  { aut := { nst := 2, shared := false, edges := [edge 0 1 true 0 5 2 0] }, cur := 0, peer := 0, pkind := 0, pep := 0, stub := 0, stubEp := 0 }

theorem witness_ChannelCommands :
    (∀ op ∈ [Instr.send 3 .z .z 5, .select 3 2, .close 3 1, .deleg 3 4], ∃ (x : Cmd) (f : Ep), x.op = op ∧ x.lost = false ∧
      (talks x peered f).eps[(3 : Fin 16)].life = .connected ∧ f.life = .connected ∧ f.aut = some sends ∧ f.buf.length < 2 ^ 16) ∧
    (∀ l ∈ [EpLife.closed, .listening, .shared], ∃ e : Ep, e.life = l) ∧
    (∃ (x : Cmd) (e : Ep) (m : BufMsg), x.op = .recv 3 .z .z 5 ∧ m.sub = .data ∧ (v1 x.vals).toNat + m.payload.length ≤ 0x18000 ∧
      e.life = .connected ∧ e.buf = [m] ∧ x.to_.isSome = true) ∧
    (∃ (e : Ep) (m : BufMsg), m.sub = .data ∧ e.life = .shared ∧ e.buf.find? (fun z => z.ty == 5) = some m ∧ m.ty = 5) ∧
    (∃ (e : Ep) (m : BufMsg) (o : Automaton), e.life = .connected ∧ e.buf = [m] ∧ m.sub = .label ∧ e.aut = some o ∧ e.ist = none ∧
      (edgesAt o e.cur).find? (fun y => edgeRecv y && edgeKind y == 1 && edgeLabel y == m.ty) = some (edge 0 1 true 1 0 0 2)) ∧
    (∃ (e : Ep) (z : Notice), e.life = .closed ∧ e.buf = [] ∧ e.notice = some z ∧ e.ist.isSome = true) ∧
    (∀ x, ∀ i : Fin 16, (talks x peered).eps[i].life ≠ .moving) ∧
    (∀ n ∈ [0x18000, 0], ∃ (x : Cmd) (e f : Ep) (m : BufMsg) (d : EndpMsg), x.op = .adopt 3 4 ∧ x.conf = true ∧ x.to_.isSome = true ∧
      e.life = .connected ∧ e.buf = [m] ∧ m.endp = some d ∧ f.range = some (0, n) ∧ (n = 0 ↔ n < 0 + needOf d.aut) ∧
      (talks x e f).clear 4 0 (needOf d.aut) = true) ∧
    (∀ x, ∃ (e : Ep) (o : Automaton), e.life = .idle ∧ e.aut = some o ∧ o.shared = false ∧ e.range = some (0, 0x18000) ∧
      0 + needOf o ≤ 0x18000 ∧ (talks x e).clear 3 0 (needOf o) = true) ∧
    (∃ (e : Ep) (o : Automaton), e.life = .idle ∧ e.aut = some o ∧ o.shared = false ∧ e.range = some (0, 0) ∧ 0 < 0 + needOf o) ∧
    (∃ e : Ep, e.life = .idle ∧ e.range = none) ∧
    (validate [] 0 .idle = .error 1 ∧ validate [] 2 .idle = .error 7 ∧ validate [(0, 1)] 0 .connected = .error 6 ∧
      validate [(0, 1)] 0 .idle = .ok { nst := 1, shared := false, edges := [] }) ∧
    (∀ x, ∃ (e : Ep) (o : Automaton), e.life = .idle ∧ e.aut = some o ∧ o.shared = true ∧ (talks x e).clear 3 0 (64 * slotSize o) = true) ∧
    ((1 ≤ 64 ∧ 64 * 2 ^ 32 < 2 ^ 39) ∧ (coreOf 191 < 192 ∧ 192 ≤ coreOf 0xFFFFF) ∧ ((2 ^ 24 + 2 * 2 ^ 26) / 2 ^ 24 % 4 = 1 ∧
      (2 ^ 24 + 2 * 2 ^ 26) / 2 ^ 26 % 4 < 3)) := by
  have needs : needOf moved.aut = 64 := by decide +kernel
  refine ⟨fun op _ => ⟨{ op := op }, { joined 0 with aut := some sends }, rfl, rfl, rfl, rfl, rfl, by decide⟩, fun l _ => ⟨{ life := l }, rfl⟩,
    ⟨{ op := .recv 3 .z .z 5, to_ := some 1 }, { peered with buf := [{ sub := .data, ty := 5 }] }, _, rfl, rfl, by decide, rfl, rfl, rfl⟩,
    ⟨{ life := .shared, buf := [{ sub := .data, ty := 5 }] }, _, rfl, rfl, rfl, rfl⟩,
    ⟨{ joined (edge 0 1 true 1 0 0 2) with buf := [{ sub := .label, ty := 2 }], ist := none }, _, _, rfl, rfl, rfl, rfl, rfl, by decide +kernel⟩,
    ⟨{ life := .closed, notice := some { code := 1, conf := true, err := false }, ist := some 0 }, _, rfl, rfl, rfl, rfl⟩,
    fun x i => ?_, fun n h => ?_, fun x => ⟨{ aut := some sends, range := some (0, 0x18000) }, sends, rfl, rfl, rfl, rfl, by decide, rfl⟩,
    ⟨{ aut := some { nst := 2, shared := false, edges := [edge 0 1 true 0 5 2 0] }, range := some (0, 0) }, _, rfl, rfl, rfl, rfl, by decide⟩,
    ⟨{}, rfl, rfl⟩, ⟨rfl, rfl, rfl, rfl⟩,
    fun x => ⟨{ aut := some { nst := 1, shared := true, edges := [edge 0 0 true 0 5 2 0] } }, _, rfl, rfl, rfl, rfl⟩, by decide⟩
  · show ((({} : Core).eps.set 3 peered).set 4 ({} : Ep))[i].life ≠ .moving
    revert i; decide +kernel
  · refine ⟨{ op := .adopt 3 4, conf := true, to_ := some 1 },
      { peered with buf := [{ sub := .endp, ty := 0, endp := some moved }] },
      { range := some (0, n) }, _, _, rfl, rfl, rfl, rfl, rfl, rfl, rfl, ?_, rfl⟩
    rw [needs]
    simp only [List.mem_cons, List.not_mem_nil, or_false] at h
    rcases h with rfl | rfl <;> decide

/-- A core with a command of its copy queue. -/
def copies (x : Cmd) (c : Core := bare) : Core := { c with cq := [x] }

theorem witness_CopyCommands :
    (∀ x : Cmd, (copies x).unhindered ∧ (copies x).cq = [x] ∧ (copies x).batch < 2 ^ 32 ∧ (copies x).inFlight < 63 ∧ (copies x).batches = [] ∧
      (copies x).xfers = [] ∧ (copies x).filling = [] ∧
      ({ box (copies x) with turn := some (.drain 0 3) } : State).core 0 = copies x) ∧
    (∃ c : Core, 63 ≤ c.inFlight ∧ c.unfinished c.batch = true) ∧ (∃ c : Core, 5 < 64 ∧ 5 < c.inFlight) ∧
    (∃ (c : Core) (y : Batch), c.batch = 3 ∧ c.batches.find? (fun z => z.num == 2) = some y ∧ c.unfinished 2 = true ∧
      ∀ z ∈ c.xfers, c.parkedAt z = none) ∧
    (∃ (c : Core) (z : Xfer) (f : Nat), c.xfers = [z] ∧ z.batch = 2 ∧ c.unfinished 2 = true ∧ c.parkedAt z = some f) ∧
    (∀ v, ∃ (c : Core) (y : Batch), c.batch = 3 ∧ c.batches.find? (fun z => z.num == 2) = some y ∧ c.unfinished 2 = false ∧ y.err = v) ∧
    ((3 + 2 ^ 32 - 2) % 2 ^ 32 = 1 ∧ 2 ^ 31 ≤ (3 + 2 ^ 32 - 4) % 2 ^ 32 ∧ (64 < (100 + 2 ^ 32 - 35) % 2 ^ 32 ∧ (100 + 2 ^ 32 - 35) % 2 ^ 32 < 2 ^ 31)) ∧
    (∀ n ∈ [1, 64], let a := 3 * 2 ^ 48 + n * 2 ^ 32 + 512
      a / 2 ^ 50 = 0 ∧ a / 2 ^ 39 % 2 ^ 9 = 0 ∧ a / 2 ^ 17 % 2 ^ 15 = 0 ∧ a / 2 ^ 48 % 4 = 3 ∧ a % 2 ^ 17 % 512 = 0 ∧ a / 2 ^ 32 % 128 = n) ∧
    (∃ c : Core, c.fills[(3 : Fin 4)].active = true) ∧ (∀ i : Fin 4, bare.fills[i].active = false) ∧ (0x17E00 + 512 ≤ 0x18000 ∧ 0x18000 < 0x17E00 + 512 * 2) ∧
    ((0 : Nat) / 2 ^ 62 = 0 ∧ (2 ^ 63 + 5 * 2 ^ 52) / 2 ^ 62 = 2 ∧ (2 ^ 63 + 5 * 2 ^ 52) / 2 ^ 60 % 4 = 0) ∧
    (∃ c : Core, c.xfers ≠ []) ∧ ((5 + 65536 - 5) % 65536 < 32768 ∧ 32768 ≤ (4 + 65536 - 5) % 65536) :=
  ⟨fun x => ⟨bare_unhindered _ ⟨rfl, rfl, rfl, rfl, rfl⟩, rfl, (by decide : 1 < 2 ^ 32),
      (by decide +kernel : bare.inFlight < 63), rfl, rfl, rfl, rfl⟩,
    ⟨{ batch := 64, batches := (List.range 64).map (fun n => { num := n + 1, sealed := decide (n < 63) })
       xfers := (List.range 64).map (fun n => { xfer with batch := n + 1 }) }, by decide +kernel, by decide +kernel⟩,
    ⟨{ batch := 64, batches := (List.range 64).map (fun n => { num := n + 1, sealed := decide (n < 63) })
       xfers := (List.range 64).map (fun n => { xfer with batch := n + 1 }) }, by decide, by decide +kernel⟩,
    ⟨{ batch := 3, batches := [{ num := 2 }], xfers := [{ xfer with batch := 2 }] }, _, rfl, rfl, by decide +kernel, by decide +kernel⟩,
    ⟨{ xfers := [{ xfer .parked with batch := 2 }] }, _, 0, rfl, rfl, by decide +kernel, by decide +kernel⟩,
    fun v => ⟨{ batch := 3, batches := [{ num := 2, err := v }] }, _, rfl, rfl, rfl, rfl⟩, by decide, by decide,
    ⟨{ fills := ({} : Core).fills.set 3 { active := true, units := 1 } }, rfl⟩, by decide +kernel, by decide, by decide,
    ⟨{ xfers := [xfer] }, by decide⟩, by decide⟩

theorem witness_VectorCommands :
    (∀ x ∈ [({ op := .vaddI 0 0 1 ⟨.row, .z, 15⟩, ix := 15 } : Cmd), { op := .vld 0 .z .sp ⟨.col, .z, 0⟩, ix := 31 },
        { op := .vst 0 .z .sp ⟨.whole, .z, 0⟩ }, { op := .vpkE2m1 0 .z .cb ⟨.row, .z, 0⟩ }, { op := .vbcast 0 .z ⟨.whole, .z, 0⟩ },
        { op := .vins 0 .z .z 0, ix := 511 }, { op := .vext 0 .z .z 0, ix := 511 }, { op := .ltab 0 3 .z 0, ix := 15 }],
      ∃ c : Core, c.unhindered ∧ c.vq = [x] ∧
        ((∃ d u w sl f, intForm x.sat x.op = some (d, u, w, sl, f) ∧ x.ix < indexLimit sl.shape) ∨
          (∃ d b q sl, x.op = .vld d b q sl ∧ x.ix < indexLimit sl.shape ∧ c.lanesLeft 0 (4 * shapeLen sl.shape) ≠ []) ∨
          (∃ q b, storeForm c x = some (q, b) ∧ c.lanesLeft 0 b.length ≠ []) ∨
          (∃ d r sl, x.op = .vbcast d r sl ∧ x.ix < indexLimit sl.shape) ∨ (∃ d r i io, x.op = .vins d r i io) ∨
          (∃ d r i io, x.op = .vext d r i io) ∨ ∃ d n i io, x.op = .ltab d n i io ∧ x.ix < 16)) ∧
    ∃ (c : Core) (x : Cmd), c.unhindered ∧ c.vq = [x] ∧ unpackForm x.op = some (0, ⟨.row, .z, 0⟩, false) ∧ x.ix < indexLimit .row ∧
      (∀ i, 0 ≤ i → i < 0 + 64 * 1 → ∃ y ∈ c.vGot, y.1 = i) ∧ blockCheck (gathered c.vGot 0 64) = none ∧
      shapeLen .row ≤ blockExtent (gathered c.vGot 0 64) := by
  refine ⟨fun x h => ⟨{ bare with vq := [x] }, bare_unhindered _ ⟨rfl, rfl, rfl, rfl, rfl⟩, rfl, ?_⟩,
    { bare with vq := [{ op := .vunpkF 0 .z .sp ⟨.row, .z, 0⟩ }], vGot := (List.range 64).map (fun i => (i, 0)) }, _,
    bare_unhindered _ ⟨rfl, rfl, rfl, rfl, rfl⟩, rfl, rfl, by decide,
    fun i _ h => ⟨(i, 0), List.mem_map.mpr ⟨i, List.mem_range.mpr (by omega), rfl⟩, rfl⟩, by decide +kernel, by decide +kernel⟩
  simp only [List.mem_cons, List.not_mem_nil, or_false] at h
  rcases h with rfl | rfl | rfl | rfl | rfl | rfl | rfl | rfl
  · exact .inl ⟨_, _, _, _, _, rfl, by decide⟩
  · exact .inr (.inl ⟨_, _, _, _, rfl, by decide, by decide +kernel⟩)
  · exact .inr (.inr (.inl ⟨_, _, rfl, by decide +kernel⟩))
  · exact .inr (.inr (.inl ⟨_, _, rfl, by decide +kernel⟩))
  · exact .inr (.inr (.inr (.inl ⟨_, _, _, rfl, by decide⟩)))
  · exact .inr (.inr (.inr (.inr (.inl ⟨_, _, _, _, rfl⟩))))
  · exact .inr (.inr (.inr (.inr (.inr (.inl ⟨_, _, _, _, rfl⟩)))))
  · exact .inr (.inr (.inr (.inr (.inr (.inr ⟨_, _, _, _, rfl, by decide⟩)))))

theorem witness_VectorArithmetic :
    (∀ x ∈ [({ op := .vfma 0 1 2 ⟨.row, .z, 15⟩, ix := 15 } : Cmd), { op := .vrsum 0 1 ⟨.col, .z, 0⟩, ix := 31 },
        { op := .vrot 0 1 2 ⟨.whole, .z, 0⟩ }, { op := .vclmulh 0 1 2 ⟨.row, .z, 0⟩ }],
      ∃ c : Core, c.unhindered ∧ c.vq = [x] ∧
        ((∃ d u w sl f, floatForm x.rnd x.sat x.op = some (d, u, w, sl, f) ∧ x.ix < indexLimit sl.shape) ∨
          (∃ d sl v, sliceForm c x.rnd x.sat x.op = some (d, sl, v) ∧ x.ix < indexLimit sl.shape) ∨
          ∃ d u w sl, x.op = .vclmulh d u w sl ∧ x.ix < indexLimit sl.shape)) ∧
    nanBits 0x7F800001 = true ∧ ((0x80000001 : Lane).msb = true ∧ nanBits 0x80000001 = false ∧ rank 0x80000001 < 0) := by
  refine ⟨fun x h => ⟨{ bare with vq := [x] }, bare_unhindered _ ⟨rfl, rfl, rfl, rfl, rfl⟩, rfl, ?_⟩, by decide, by decide⟩
  simp only [List.mem_cons, List.not_mem_nil, or_false] at h
  rcases h with rfl | rfl | rfl | rfl
  · exact .inl ⟨_, _, _, _, _, rfl, by decide⟩
  · exact .inr (.inl ⟨_, _, _, rfl, by decide⟩)
  · exact .inr (.inl ⟨_, _, _, rfl, by decide⟩)
  · exact .inr (.inr ⟨_, _, _, _, rfl, by decide⟩)

/-- An `mma` of one block, on the accumulator tile 1. -/
def mmaCmd : Cmd := { op := .mma .z .z .z 1, seq := 1, vals := [0, 0, 1] }

/-- A tile of `n` cells, of the head of core 0's queue. -/
def tileJob (n pos : Nat) (tile : Nat := 0) : TileJob :=
  { place := 0, seq := 1, tile := tile, row := 32 * tile, acc := List.replicate n 0, pos := pos }

theorem witness_ArrayComputes :
    (∀ red : Bool, ∀ op ∈ [mmaCmd.op, .mmaBf16 .z .z .z 1], ∀ pos ∈ [0, 62], ∃ (s : State) (j : TileJob) (x : Cmd), s.turn = some (.array 0) ∧
      (s.group 0).job = some j ∧ (s.core j.place).mq = [x] ∧ x.seq = j.seq ∧ x.op = op ∧ (s.core j.place).bad = [] ∧ (s.group 0).bad = [] ∧
      (s.core j.place).red = red ∧ j.acc.length = (if red then 2048 else 4096) ∧ j.row + (if red then 2048 else 4096) / 64 ≤ 64 ∧
      j.pos = pos ∧ (v3 x.vals).toNat % 4096 = 1 ∧ (∀ k, k < 128 → j.ats.getD k (0, 0) = (0, 0)) ∧ j.ats.length ≤ 128 ∧
      (s.core j.place).life = .running ∧ (s.core j.place).recs = [] ∧ 0 < x.seq ∧ x.seq < 2 ^ 32) ∧
    blockCheck (List.replicate 64 0) = none ∧ (∃ j : TileJob, j.tile = 1 ∧ j.row + 2048 / 64 ≤ 64) :=
  ⟨fun red op _ pos _ => ⟨{ box { runs thread with red := red, mq := [{ mmaCmd with op := op }] } with
      turn := some (.array 0), groups := [(0, { job := some (tileJob (if red then 2048 else 4096) pos) })] }, _, _, rfl, rfl, rfl, rfl, rfl, rfl,
      rfl, rfl, List.length_replicate, by cases red <;> first | exact (by decide : 0 + 4096 / 64 ≤ 64) | exact (by decide : 0 + 2048 / 64 ≤ 64), rfl, rfl,
      fun k h => by show (List.replicate 128 ((0 : Nat), (0 : Nat))).getD k (0, 0) = (0, 0); revert k; decide +kernel,
      by simp [tileJob], rfl, rfl, (by decide : 0 < 1), (by decide : 1 < 2 ^ 32)⟩,
    by decide +kernel, ⟨tileJob 2048 0 1, rfl, by decide⟩⟩

theorem witness_MatrixCommandsAndTiles :
    (∀ op ∈ [Instr.mmZero 0, .mmSt .z, .mmCfg .z, .mmFence], ∃ (c : Core) (x : Cmd), x.op = op ∧ c.unhindered ∧ c.mq = [x] ∧ c.vq = [] ∧
      0 < x.seq ∧ x.seq < 2 ^ 32) ∧
    (∃ (c : Core) (x y : Cmd), x.op = .mmFence ∧ c.unhindered ∧ c.mq = [x] ∧ c.vq = [y] ∧ y.seq ≤ x.ix) ∧
    (∃ (s : State) (l : List Cmd), s = box { runs thread with mq := mmaCmd :: l } ∧ l = [] ∧ (s.groupCores 0).getD 0 0 = 0 ∧
      (s.group 0).job = none ∧ s.arbiter 0 = some (0, 1) ∧ mmaHead mmaCmd = some (false, 1) ∧ (s.group 0).owner = none ∧
      (s.core 0).red = false ∧ (s.core 0).bad = []) ∧
    (∃ o : Option Nat, o = some mmaCmd.asid) ∧
    ∃ (s : State) (j : TileJob), s = { box { runs thread with mq := [mmaCmd] } with groups := [(0, { job := some j })] } ∧
      (s.group 0).job = some j ∧ s.tileReady 0 = true ∧ (s.core j.place).mq = [mmaCmd] ∧ (s.core j.place).red = false ∧
      j.acc.length = 4096 ∧ 0 < mmaCmd.seq ∧ mmaCmd.seq < 2 ^ 32 :=
  ⟨fun op _ => ⟨{ bare with mq := [{ op := op, seq := 1 }] }, _, rfl, bare_unhindered _ ⟨rfl, rfl, rfl, rfl, rfl⟩, rfl, rfl, (by decide : 0 < 1), (by decide : 1 < 2 ^ 32)⟩,
    ⟨{ bare with mq := [{ op := .mmFence, ix := 1 }], vq := [{ op := .vtr 0 1, seq := 1 }] }, _, _, rfl,
      bare_unhindered _ ⟨rfl, rfl, rfl, rfl, rfl⟩, rfl, rfl, by decide⟩,
    ⟨_, [], rfl, rfl, by decide +kernel, by decide +kernel, by decide +kernel, rfl, by decide +kernel, rfl, rfl⟩, ⟨_, rfl⟩,
    _, tileJob 4096 64, rfl, rfl, by decide +kernel, rfl, rfl, List.length_replicate, by decide, by decide⟩

theorem witness_CapsuleCommands :
    (∀ x : Cmd, ∃ (c : Core) (a : Act), c.unhindered ∧ c.kq = [x] ∧ c.act = some a ∧ (x.act = 1 → a.id = x.act) ∧ c.lsq = [] ∧ c.pair = none ∧
      c.egress = [] ∧ c.slots[(0 : Fin 2)].st = .free ∧ c.slots[(1 : Fin 2)].st = .taken ∧ c.slots[(1 : Fin 2)].owner = some 1 ∧
      c.slots[(1 : Fin 2)].hdr = some capsule.hdr ∧ c.slots[(0 : Fin 2)].owner ≠ some 1 ∧
      ({ box c with turn := some (.drain 0 7) } : State).core 0 = c) ∧
    (hdrOK (hdrOfBytes (List.replicate 64 0)) = true ∧ hdrOK (hdrOfBytes (List.replicate 64 255)) = false ∧ field (List.replicate 64 0) 2 2 < 8192) ∧
    (∃ h' v, Edits capsule.hdr 5 (.capIns .z 1 1) h' v) ∧ (∃ h' v, Edits capsule.hdr 5 (.capDel 0 1) h' v) ∧
    (∃ h' v, Edits capsule.hdr (2 ^ 32 - 1) (.capRep .z 0 1) h' v) ∧ (∃ h' v, Edits capsule.hdr 0 (.capRd .z 11 1) h' v) ∧
    (∃ h' v, Edits capsule.hdr (10 * 2 ^ 60) (.capHdr .z .z 1) h' v) ∧ (∃ h' v, Edits capsule.hdr (2 ^ 60 + 2 ^ 59 + 4032) (.capHdr .z .z 1) h' v) ∧
    (∃ h', SendsWith capsule.hdr 0 (.capFwd 1) h') ∧ (∃ h', SendsWith capsule.hdr 0 (.capRet 1) h') ∧
    (∀ w ∈ [16, 255], ∃ h', SendsWith capsule.hdr w (.capDiv .z 1) h') ∧ (∃ c : Core, 2 ≤ c.egress.length) ∧
    (∃ h : CapHdr, BreaksLimit h 0 (.capIns .z 0 1) 3) ∧ BreaksLimit capsule.hdr 0 (.capIns .z 2 1) 2 ∧
    BreaksLimit capsule.hdr (2 ^ 32) (.capIns .z 1 1) 4 ∧ BreaksLimit capsule.hdr 0 (.capDel 1 1) 2 ∧ BreaksLimit capsule.hdr 0 (.capRep .z 1 1) 2 ∧
    BreaksLimit capsule.hdr (2 ^ 32) (.capRep .z 0 1) 4 ∧ (∀ w ∈ [15, 256], BreaksLimit capsule.hdr w (.capDiv .z 1) 6) ∧
    BreaksLimit capsule.hdr (2 ^ 32) (.capHdr .z .z 1) 4 ∧ BreaksLimit capsule.hdr (11 * 2 ^ 60) (.capHdr .z .z 1) 5 ∧
    BreaksLimit capsule.hdr (2 ^ 60 + 2 ^ 59 + 4033) (.capHdr .z .z 1) 6 ∧
    (capsuleCommand (.capKill 1) = some (1, 8) ∧ ∃ x : Cmd, x.priv = false ∧ x.op = .capKill 0) := by
  refine ⟨fun x => ⟨{ runs thread with slots := ({} : Core).slots.set 1 { st := .taken, hdr := some capsule.hdr, owner := some 1 }, kq := [x] },
      _, bare_unhindered _ ⟨rfl, rfl, rfl, rfl, rfl⟩, rfl, rfl, fun h => h.symm, rfl, rfl, rfl, rfl, rfl, rfl, rfl, nofun, rfl⟩,
    by decide +kernel, ⟨_, _, .ins _ _ _ (by decide) (by decide) (by decide) (by decide)⟩, ⟨_, _, .del _ _ (by decide) (by decide)⟩,
    ⟨_, _, .rep _ _ _ (by decide) (by decide) (by decide)⟩, ⟨_, _, .rd _ _ _⟩, ⟨_, _, .hdrRead _ _ _ (by decide) (by decide)⟩,
    ⟨{ capsule.hdr with len := 4032 }, _, .hdrWrite _ _ _ _ (by decide) (by decide) (.inl (by decide)) (.inl (by decide)) (.inr (by decide))
      (.inr (by decide))⟩, ⟨_, .fwd _⟩, ⟨_, .ret _⟩, fun w h => ?_, ⟨{ egress := List.replicate 2 { cap := capsule } }, by decide⟩,
    ⟨{ capsule.hdr with nst := 12 }, .insFull _ _ _ rfl⟩, .insStep _ _ _ (by decide) (by decide),
    .insWord _ _ _ (by decide) (by decide) (by decide) (by decide), .delStep _ _ (by decide), .repStep _ _ _ (by decide),
    .repWord _ _ _ (by decide) (by decide) (by decide), fun w h => ?_, .hdrBits _ _ _ (by decide), .hdrSel _ _ _ (by decide) (by decide),
    .hdrValue _ _ _ (by decide) (by decide) (by decide) (fun n h => by simp at h; omega) (by decide), rfl, { op := .capKill 0 }, rfl, rfl⟩ <;>
    simp only [List.mem_cons, List.not_mem_nil, or_false] at h
  · rcases h with rfl | rfl
    · exact ⟨_, .div _ _ (by decide) (by decide)⟩
    · exact ⟨_, .div _ _ (by decide) (by decide)⟩
  · rcases h with rfl | rfl
    · exact .div _ _ (by decide)
    · exact .div _ _ (by decide)

/-- A running core whose stream stands at a word. -/
def stands (w : IWord) : Core := ({ runs thread with codeLim := 4 } : Core).put .code 0 (leBytes 4 w.toNat)

/-- A core whose two streams stand at an illegal word each. -/
def standsTwice : Core :=
  (({ runs { thread with e := { thread.e with pc := 4 } } with codeLim := 8 } : Core).put .code 0 (leBytes 4 0x08000000)).put .code 4
    (leBytes 4 0x88000000)

theorem witness_StepRunsTheDecodedInstruction :
    (∀ w, (box (stands w)).core 0 = stands w ∧ (stands w).life = .running ∧ (stands w).act = some thread ∧ (stands w).codeLim = 4 ∧
      (stands w).bad = []) ∧ thread.a.ended = false ∧ thread.a.hold = none ∧ thread.a.pc < 4 ∧
    (BitVec.ofNat 32 ((stands 0x02308A01).code.load 0 4) = 0x02308A01 ∧ sBit 0x02308A01 = .a ∧ ∃ i, decode 0x02308A01 = .ok i) ∧
    (BitVec.ofNat 32 ((stands 0x08000000).code.load 0 4) = 0x08000000 ∧ sBit 0x08000000 = .a ∧ ∃ k, decode 0x08000000 = .error k) ∧
    (BitVec.ofNat 32 ((stands 0x82308A01).code.load 0 4) = 0x82308A01 ∧ sBit 0x82308A01 ≠ .a ∧ fld 0x82308A01 25 6 < 0x10) ∧
    (decode 0xA02532D9 = .ok (.beq .e .hold (.r 10) (.r 12) 729) ∧ sBit 0xA02532D9 ≠ .a ∧ branchOf (.beq .e .hold (.r 10) (.r 12) 729) ≠ none) ∧
    (∃ r, decode 0xA5000000 = .ok (.jr .e r) ∧ sBit 0xA5000000 ≠ .a) ∧ (∃ q, decode 0xA30016CE = .ok (.j .e q) ∧ sBit 0xA30016CE ≠ .a) ∧
    (decode 0xA6000000 = .ok (.done .e) ∧ sBit 0xA6000000 ≠ .a) ∧
    (∃ a : Act, a.branches .e = []) ∧ (∃ a : Act, a.branches .e = [.taken true]) ∧ (∃ a : Act, a.branches .e = [.target 8]) ∧
    (∃ a, standsTwice.act = some a ∧ standsTwice.life = .running ∧ a.a.ended = false ∧ a.e.ended = false ∧ a.a.hold = none ∧
      a.e.hold = none ∧ a.a.pc < standsTwice.codeLim ∧ a.e.pc < standsTwice.codeLim ∧ standsTwice.bad = [] ∧
      standsTwice.pair = none ∧ BitVec.ofNat 32 (standsTwice.code.load a.a.pc 4) = 0x08000000 ∧
      BitVec.ofNat 32 (standsTwice.code.load a.e.pc 4) = 0x88000000 ∧ sBit 0x08000000 = .a ∧ sBit 0x88000000 = .e) ∧
    (∃ j, decode 0x08000000 = .error j) ∧ ∃ k, decode 0x88000000 = .error k :=
  ⟨fun _ => ⟨rfl, rfl, rfl, rfl, rfl⟩, rfl, rfl, by decide, ⟨by decide +kernel, rfl, _, rfl⟩, ⟨by decide +kernel, rfl, _, rfl⟩,
    ⟨by decide +kernel, by decide, by decide⟩, ⟨rfl, by decide, nofun⟩, ⟨_, rfl, by decide⟩, ⟨_, rfl, by decide⟩, ⟨rfl, by decide⟩,
    ⟨{ id := 1 }, rfl⟩, ⟨{ id := 1, bqe := [.taken true] }, rfl⟩, ⟨{ id := 1, bqe := [.target 8] }, rfl⟩,
    ⟨_, rfl, rfl, rfl, rfl, rfl, rfl, by decide, by decide, rfl, rfl, by decide +kernel, by decide +kernel, rfl, rfl⟩, ⟨_, rfl⟩, _, rfl⟩

theorem witness_DecodeEncode : ∃ w, (Instr.sub .a (.r 3) (.r 1) (.r 2)).wellFormed = true ∧ encode (.sub .a (.r 3) (.r 1) (.r 2)) = some w :=
  ⟨_, by decide, rfl⟩

theorem witness_MemoryStaysCanonical :
    (∀ u ∈ [Turn.issue 0 .a, .lsu 0 1, .tick], ∃ s : State, s.turn = some u ∧ s.memWf = true) ∧
    ∃ (n : Need) (t : State), needs (.nop .a) = some n ∧ Instr.nop .a ≠ .rpl ∧ exec (.nop .a) (box (runs thread)) = .next t :=
  ⟨fun u _ => ⟨{ turn := some u }, rfl, rfl⟩, _, _, rfl, by decide, rfl⟩

end Sys2Proof.Tests
end

section
/-! SUPPORT. Service words (R225, R467): a state in which `rpl` does not leave in HBM what a dirty line held. -/

namespace Sys2Proof.Proofs.ServiceWords

open Sys2Proof Sys2Proof.Machine

/-- A dirty line of frame 1, of 64 bytes. -/
def zeroLine : Line := { asid := 5, va := 1, pa := 64, data := List.replicate 64 0, dirty := true }

/-- A dirty line of frame 0, of one byte more than its frame has. -/
def longLine : Line := { asid := 5, va := 0, pa := 0, data := List.replicate 65 1, dirty := true }

/-- An `rpl` waits to complete, and slice 0 writes back the long line after the other. -/
def longLineHeld : State :=
  { turn := some .replay, rpling := [(0, 1, 1)], slices := [(0, { lines := [zeroLine, longLine] })], ctls := [(0, { keys := [(5, 9)] })] }

theorem lines_of_longLineHeld (g : Nat) (y : Line) (h : y ∈ (longLineHeld.slice g).lines) : y = zeroLine ∨ y = longLine := by
  by_cases hg : 0 = g
  · subst hg
    simpa [longLineHeld, State.slice, mget] using h
  · simp [longLineHeld, State.slice, mget, hg] at h

/-- The last byte of the long line stands in frame 1 once `rpl` has completed. -/
theorem readLine_step_longLineHeld : (stateOf (step longLineHeld) longLineHeld).readLine 1 9 = 1 :: List.replicate 63 0 := by
  decide +kernel

/-- Refutes O17: `Replayed` asks 64 bytes of the line that is written back and none of the other lines, and a write-back writes all the
bytes that a line has. In `longLineHeld` the line of frame 0 has 65, and the last one overwrites the first byte of frame 1, which `rpl`
has written back before. -/
theorem not_serviceWordsAct : ¬ Obligations.ServiceWordsAct := by
  unfold Obligations.ServiceWordsAct
  rintro ⟨-, -, h⟩
  obtain ⟨u, hstep, ⟨-, -, written, -⟩, -⟩ := (h longLineHeld 0 1 1 [] rfl rfl).2 rfl
  have kept : u.readLine 1 9 = List.replicate 64 0 := by
    refine written 0 zeroLine 9 (.head _) rfl (by decide +kernel) rfl rfl fun g y hy hpa => ?_
    rcases lines_of_longLineHeld g y hy with rfl | rfl
    · rfl
    · exact absurd hpa (by decide)
  have overwritten := readLine_step_longLineHeld
  rw [hstep] at overwritten
  exact absurd (overwritten.symm.trans kept) (by decide)

end Sys2Proof.Proofs.ServiceWords
end

section
/-! SUPPORT. Accesses at their home slice (R202, R203, R211, R212, R216): what the bytes of a line or frame are after a write, where a
kept leaf lets an access find its bytes, and what the slice answers. -/

namespace Sys2Proof.Proofs.SliceAccess

open Sys2Proof Sys2Proof.Machine

/-! ### Bytes and numbers -/

@[simp] theorem length_leBytes (n v : Nat) : (leBytes n v).length = n := by
  induction n generalizing v with
  | zero => rfl
  | succ n ih => simp [leBytes, ih]

theorem leNat_lt (b : List Byte) : leNat b < 256 ^ b.length := by
  induction b with
  | nil => simp [leNat]
  | cons x b ih =>
    have hx : x.toNat < 256 := x.isLt
    simp only [leNat, List.length_cons, Nat.pow_succ]
    omega

theorem two_pow_eight_mul (n : Nat) : 2 ^ (8 * n) = 256 ^ n := Nat.pow_mul 2 8 n

/-- The signed value that the model compares is that of the bit vector. -/
theorem signed_eq_toInt {m v : Nat} (hm : 0 < m) (hv : v < 2 ^ m) : signed m v = (BitVec.ofNat m v).toInt := by
  obtain ⟨m, rfl⟩ : ∃ k, m = k + 1 := ⟨m - 1, by omega⟩
  simp only [signed, BitVec.toInt_eq_toNat_cond, BitVec.toNat_ofNat, Nat.add_sub_cancel, Nat.pow_succ]
  split <;> split <;> omega

/-- An atomic of `n` bytes writes the value of Table 06.3. -/
theorem atomicNew_amo {n old data : Nat} (exp : Nat) (f : AmoFn) (hn : 0 < n) (ho : old < 256 ^ n) (hd : data < 256 ^ n) :
    atomicNew (.amo f) n old data exp = some (amoValue (BitVec.ofNat (8 * n) old) (BitVec.ofNat (8 * n) data) f).toNat := by
  rw [← two_pow_eight_mul] at ho hd
  have eo : (BitVec.ofNat (8 * n) old).toNat = old := (BitVec.toNat_ofNat ..).trans (Nat.mod_eq_of_lt ho)
  have ed : (BitVec.ofNat (8 * n) data).toNat = data := (BitVec.toNat_ofNat ..).trans (Nat.mod_eq_of_lt hd)
  have hs : 0 < 8 * n := by omega
  cases f with
  | add => simp [atomicNew, amoValue]
  | and => simp [atomicNew, amoValue, BitVec.toNat_and, eo, ed]
  | or => simp [atomicNew, amoValue, BitVec.toNat_or, eo, ed]
  | xor => simp [atomicNew, amoValue, BitVec.toNat_xor, eo, ed]
  | min =>
    simp only [atomicNew, amoValue, BitVec.slt, signed_eq_toInt hs ho, signed_eq_toInt hs hd]
    split <;> simp only [eo, ed]
  | max =>
    simp only [atomicNew, amoValue, BitVec.slt, signed_eq_toInt hs ho, signed_eq_toInt hs hd]
    split <;> simp only [eo, ed]
  | minu =>
    simp only [atomicNew, amoValue, BitVec.ult, apply_ite BitVec.toNat, eo, ed, decide_eq_true_eq, Option.some.injEq]
    split <;> omega
  | maxu =>
    simp only [atomicNew, amoValue, BitVec.ult, apply_ite BitVec.toNat, eo, ed, decide_eq_true_eq, Option.some.injEq]
    split <;> omega
  | swap => simp [atomicNew, amoValue, ed]

/-! ### Physical memory -/

theorem mset_map_some {α : Type} (m : List (Nat × α)) (k : Nat) (v : α) :
    (mset m k v).map (fun x => (x.1, some x.2)) = mset (m.map (fun x => (x.1, some x.2))) k (some v) := by
  induction m with
  | nil => rfl
  | cons x m ih =>
    by_cases h1 : x.1 = k
    · simp only [mset, List.map_cons, if_pos h1]
    · by_cases h2 : k < x.1
      · simp only [mset, List.map_cons, if_neg h1, if_pos h2]
      · simp only [mset, List.map_cons, if_neg h1, if_neg h2, ih]

@[simp] theorem length_readN (m : Mem) (a n : Nat) : (m.readN a n).length = n := by simp [Mem.readN, upto]

theorem readN_write (m : Mem) (a : Nat) (b : List Byte) : (m.write a b).readN a b.length = b := by
  refine List.ext_getElem (by simp) fun i _ hi => ?_
  simp [Mem.readN, upto, Mem.read_write, hi]

@[simp] theorem length_readLine (s : State) (line key : Nat) : (s.readLine line key).length = 64 := by
  unfold State.readLine
  dsimp only
  split
  · simp
  · split <;> simp

theorem readLine_writeLine (s : State) (line key : Nat) (b : List Byte) (hb : b.length = 64) :
    (s.writeLine line key b).readLine line key = b := by
  simp [State.writeLine, State.readLine, mset_map_some, ← hb, readN_write]

theorem length_patch (old : List Byte) (off : Nat) (b : List Byte) (h : off + b.length ≤ old.length) :
    (patch old off b).length = old.length := by
  simp only [patch, List.length_append, List.length_take, List.length_drop]
  omega

theorem read_patch (old : List Byte) (off : Nat) (b : List Byte) (h : off + b.length ≤ old.length) :
    ((patch old off b).drop off).take b.length = b := by
  have ho : (old.take off).length = off := by rw [List.length_take]; omega
  rw [patch, List.append_assoc, List.drop_left' ho, List.take_left' rfl]

/-- Bytes that stay within one line touch that line alone. -/
theorem linesOf_within {a n : Nat} (hn : 0 < n) (h : a % 64 + n ≤ 64) : linesOf a n = [a / 64] := by
  have e : (a + n - 1) / 64 = a / 64 := by omega
  have hz : n ≠ 0 := by omega
  simp [linesOf, hz, e, upto]

theorem writePhys_within (s : State) (pa key : Nat) (b : List Byte) (hn : 0 < b.length) (h : pa % 64 + b.length ≤ 64) :
    s.writePhys pa key b = s.writeIn pa key b := by
  have lo : max pa (64 * (pa / 64)) = pa := by omega
  have hi : min (pa + b.length) (64 * (pa / 64) + 64) - pa = b.length := by omega
  simp [State.writePhys, linesOf_within hn h, lo, hi]

/-- What the slices hold and what HBM holds is alike in two states. -/
def SameStore (u t : State) : Prop := t.slices = u.slices ∧ t.hbm = u.hbm ∧ t.hbmKeys = u.hbmKeys

/-- A write in a line changes HBM as one of the whole line does, no slice, and sends nothing. -/
theorem writeIn_frame (s : State) (pa key : Nat) (b : List Byte) :
    let t := s.writeIn pa key b
    let w := s.writeLine (pa / 64) key (patch (s.readLine (pa / 64) key) (pa % 64) b)
    t.hbm = w.hbm ∧ t.hbmKeys = w.hbmKeys ∧ t.slices = s.slices ∧ t.net = s.net := by
  unfold State.writeIn
  dsimp only
  split
  · exact ⟨rfl, rfl, rfl, rfl⟩
  · split <;> exact ⟨rfl, rfl, rfl, rfl⟩

theorem readLine_congr {u t : State} (hbm : t.hbm = u.hbm) (keys : t.hbmKeys = u.hbmKeys) (line key : Nat) :
    t.readLine line key = u.readLine line key := by
  simp only [State.readLine, hbm, keys]

theorem readPhys_congr {u t : State} (h : SameStore u t) (pa n key : Nat) : t.readPhys pa n key = u.readPhys pa n key := by
  simp only [State.readPhys, readLine_congr h.2.1 h.2.2]

theorem readPhys_writePhys (s : State) (pa key : Nat) (b : List Byte) (hn : 0 < b.length) (h : pa % 64 + b.length ≤ 64) :
    (s.writePhys pa key b).readPhys pa b.length key = b := by
  have fits : pa % 64 + b.length ≤ (s.readLine (pa / 64) key).length := by rw [length_readLine]; exact h
  obtain ⟨hbm, keys, -, -⟩ := writeIn_frame s pa key b
  rw [writePhys_within s pa key b hn h, State.readPhys, linesOf_within hn h, List.flatMap_singleton, readLine_congr hbm keys,
    readLine_writeLine _ _ _ _ ((length_patch _ _ _ fits).trans (length_readLine ..)), read_patch _ _ _ fits]

theorem length_readPhys_le (s : State) (pa n key : Nat) : (s.readPhys pa n key).length ≤ n := List.length_take_le ..

/-- An access of 1, 2, 4 or 8 bytes at a multiple of its size stays within a line under any leaf. -/
theorem leafPa_within {ent va n : Nat} (hn : n ∈ [1, 2, 4, 8]) (hva : va % n = 0) : 0 < n ∧ leafPa ent va % 64 + n ≤ 64 := by
  have hlog : (4096 : Nat) ∣ 2 ^ pageLog (bits ent 3 2) := by
    unfold pageLog
    split
    · exact Nat.pow_dvd_pow 2 (by decide : 12 ≤ 16)
    · split
      · exact Nat.pow_dvd_pow 2 (by decide : 12 ≤ 21)
      · exact Nat.pow_dvd_pow 2 (by decide : 12 ≤ 30)
  have hpa : leafPa ent va % 64 = va % 64 := by
    have := Nat.mod_mod_of_dvd va (Nat.dvd_trans (by decide : 64 ∣ 4096) hlog)
    simp only [leafPa, entPa]
    omega
  rw [hpa]
  simp only [List.mem_cons, List.not_mem_nil, or_false] at hn
  rcases hn with rfl | rfl | rfl | rfl <;> omega

/-! ### Translation under a kept leaf -/

theorem leafFault_none {ent : Nat} {write : Bool} (store : Bool) (h8 : bit ent 8 = false) (h9 : bit ent 9 = false)
    (hw : write = true → bit ent 4 = true) : leafFault ent write store = none := by
  cases write <;> simp_all [leafFault]

theorem touch_eq_self {ent : Nat} {write : Bool} (h5 : bit ent 5 = true) (hw : write = true → bit ent 6 = true) :
    touch ent write = ent := by
  cases write <;> simp_all [touch]

/-- A leaf under which every write is performed at once: its page is writable, neither poisoned nor in migration, and `a` and `d`
stand already (R211). -/
structure LeafWrites (ent : Nat) : Prop where
  w : bit ent 4 = true
  a : bit ent 5 = true
  d : bit ent 6 = true
  mig : bit ent 8 = false
  sound : bit ent 9 = false

theorem translate_kept {s : State} {h asid va : Nat} {write store : Bool} {k : Kept} (hk : (s.slice h).keptFor asid va = some k)
    (hf : leafFault k.ent write store = none) (ht : touch k.ent write = k.ent) :
    s.translate h asid va write store = (s, .ok (leafPa k.ent va) k.ent) := by
  simp only [State.translate, hk, hf, ht, if_true]

theorem translate_kept_fault {s : State} {h asid va : Nat} {write store : Bool} {k : Kept} {c : Nat}
    (hk : (s.slice h).keptFor asid va = some k) (hf : leafFault k.ent write store = some c) :
    s.translate h asid va write store = (s, .fault c (if k.lg = 30 then 3 else 4) k.ent) := by
  simp only [State.translate, hk, hf]

theorem locate_held_read {s : State} {h asid va : Nat} {l : Line} (store : Bool) (hl : (s.slice h).line asid va = some l) :
    s.locate h asid va false store = (s, .ok (l.pa + va % 64) 0) := by
  simp [State.locate, hl]

theorem locate_write (s : State) (h asid va : Nat) (store : Bool) : s.locate h asid va true store = s.translate h asid va true store := by
  unfold State.locate
  split <;> rfl

theorem locate_no_line {s : State} {h asid va : Nat} (write store : Bool) (hl : (s.slice h).line asid va = none) :
    s.locate h asid va write store = s.translate h asid va write store := by
  simp only [State.locate, hl]

/-! ### A walk that ends at an invalid entry -/

theorem walkStep_setSlice (s : State) (g : Nat) (x : SliceSt) (asid va : Nat) (w : WalkAt) :
    (s.setSlice g x).walkStep asid va w = s.walkStep asid va w := by
  cases w <;> rfl

/-- A walk reads the tables alone: it does not depend on what a slice holds. -/
theorem walkFrom_setSlice (s : State) (g : Nat) (x : SliceSt) (asid va n : Nat) (w : WalkAt) :
    (s.setSlice g x).walkFrom asid va n w = s.walkFrom asid va n w := by
  induction n generalizing w with
  | zero => cases w <;> rfl
  | succ n ih => cases w <;> simp only [State.walkFrom, walkStep_setSlice, ih]

/-- A walk that meets an invalid entry ends, and its slice keeps what it holds (R211). -/
theorem translate_invalid {s : State} {h asid va lvl e : Nat} (write store : Bool) (hk : (s.slice h).keptFor asid va = none)
    (key : (s.keyOf (stackOf (8 * asid)) asid).isSome = true)
    (hw : s.walkFrom asid va 5 ((s.slice h).walkAt asid va) = .invalid lvl e false) :
    s.translate h asid va write store = (s.setSlice h { s.slice h with walking := none }, .fault 1 lvl e) := by
  have hkey : (s.keyOf (stackOf (8 * asid)) asid).isNone = false := by rw [← Option.not_isSome, key]; rfl
  simp [State.translate, hk, hkey, State.walkKeep, walkFrom_setSlice, hw, State.keepLeaf]

/-! ### Lines -/

theorem fitLine_no_line {s : State} {h asid va : Nat} (pa : Nat) (uc : Bool) (hl : (s.slice h).line asid va = none) :
    s.fitLine h asid va pa uc = s := by
  simp only [State.fitLine, hl]

theorem fitLine_fits {s : State} {h asid va pa : Nat} {l : Line} (hl : (s.slice h).line asid va = some l)
    (hpa : l.pa = pa / 64 * 64) : s.fitLine h asid va pa false = s := by
  simp [State.fitLine, hl, ← hpa]

theorem fillLine_fits {s : State} {h asid va pa : Nat} {l : Line} (nt : Bool) (hl : (s.slice h).line asid va = some l)
    (hpa : l.pa = pa / 64 * 64) : s.fillLine h asid va pa nt = (s, some l) := by
  simp only [State.fillLine, fitLine_fits hl hpa, hl]

theorem line_setLine (x : SliceSt) (l : Line) (va : Nat) (h : l.va = va / 64) : (x.setLine l).line l.asid va = some l := by
  simp [SliceSt.setLine, SliceSt.line, h]

theorem line_names {x : SliceSt} {asid va : Nat} {l : Line} (hl : x.line asid va = some l) : l.asid = asid ∧ l.va = va / 64 := by
  simpa using List.find?_some hl

theorem slice_setSlice (s : State) (h g : Nat) (x : SliceSt) : (s.setSlice h x).slice g = if g = h then x else s.slice g := by
  by_cases e : g = h
  · rw [if_pos e, e, slice_setSlice_same]
  · rw [if_neg e]
    exact mget_mset_ne s.slices h g x {} e

theorem counted_frame (s : State) (pa n : Nat) : SameStore s (s.counted pa n) ∧ (s.counted pa n).net = s.net := by
  unfold State.counted SameStore
  dsimp only
  split <;> exact ⟨⟨rfl, rfl, rfl⟩, rfl⟩

/-- A held line is read as it is. -/
theorem readAt_held {s : State} {h asid va pa : Nat} {uc : Bool} {l : Line} (n : Nat) (f : Finder) (nt : Bool) (hu : uc = false)
    (hl : (s.slice h).line asid va = some l) (hpa : l.pa = pa / 64 * 64) (hb : l.bad = false) :
    s.readAt h asid va pa n uc f nt = (s, .bytes ((l.data.drop (va % 64)).take n)) := by
  subst hu
  simp [State.readAt, fitLine_fits hl hpa, fillLine_fits nt hl hpa, hb]

/-- Past the lines, the frame itself is read. -/
theorem readAt_uncached {s : State} {h asid va pa n : Nat} {uc : Bool} (f : Finder) (nt : Bool) (hu : uc = true)
    (hl : (s.slice h).line asid va = none) (hb : s.physBad pa n = false) :
    s.readAt h asid va pa n uc f nt = (s, .bytes (s.readPhys pa n (s.devKey pa))) := by
  subst hu
  simp [State.readAt, fitLine_no_line pa true hl, hb]

/-- A write in a held line, which is sound, leaves the line with the bytes put in, and sends nothing. -/
theorem writeAt_held {s : State} {h asid va pa : Nat} {uc : Bool} {l : Line} (b : List Byte) (nt : Bool) (hu : uc = false)
    (hl : (s.slice h).line asid va = some l) (hpa : l.pa = pa / 64 * 64) (hb : l.bad = false) :
    let w := s.writeAt h asid va pa uc b nt
    w.2 = .bytes [] ∧ w.1.net = s.net ∧
      (w.1.slice h).line asid va = some { l with data := patch l.data (va % 64) b, dirty := true } := by
  subst hu
  obtain ⟨rfl, hva⟩ := line_names hl
  simp only [State.writeAt, Bool.false_eq_true, if_false, fillLine_fits nt hl hpa]
  obtain ⟨⟨hs, -, -⟩, hn⟩ := counted_frame
    (s.setSlice h ((s.slice h).setLine { l with data := patch l.data (va % 64) b, dirty := true, bad := l.bad && b.length != 64 }))
    pa b.length
  refine ⟨trivial, hn, ?_⟩
  rw [State.slice, hs, ← State.slice, slice_setSlice_same, hb]
  exact line_setLine _ { l with data := patch l.data (va % 64) b, dirty := true, bad := false } va hva

/-- A write past the lines is one to the frame, which changes no slice and sends nothing. -/
theorem writeAt_uncached {s : State} {h asid va pa n : Nat} {uc : Bool} (v : Nat) (nt : Bool) (hu : uc = true)
    (hl : (s.slice h).line asid va = none) (hn : 0 < n) (hp : pa % 64 + n ≤ 64) :
    let w := s.writeAt h asid va pa uc (leBytes n v) nt
    w.2 = .bytes [] ∧ w.1.net = s.net ∧ w.1.slices = s.slices ∧ w.1.readPhys pa n (s.devKey pa) = leBytes n v := by
  subst hu
  rw [← length_leBytes n v] at hn hp
  simp only [State.writeAt, if_true, fitLine_no_line pa true hl]
  obtain ⟨hs, hnet⟩ := counted_frame (s.writePhys pa (s.devKey pa) (leBytes n v)) pa (leBytes n v).length
  obtain ⟨-, -, fs, fn⟩ := writeIn_frame s pa (s.devKey pa) (leBytes n v)
  have e := writePhys_within s pa (s.devKey pa) _ hn hp
  refine ⟨trivial, ?_, ?_, ?_⟩
  · rw [hnet, e, fn]
  · rw [hs.1, e, fs]
  · rw [readPhys_congr hs]
    have written := readPhys_writePhys s pa (s.devKey pa) _ hn hp
    rwa [length_leBytes] at written

/-! ### What a slice answers -/

theorem exec_sliceAccess (h : Nat) (r : GReq) (s : State) : exec (.sliceAccess h r) s = execSliceAccess h r s := rfl

/-- The access is served in one step, with one reply, in a state of which something holds. -/
def Answers (s : State) (h : Nat) (r : GReq) (v : GRes) (good : State → Prop) : Prop :=
  ∃ t, exec (.sliceAccess h r) s = .next t ∧ Sent s t r.place 0 (.reply { req := r, res := v }) ∧ good t

theorem modBoth_frame (s : State) (p : Nat) (f : Core → Core) : SameStore s (s.modBoth p f) ∧ (s.modBoth p f).net = s.net := by
  unfold State.modBoth State.onBoth SameStore
  split
  · exact ⟨⟨rfl, rfl, rfl⟩, rfl⟩
  · split <;> exact ⟨⟨rfl, rfl, rfl⟩, rfl⟩

/-- The reply goes into the fabric, and neither it nor the note of a performed store changes a slice or HBM. -/
theorem answers_of_serve {s u : State} {h : Nat} {r : GReq} {v : GRes} {good : State → Prop} (hc : r.copy = none)
    (hs : s.sliceServe h r = (u, v)) (hn : u.net = s.net) (hg : ∀ t, SameStore u t → good t) : Answers s h r v good := by
  have key (w : State) (hw : SameStore u w) (wn : w.net = u.net) :
      let t := w.send (w.sliceName h) 2 r.place 0 r.asid (.reply { req := r, res := v })
      Sent s t r.place 0 (.reply { req := r, res := v }) ∧ good t := by
    obtain ⟨x, hx, hp⟩ := sent_of_send w (w.sliceName h) 2 r.place 0 r.asid (.reply { req := r, res := v }) (.inr (.inl (by decide)))
    refine ⟨⟨x, by rw [hx, wn, hn], hp⟩, hg _ ?_⟩
    rw [send_plain _ _ _ _ _ _ _ (.inr (.inl (by decide)))]
    exact hw
  obtain ⟨mb, mn⟩ := modBoth_frame u r.place (fun c => c.seePart r.act r.seq r.part)
  by_cases h1 : r.op = .commit ∧ v = .translated
  · exact ⟨_, by simp only [exec_sliceAccess, execSliceAccess, hc, hs, if_pos h1], key _ mb mn⟩
  · exact ⟨_, by simp only [exec_sliceAccess, execSliceAccess, hc, hs, if_neg h1], key u ⟨rfl, rfl, rfl⟩ rfl⟩

section Serve

variable {s : State} {h : Nat} {r : GReq} {pa ent : Nat} {b : List Byte}

theorem sliceServe_load (hop : r.op = .load) (loc : s.locate h r.asid r.va false false = (s, .ok pa ent))
    (pois : leafPois ent = false) (rd : s.readAt h r.asid r.va pa r.n (leafUc ent) (s.finderOf r) r.nt = (s, .bytes b)) :
    s.sliceServe h r = (s, .data (leNat b)) := by
  simp [State.sliceServe, hop, loc, pois, rd, memRes]

theorem sliceServe_fault {c lvl e : Nat} {u : State} (hop : r.op = .load ∨ r.op = .commit)
    (loc : s.locate h r.asid r.va (r.op = .commit) (r.op = .commit) = (u, .fault c lvl e)) :
    s.sliceServe h r = (u, .fault c lvl e h) := by
  rcases hop with hop | hop <;> simp_all [State.sliceServe]

theorem sliceServe_commit {u : State} (hop : r.op = .commit) (loc : s.locate h r.asid r.va true true = (s, .ok pa ent))
    (wr : s.writeAt h r.asid r.va pa (leafUc ent) (leBytes r.n r.data) r.nt = (u, .bytes b)) :
    s.sliceServe h r = (u, .translated) := by
  simp [State.sliceServe, hop, loc, wr]

/-- The atomics: what a request asks for, and the operation whose value it writes. -/
inductive Atomic : AccOp → LsOp → Prop
  | amo (f : AmoFn) : Atomic (.amo f) (.amo f)
  | cas : Atomic .cas .cas

theorem sliceServe_atomic_writes {o : LsOp} {v : Nat} (ho : Atomic r.op o) (loc : s.locate h r.asid r.va true false = (s, .ok pa ent))
    (pois : leafPois ent = false) (rd : s.readAt h r.asid r.va pa r.n (leafUc ent) (s.finderOf r) r.nt = (s, .bytes b))
    (hv : atomicNew o r.n (leNat b) r.data r.exp = some v) :
    s.sliceServe h r = ((s.writeAt h r.asid r.va pa (leafUc ent) (leBytes r.n v) r.nt).1, .data (leNat b)) := by
  generalize hop : r.op = op at ho
  cases ho <;> simp [State.sliceServe, hop, loc, pois, rd, hv]

theorem sliceServe_atomic_keeps {o : LsOp} (ho : Atomic r.op o) (loc : s.locate h r.asid r.va true false = (s, .ok pa ent))
    (pois : leafPois ent = false) (rd : s.readAt h r.asid r.va pa r.n (leafUc ent) (s.finderOf r) r.nt = (s, .bytes b))
    (hv : atomicNew o r.n (leNat b) r.data r.exp = none) : s.sliceServe h r = (s, .data (leNat b)) := by
  generalize hop : r.op = op at ho
  cases ho <;> simp [State.sliceServe, hop, loc, pois, rd, hv]

/-- Where a store or an atomic of a request is performed: at `pa` under the leaf `ent`, where the bytes `b` stand. -/
structure Stands (s : State) (h : Nat) (r : GReq) (pa ent : Nat) (b : List Byte) : Prop where
  located : ∀ store, s.locate h r.asid r.va true store = (s, .ok pa ent)
  sound : leafPois ent = false
  reads : ∀ f, s.readAt h r.asid r.va pa r.n (leafUc ent) f r.nt = (s, .bytes b)
  short : b.length ≤ r.n
  writes : ∀ v, (s.writeAt h r.asid r.va pa (leafUc ent) (leBytes r.n v) r.nt).2 = .bytes []
  quiet : ∀ v, (s.writeAt h r.asid r.va pa (leafUc ent) (leBytes r.n v) r.nt).1.net = s.net

/-- There a store writes its data, an atomic the value of Table 06.3, and `cas` its data where the old value is the expected one;
an atomic has the old value for an answer. -/
theorem Stands.serves (w : Stands s h r pa ent b) (hc : r.copy = none) {wrote : Nat → State → Prop}
    (hw : ∀ v t, SameStore (s.writeAt h r.asid r.va pa (leafUc ent) (leBytes r.n v) r.nt).1 t → wrote v t) :
    (r.op = .commit → Answers s h r .translated (wrote r.data)) ∧
      (∀ f, r.op = .amo f → 0 < r.n → r.data < 256 ^ r.n → Answers s h r (.data (leNat b))
        (wrote (amoValue (BitVec.ofNat (8 * r.n) (leNat b)) (BitVec.ofNat (8 * r.n) r.data) f).toNat)) ∧
      (r.op = .cas → (leNat b = r.exp → Answers s h r (.data (leNat b)) (wrote r.data)) ∧
        (leNat b ≠ r.exp → Answers s h r (.data (leNat b)) (fun t => t.slices = s.slices))) := by
  have old : leNat b < 256 ^ r.n := Nat.lt_of_lt_of_le (leNat_lt b) (Nat.pow_le_pow_right (by decide) w.short)
  refine ⟨fun hop => ?_, fun f hop hn hd => ?_, fun hop => ⟨fun he => ?_, fun he => ?_⟩⟩
  · exact answers_of_serve hc (sliceServe_commit hop (w.located true) (Prod.ext rfl (w.writes r.data))) (w.quiet _) (hw _)
  · exact answers_of_serve hc (sliceServe_atomic_writes (hop ▸ .amo f) (w.located false) w.sound (w.reads _)
      (atomicNew_amo r.exp f hn old hd)) (w.quiet _) (hw _)
  · exact answers_of_serve hc (sliceServe_atomic_writes (hop ▸ Atomic.cas) (w.located false) w.sound (w.reads _)
      (by simp [atomicNew, he])) (w.quiet _) (hw _)
  · exact answers_of_serve hc (sliceServe_atomic_keeps (hop ▸ Atomic.cas) (w.located false) w.sound (w.reads _)
      (by simp [atomicNew, he])) rfl (fun t ht => ht.1)

end Serve

/-! ### Accesses under a kept leaf, and without one -/

section Parts

variable {s : State} {h : Nat} {r : GReq} {k : Kept} {l : Line}

theorem locate_kept_write (hk : (s.slice h).keptFor r.asid r.va = some k) (hw : LeafWrites k.ent) (store : Bool) :
    s.locate h r.asid r.va true store = (s, .ok (leafPa k.ent r.va) k.ent) :=
  (locate_write ..).trans
    (translate_kept hk (leafFault_none store hw.mig hw.sound fun _ => hw.w) (touch_eq_self hw.a fun _ => hw.d))

/-- A held line serves stores and atomics under a kept leaf whose page is writable, sound and cached. -/
theorem stands_held (hl : (s.slice h).line r.asid r.va = some l) (hb : l.bad = false)
    (hk : (s.slice h).keptFor r.asid r.va = some k) (hw : LeafWrites k.ent) (h10 : leafUc k.ent = false) (hpa : l.pa = leafPa k.ent r.va / 64 * 64) :
    Stands s h r (leafPa k.ent r.va) k.ent ((l.data.drop (r.va % 64)).take r.n) where
  located := locate_kept_write hk hw
  sound := hw.sound
  reads f := readAt_held r.n f r.nt h10 hl hpa hb
  short := List.length_take_le ..
  writes _ := (writeAt_held _ r.nt h10 hl hpa hb).1
  quiet _ := (writeAt_held _ r.nt h10 hl hpa hb).2.1

/-- The frame itself serves stores and atomics under a kept leaf with `uc`. -/
theorem stands_uncached (hl : (s.slice h).line r.asid r.va = none) (hk : (s.slice h).keptFor r.asid r.va = some k)
    (hw : LeafWrites k.ent) (h10 : leafUc k.ent = true) (hb : s.physBad (leafPa k.ent r.va) r.n = false)
    (hn : 0 < r.n) (hp : leafPa k.ent r.va % 64 + r.n ≤ 64) :
    Stands s h r (leafPa k.ent r.va) k.ent (s.readPhys (leafPa k.ent r.va) r.n (s.devKey (leafPa k.ent r.va))) where
  located := locate_kept_write hk hw
  sound := hw.sound
  reads f := readAt_uncached f r.nt h10 hl hb
  short := length_readPhys_le ..
  writes v := (writeAt_uncached v r.nt h10 hl hn hp).1
  quiet v := (writeAt_uncached v r.nt h10 hl hn hp).2.1

/-- The line that a request names holds a value in place of the bytes that the request names, and is dirty. -/
def LineHolds (h : Nat) (r : GReq) (l : Line) (v : Nat) (t : State) : Prop :=
  (t.slice h).line r.asid r.va = some { l with data := patch l.data (r.va % 64) (leBytes r.n v), dirty := true }

/-- The frame holds a value, read under the device key, and the slices hold what they held. -/
def FrameHolds (s : State) (r : GReq) (pa v : Nat) (t : State) : Prop :=
  t.readPhys pa r.n (s.devKey pa) = leBytes r.n v ∧ t.slices = s.slices

theorem lineHolds_of_writeAt {t : State} {v pa : Nat} {uc : Bool} (hu : uc = false) (hl : (s.slice h).line r.asid r.va = some l)
    (hpa : l.pa = pa / 64 * 64) (hb : l.bad = false) (ht : SameStore (s.writeAt h r.asid r.va pa uc (leBytes r.n v) r.nt).1 t) :
    LineHolds h r l v t := by
  rw [LineHolds, State.slice, ht.1, ← State.slice]
  exact (writeAt_held (leBytes r.n v) r.nt hu hl hpa hb).2.2

theorem frameHolds_of_writeAt {t : State} {v pa : Nat} {uc : Bool} (hu : uc = true) (hl : (s.slice h).line r.asid r.va = none)
    (hn : 0 < r.n) (hp : pa % 64 + r.n ≤ 64) (ht : SameStore (s.writeAt h r.asid r.va pa uc (leBytes r.n v) r.nt).1 t) :
    FrameHolds s r pa v t := by
  obtain ⟨-, -, hs, hr⟩ := writeAt_uncached v r.nt hu hl hn hp
  exact ⟨(readPhys_congr ht ..).trans hr, ht.1.trans hs⟩

/-- A load of a held line is served without translation (R202). -/
theorem load_of_held_line (hc : r.copy = none) (hl : (s.slice h).line r.asid r.va = some l) (hb : l.bad = false) (h64 : l.pa % 64 = 0)
    (hop : r.op = .load) :
    Answers s h r (.data (leNat ((l.data.drop (r.va % 64)).take r.n))) (fun t => t.slices = s.slices) := by
  have hpa : l.pa = (l.pa + r.va % 64) / 64 * 64 := by omega
  exact answers_of_serve hc (sliceServe_load hop (locate_held_read false hl) rfl (readAt_held r.n _ r.nt rfl hl hpa hb)) rfl
    (fun t ht => ht.1)

/-- A load past the lines reads the frame, under a kept leaf that needs no bit set. -/
theorem load_of_frame (hc : r.copy = none) (hl : (s.slice h).line r.asid r.va = none) (hk : (s.slice h).keptFor r.asid r.va = some k)
    (h5 : bit k.ent 5 = true) (h8 : bit k.ent 8 = false) (h9 : bit k.ent 9 = false) (h10 : leafUc k.ent = true)
    (hb : s.physBad (leafPa k.ent r.va) r.n = false) (hop : r.op = .load) :
    Answers s h r (.data (leNat (s.readPhys (leafPa k.ent r.va) r.n (s.devKey (leafPa k.ent r.va))))) (fun t => t.slices = s.slices) := by
  have loc : s.locate h r.asid r.va false false = (s, .ok (leafPa k.ent r.va) k.ent) :=
    (locate_no_line _ _ hl).trans (translate_kept hk (leafFault_none false h8 h9 nofun) (touch_eq_self h5 nofun))
  exact answers_of_serve hc (sliceServe_load hop loc h9 (readAt_uncached _ r.nt h10 hl hb)) rfl (fun t ht => ht.1)

/-- A store to a page without `w` has a fault reply of cause 2 (R211). -/
theorem unwritable_store_faults (hc : r.copy = none) (hk : (s.slice h).keptFor r.asid r.va = some k) (h4 : bit k.ent 4 = false)
    (h8 : bit k.ent 8 = false) (h9 : bit k.ent 9 = false) (hop : r.op = .commit) :
    Answers s h r (.fault 2 (if k.lg = 30 then 3 else 4) k.ent h) (fun t => t.slices = s.slices) := by
  have hf : leafFault k.ent true true = some 2 := by simp [leafFault, h4, h8, h9]
  exact answers_of_serve hc (sliceServe_fault (.inr hop) (by simpa [hop] using (locate_write ..).trans (translate_kept_fault hk hf)))
    rfl (fun t ht => ht.1)

/-- A load whose walk meets an invalid entry has a fault reply of cause 1. -/
theorem invalid_walk_faults {lvl e : Nat} (hc : r.copy = none) (hl : (s.slice h).line r.asid r.va = none)
    (hk : (s.slice h).keptFor r.asid r.va = none) (key : (s.keyOf (stackOf (8 * r.asid)) r.asid).isSome = true)
    (hw : s.walkFrom r.asid r.va 5 ((s.slice h).walkAt r.asid r.va) = .invalid lvl e false) (hop : r.op = .load) :
    Answers s h r (.fault 1 lvl e h) (fun t => ∀ g, (t.slice g).lines = (s.slice g).lines ∧ (t.slice g).kept = (s.slice g).kept) := by
  refine answers_of_serve hc (sliceServe_fault (.inl hop) ((locate_no_line _ _ hl).trans (translate_invalid _ _ hk key hw))) rfl
    fun t ht g => ?_
  rw [State.slice, ht.1, ← State.slice, slice_setSlice]
  split
  next hg => exact hg ▸ ⟨rfl, rfl⟩
  · exact ⟨rfl, rfl⟩

end Parts

/-- Settles O25, clause by clause: a load of a held line needs no translation; stores and atomics are served alike where their bytes
stand, in a held line (`stands_held`) or past the lines (`stands_uncached`); the two faults end before the line is reached. -/
theorem slicesServeAccesses : Obligations.SlicesServeAccesses := by
  unfold Obligations.SlicesServeAccesses
  intro s h r k l x reply answers same hc
  refine ⟨fun hl hb h64 => ⟨load_of_held_line hc hl hb h64, fun hk h5 h8 h9 h10 hpa => ⟨fun h4 h6 => ?_, fun h4 hop => ?_⟩⟩,
    fun hl hk h4 h5 h6 h8 h9 h10 _ hb hn hva hd => ⟨load_of_frame hc hl hk h5 h8 h9 h10 hb, ?_⟩,
    fun lvl e hl hk key hw hop => invalid_walk_faults hc hl hk key hw hop⟩
  · obtain ⟨store, amo, cas⟩ := (stands_held hl hb hk ⟨h4, h5, h6, h8, h9⟩ h10 hpa).serves hc
      (wrote := LineHolds h r l) fun v t ht => lineHolds_of_writeAt h10 hl hpa hb ht
    exact ⟨store, fun f hop hn hd => amo f hop (Nat.pos_of_ne_zero fun e => by simp [e] at hn) hd, cas⟩
  · exact ⟨_, unwritable_store_faults hc hk h4 h8 h9 hop⟩
  · obtain ⟨hn0, hp⟩ := leafPa_within (ent := k.ent) hn hva
    obtain ⟨store, amo, cas⟩ := (stands_uncached hl hk ⟨h4, h5, h6, h8, h9⟩ h10 hb hn0 hp).serves hc
      (wrote := FrameHolds s r (leafPa k.ent r.va)) fun v t ht => frameHolds_of_writeAt h10 hl hn0 hp ht
    exact ⟨store, fun f hop => amo f hop hn0 hd, cas⟩

end Sys2Proof.Proofs.SliceAccess
end
